-- ==== Sys2Proof/Word.lean ====
section
/-! DEFINITION. The word types of the BV2416: a byte of a frame or a port transfer, a 16-bit word of the
configuration store or a converter reply, a 32-bit count or crossing time. Only what the manual treats as bits
is a bit vector; quantities it computes with are `Int` or `Nat`. -/

namespace Sys2Proof

/-- A byte of a bay record, a frame or a port transfer. -/
abbrev Byte := BitVec 8

/-- A 16-bit word: a port data word, a store word, a converter sample or a status word. -/
abbrev Word := BitVec 16

/-- A 32-bit value that wraps: the cycle count (R26), the running strobe count (R2), a crossing time (R14). -/
abbrev Count := BitVec 32

/-- A set of station numbers 0 to 15, bit k standing for station k (the peer mask, the expected sets, the heard lists). -/
abbrev StationSet := BitVec 16

/-- A station number, 0 to 15. -/
abbrev Station := Fin 16

end Sys2Proof
end

