-- ==== Sys2Proof/Vocab.lean ====
section
/-! DEFINITION. The named values of the manual: roles, sections, states, reasons and codes, each a closed
inductive type, and the small record types that several blocks share. -/

namespace Sys2Proof

/-- The role of a station, fixed by its configuration (00_scope, R44). -/
inductive Role | incomer | tie | generator | feeder
deriving DecidableEq, Repr

/-- One of the two bus sections. A section value of 0 is `none : Option Sec`. -/
inductive Sec | one | two
deriving DecidableEq, Repr

/-- The other section (R187). -/
def Sec.other : Sec → Sec
  | .one => .two
  | .two => .one

/-- The five-valued breaker state a station publishes (R115). -/
inductive Summary | opened | closing | closed | opening | faulty
deriving DecidableEq, Repr

/-- The alignment field of the record (R42). -/
inductive Alignment | aligned | relocked | selfTimed
deriving DecidableEq, Repr

/-- The measurement state (R4, R5). -/
inductive MeasState | valid | warmup | fail
deriving DecidableEq, Repr

/-- The classification of a voltage (R13). -/
inductive VClass | live | dead | indeterminate
deriving DecidableEq, Repr

/-- AUTO or MANUAL (R173). -/
inductive Mode | auto | manual
deriving DecidableEq, Repr

/-- The type of a claim (R118). -/
inductive ClaimType | none | deadBus | restore
deriving DecidableEq, Repr

/-- The requesting unit a claim came from (R118). -/
inductive Origin | tru | gcu | fcu | operator
deriving DecidableEq, Repr

/-- The transfer state field of the record, codes 0 to 14 (wire formats). `none` is code 0, a generator or a feeder. -/
inductive TransferCode
  | none | manual | normal | lossConfirm | isolating | deadWait | onAlternate | returnWait | resync | parallel
  | openReturn | halted | tieOpen | tieClaim | tieFeeding
deriving DecidableEq, Repr

/-- The generator unit states in the order of their codes (wire formats). -/
inductive UnitState
  | idle | starting | deadbus | sync | syncWait | online | unload | cooldown | fail
deriving DecidableEq, Repr

/-- The bias modes in the order of their codes (R158). -/
inductive BiasMode | off | sync | isoch | base | unload | droop
deriving DecidableEq, Repr

/-- The shed states in the order of their codes (R163). -/
inductive ShedState | normal | shed | restoring | manualOpen
deriving DecidableEq, Repr

/-- The state of an island (R58). -/
inductive IslandState | grid | genset | dead | unknown
deriving DecidableEq, Repr

/-- The seven channels, in their order (chapter 1). -/
inductive Channel | va | vb | vc | vl | ia | ib | ic
deriving DecidableEq, Repr

/-- One value for each of the seven channels. -/
structure Seven (α : Type) where
  va : α
  vb : α
  vc : α
  vl : α
  ia : α
  ib : α
  ic : α
deriving DecidableEq, Repr

/-- The value of one channel. -/
def Seven.get {α : Type} (x : Seven α) : Channel → α
  | .va => x.va
  | .vb => x.vb
  | .vc => x.vc
  | .vl => x.vl
  | .ia => x.ia
  | .ib => x.ib
  | .ic => x.ic

/-- The seven values built channel by channel. -/
def Seven.ofFn {α : Type} (f : Channel → α) : Seven α :=
  { va := f .va, vb := f .vb, vc := f .vc, vl := f .vl, ia := f .ia, ib := f .ib, ic := f .ic }

/-- The two crossing channels: VA gives the bus frequency, VL the line frequency (R14, R16). -/
inductive CrossChannel | bus | line
deriving DecidableEq, Repr

/-- The eight elements of PRU in their table order (chapter 4): I>, I>>, UV, OV, UF, OF, ROCOF, reverse power. -/
inductive Element | overI | highI | underV | overV | underF | overF | rocof | revPower
deriving DecidableEq, Repr

/-- One value for each of the eight elements. -/
structure Eight (α : Type) where
  overI : α
  highI : α
  underV : α
  overV : α
  underF : α
  overF : α
  rocof : α
  revPower : α
deriving DecidableEq, Repr

/-- The value of one element. -/
def Eight.get {α : Type} (x : Eight α) : Element → α
  | .overI => x.overI
  | .highI => x.highI
  | .underV => x.underV
  | .overV => x.overV
  | .underF => x.underF
  | .overF => x.overF
  | .rocof => x.rocof
  | .revPower => x.revPower

/-- The eight values built element by element. -/
def Eight.ofFn {α : Type} (f : Element → α) : Eight α :=
  { overI := f .overI, highI := f .highI, underV := f .underV, overV := f .overV,
    underF := f .underF, overF := f .overF, rocof := f .rocof, revPower := f .revPower }

/-- The eight elements in table order. -/
def allElements : List Element :=
  [.overI, .highI, .underV, .overV, .underF, .overF, .rocof, .revPower]

/-- The action of an element (R67). -/
inductive Action | off | alarm | trip
deriving DecidableEq, Repr

/-- The differential action (R85). -/
inductive DiffAction | off | trip
deriving DecidableEq, Repr

/-- The group mode of a half (R80). -/
inductive GroupMode | auto | fix0 | fix1
deriving DecidableEq, Repr

/-- The two halves of the protection settings (chapter 4). -/
inductive Half | fault | source
deriving DecidableEq, Repr

/-- The functions an input line may be given (R102). -/
inductive InFn
  | none | brkClosed | brkOpen | engineReady | extTrip | extBlockClose | extLockout | utilityPermit
deriving DecidableEq, Repr

/-- The sources an output line may be given (R104). -/
inductive OutSrc
  | none | trip | close | bfTrip | engineRun | lockout | alarm | syncPermit | onGrid | startDemand
deriving DecidableEq, Repr

/-- The permitted direction of the slip (R133). -/
inductive Direction | any | positive | negative
deriving DecidableEq, Repr

/-- The two under-frequency stages of a feeder (R167). -/
inductive Stage | one | two
deriving DecidableEq, Repr

/-- The two triples of gains a broadcast trim write reaches (R192). -/
inductive Triple | current | voltage
deriving DecidableEq, Repr

/-- The four trigger sources of CAP, as a set (R20). -/
structure Sources where
  trip : Bool
  diff : Bool
  bf : Bool
  command : Bool
deriving DecidableEq, Repr

/-- One trigger source (R20). -/
inductive Trigger | trip | diff | bf | command
deriving DecidableEq, Repr

/-- Membership of a source in a set of sources. -/
def Sources.has (m : Sources) : Trigger → Bool
  | .trip => m.trip
  | .diff => m.diff
  | .bf => m.bf
  | .command => m.command

/-- A set of sources with one more. -/
def Sources.insert (m : Sources) : Trigger → Sources
  | .trip => { m with trip := true }
  | .diff => { m with diff := true }
  | .bf => { m with bf := true }
  | .command => { m with command := true }

/-- The empty set of sources. -/
def Sources.empty : Sources := { trip := false, diff := false, bf := false, command := false }

/-- The sixteen station numbers, ascending. -/
def allStations : List Station := [0, 1, 2, 3, 4, 5, 6, 7, 8, 9, 10, 11, 12, 13, 14, 15]

/-- Membership of a station in a set. That bit k of the peer-mask word stands for station k is the model's choice (R194, log 72). -/
def StationSet.has (m : StationSet) (k : Station) : Bool := m.getLsbD k.val

/-- A set with one more station. -/
def StationSet.insert (m : StationSet) (k : Station) : StationSet := m ||| BitVec.twoPow 16 k.val

/-- The lowest station of a set, if it has one. -/
def StationSet.lowest (m : StationSet) : Option Station := allStations.find? fun k => StationSet.has m k

end Sys2Proof
end

