-- ==== Sys2Proof/Syntax.lean ====
section
/-! DEFINITION. The commands of the BV2416: one constructor of `Instr` for each row of spec/opcode_table.json, and
the operand types the commands carry. The part executes no program: a command is an event of the part's timers,
of its converter port, lines and link, or a port transfer of the bay processor. -/

namespace Sys2Proof

/-- What the converters have clocked in for a strobe by the next strobe (R2): nothing complete, or seven samples
in channel order and the status word. -/
inductive Reply
  | missing
  | complete (samples : Seven Word) (status : Word)
deriving DecidableEq, Repr

/-- The physical levels of IN0 to IN7 at a strobe, true for high (R101). -/
abbrev Levels := Vector Bool 8

/-- A frame heard on the pair (R28). `start` is the position of its first bit on the own cycle timer, in units of
1/96 µs from the start of the link cycle (log 5), `bytes` the 38 record bytes in the order sent, `tail` the 8 bits
after them. -/
structure Frame where
  start : Nat
  bytes : List Byte
  tail : Byte
deriving DecidableEq, Repr

/-- What is heard in the own slot after an own transmission (R30). -/
inductive Heard
  | silent
  | frame (f : Frame)
deriving DecidableEq, Repr

/-- The parts of a strobe whose order the manual leaves open (log 3): the measurement with, at a phasor instant, the
evaluation of PRU, and the four consequences of contact events taken at the same strobe. -/
inductive StrobeTask | measure | pair | extTrip | extBlock | extLockout
deriving DecidableEq, Repr

/-- The parts of a cycle close whose order the manual leaves open (log 2). BCU has three: its counts, its close drop,
and the trip request of a standing EXT_TRIP. -/
inductive CloseBlock | pru | dbu | bcuCounts | bcuDrop | bcuTrip | clu | syu | gcu | fcu | tru
deriving DecidableEq, Repr

/-- The numeric words of the configuration tables (chapters 1 to 11). -/
inductive NumWord
  | station | sect | peerMask | fNom | strobeOffset | gain (c : Channel) | polarity | rI | rVB | rVL | vLive | vDead
  | capLen | pre | debounce | tCloseMax | tDisc | tBf | tRestore | sMax | dvMax | window | tCloseMs | tSyncMax
  | pRated | tStart | tRetry | tUnload | tCool | lBase | lOff | ramp | sTarget | gS | gV | gL | gF | gQ | gU
  | priority | margin | ufPickup (s : Stage) | ufDelay (s : Stage) | ufThreshold (s : Stage) | pDead
  | vULo | vUHi | fULo | fUHi | tLoss | tReturnShort | tReturn | tResync | tParallelMax | resyncOffset
deriving DecidableEq, Repr

/-- The numeric words of the group window (chapters 4 and 5): those of the fault half, then pickup and delay of an
element of the source half. -/
inductive GroupWord
  | overIPickup | overIDelay | highIPickup | ipu | slope | confirm
  | pickup (e : Element) | delay (e : Element)
deriving DecidableEq, Repr

/-- The words of the configuration tables that code a value: a role, a set, a mode, an assignment or a flag. -/
inductive CodedItem
  | role | triggers | groupMode (h : Half) | inputLine (i : Fin 8) | outputLine (i : Fin 8) | deadDead | direction
  | startMode | openTransition | tieTransfer
deriving DecidableEq, Repr

/-- The words of the group window that code a value. -/
inductive GroupCoded | action (e : Element) | highILockout | diffAction
deriving DecidableEq, Repr

/-- A word of the configuration store: one of the tables, or one of the group window in the instance selected (R192). -/
inductive StoreItem
  | number (x : NumWord)
  | coded (x : CodedItem)
  | group (x : GroupWord)
  | groupCoded (x : GroupCoded)
deriving DecidableEq, Repr

/-- A word written to the port, named by the item it is written to (log 6). A word that codes a value carries that value,
`none` for a code that defines none, and the word `w` itself, which the store keeps as written (R192, log 7). `other` is a
word written at an address that is none of the store's: read-only, empty, or with a row of its own. -/
inductive ConfigWrite
  | number (x : NumWord) (w : Word)
  | role (v : Option Role) (w : Word)
  | triggers (m : Sources) (w : Word)
  | groupMode (h : Half) (v : Option GroupMode) (w : Word)
  | inputLine (i : Fin 8) (f : Option InFn) (low : Bool) (w : Word)
  | outputLine (i : Fin 8) (f : Option OutSrc) (low : Bool) (w : Word)
  | deadDead (v : Bool) (w : Word)
  | direction (v : Option Direction) (w : Word)
  | startMode (v : Option Mode) (w : Word)
  | openTransition (v : Bool) (w : Word)
  | tieTransfer (v : Bool) (w : Word)
  | groupNumber (x : GroupWord) (w : Word)
  | action (e : Element) (v : Option Action) (w : Word)
  | highILockout (v : Bool) (w : Word)
  | diffAction (v : Option DiffAction) (w : Word)
  | other (a : Word) (w : Word)
deriving DecidableEq, Repr

/-- The item of the store a write reaches, none for a word written elsewhere. -/
def ConfigWrite.item : ConfigWrite → Option StoreItem
  | .number x _ => some (.number x)
  | .role _ _ => some (.coded .role)
  | .triggers _ _ => some (.coded .triggers)
  | .groupMode h _ _ => some (.coded (.groupMode h))
  | .inputLine i _ _ _ => some (.coded (.inputLine i))
  | .outputLine i _ _ _ => some (.coded (.outputLine i))
  | .deadDead _ _ => some (.coded .deadDead)
  | .direction _ _ => some (.coded .direction)
  | .startMode _ _ => some (.coded .startMode)
  | .openTransition _ _ => some (.coded .openTransition)
  | .tieTransfer _ _ => some (.coded .tieTransfer)
  | .groupNumber x _ => some (.group x)
  | .action e _ _ => some (.groupCoded (.action e))
  | .highILockout _ _ => some (.groupCoded .highILockout)
  | .diffAction _ _ => some (.groupCoded .diffAction)
  | .other _ _ => none

/-- The word a write carries. -/
def ConfigWrite.word : ConfigWrite → Word
  | .number _ w => w
  | .role _ w => w
  | .triggers _ w => w
  | .groupMode _ _ w => w
  | .inputLine _ _ _ w => w
  | .outputLine _ _ _ w => w
  | .deadDead _ w => w
  | .direction _ w => w
  | .startMode _ w => w
  | .openTransition _ w => w
  | .tieTransfer _ w => w
  | .groupNumber _ w => w
  | .action _ _ w => w
  | .highILockout _ w => w
  | .diffAction _ w => w
  | .other _ w => w

/-- One word of an entry of the operation list (R70). -/
inductive OperationField | element | half | group | action | phases | cycle (high : Bool)
deriving DecidableEq, Repr

/-- The words of the live measurement snapshot (R18). The spec gives no word layout: that a number takes one word where it fits
one, as P256 does (R15, R16), and two by their halves where it does not, as ROCOF, is the model's choice (log 6). -/
inductive SnapshotItem
  | label (high : Bool) | re (c : Channel) | im (c : Channel) | magnitude (c : Channel) | vMin | vMax | clipped (c : Channel)
  | p | q | phaseClass (c : Channel) | busClass | fBus | fLine | periodBus | periodLine
  | tBus (high : Bool) | tLine (high : Bool) | meas | rocof (high : Bool)
deriving DecidableEq, Repr

/-- The words of the capture records (R24). -/
inductive CaptureItem | sources | cycle (high : Bool) | trigger | start | pre | retriggered | lost
deriving DecidableEq, Repr

/-- The status words of every block (R46, R61, R84, R92, R95, R99, R101 to R104, R116, R130, R131, R162, R163, R189), those
that do not fit one word by their halves (log 6). -/
inductive StatusItem
  | missing | measState
  | link | crcError | slotMismatch | late | duplicateSeen | referenceMissing | mismatches | lates | relocks
  | crcErrors (k : Station) | reference | alignment | relockCycle (high : Bool) | silence | silentCount
  | tieIdentity | expected (x : Sec) | islandMap | islandState (x : Sec) | ownIsland | lockoutView (x : Sec)
  | elementState (e : Element) | elementCount (e : Element) | elementPhases (e : Element) | elementDelay (e : Element)
  | tripActive | tripRequest | pruAlarm | group (h : Half) | groupMode (h : Half) | operation (n : Fin 8) (f : OperationField)
  | evaluation (x : Sec) | blockReason (x : Sec) | blockStation (x : Sec) | iop (x : Sec) (p : Fin 3) (high : Bool)
  | ires (x : Sec) (p : Fin 3) (high : Bool) | operating (x : Sec) | confirm (x : Sec) | blockedCount (x : Sec)
  | zoneBlocked (x : Sec) | bfTimer | bfCount | bfNotice | lockout | lockoutSource
  | rawLevel (i : Fin 8) | function (f : InFn) | source (o : OutSrc) | outputLevel (i : Fin 8) | breaker | contactPair
  | pairJudged | trip | close | hold | supervision | discrepancy | reconfirmation | closeOwner | closeOutcome
  | closeOutcomeCycle (high : Bool) | closeRefusal | closeRefusalUnit | closeRefusalCycle (high : Bool)
  | closeFail (high : Bool) | uncommandedClose (high : Bool) | uncommandedOpen (high : Bool) | discrepant (high : Bool)
  | claimType | claimTarget | claimRank | claimOrigin | won (x : Sec) | deadBusWinner (x : Sec) | restoreWinner (x : Sec)
  | inFlightKind | inFlightTarget | claimOutcome | operatorResult | operatorResultCycle (high : Bool) | claimAge
  | feederClose (x : Sec) (high : Bool) | sinceFeederClose (x : Sec) (high : Bool) | abortCycle (high : Bool)
  | syncState | syncOwner | syncSupervision | syncPermit | slip | dv (high : Bool) | angle | advance (high : Bool) | predicted | condition (n : Fin 7)
  | failing | checkCycle (high : Bool) | syncEnding | syncEndingOwner | syncEndingCycle (high : Bool)
  | unitState | biasMode | speedBias | voltBias | rampTarget | startCount | retryCount | unloadCount | coolCount | failReason
  | droopCause | droopStation | demand | stopNotice | fRef | lAvg | lqAvg | unitLastSeen (k : Station)
  | shedState | shedReason | manualCause | heldLoad | lastLoad | overCount | stageCount (st : Stage) | deadCount | guard
  | openPending | limit (high : Bool) | capacity (high : Bool) | cumulative (high : Bool) | position
  | mode | transferState | derive | holdFlag | startDemand | openDemand | parallelTimeout | healthy | judged | healthyRun
  | lossCount | returnCount | resyncCount | parallelCount | resyncReference | resyncOffset | direction | lastAnswer
  | lastAnswerCycle (high : Bool)
deriving DecidableEq, Repr

/-- The commands: one constructor for each row of spec/opcode_table.json, in the table's order. -/
inductive Instr
  /-- POWER_ON_RESET (R194) -/
  | powerOnReset
  /-- RESET_N (R194): the pin is asserted. -/
  | resetN
  /-- SAMPLE_STROBE (R2) at grid point `g`, with the reply of the strobe before and the input levels. -/
  | sampleStrobe (g : Fin 8) (r : Reply) (l : Levels) (o : List StrobeTask)
  /-- MEASUREMENT_FAIL (R4) -/
  | measurementFail
  /-- GOOD_RUN_COMPLETE (R4) -/
  | goodRunComplete
  /-- CROSSING_LIST_TIMEOUT (R15) -/
  | crossingListTimeout (c : CrossChannel)
  /-- PHASOR_INSTANT (R18): the strobe of grid point 0. -/
  | phasorInstant (r : Reply) (l : Levels) (o : List StrobeTask)
  /-- WARMUP_COMPLETE (R5) -/
  | warmupComplete
  /-- ELEMENT_OPERATE (R66) -/
  | elementOperate (e : Element)
  /-- CAPTURE_HELD (R22) -/
  | captureHeld
  /-- OWN_SLOT (R43) -/
  | ownSlot
  /-- READ_BACK (R30) -/
  | readBack (h : Heard)
  /-- RECORD_ARRIVAL (R28) -/
  | recordArrival (f : Frame)
  /-- CYCLE_CLOSE (R26), with the order in which its blocks are taken. -/
  | cycleClose (o : List CloseBlock)
  /-- LISTEN_COMPLETE (R29) -/
  | listenComplete
  /-- SILENT_SLOT_EXPIRY (R31) -/
  | silentSlotExpiry
  /-- SELF_TIMED (R41) -/
  | selfTimed
  /-- DIFFERENTIAL_TRIP (R89) -/
  | differentialTrip (x : Sec)
  /-- ZONE_BLOCKED (R91) -/
  | zoneBlocked (x : Sec)
  /-- BF_EXPIRY (R94) -/
  | bfExpiry
  /-- CONTACT_EVENT (R101): input line `i`, held at physical level `high` for N strobes. -/
  | contactEvent (i : Fin 8) (high : Bool)
  /-- RECONFIRMATION (R103) -/
  | reconfirmation
  /-- CLOSE_SUPERVISION_EXPIRY (R107) -/
  | closeSupervisionExpiry
  /-- TRIP_RELEASE (R110) -/
  | tripRelease
  /-- DISCREPANCY_EXPIRY (R113) -/
  | discrepancyExpiry
  /-- OPERATOR_CLAIM_EXPIRY (R126) -/
  | operatorClaimExpiry
  /-- RESTORE_DELAY_EXPIRY (R128) -/
  | restoreDelayExpiry
  /-- SYNC_SUPERVISION_EXPIRY (R140) -/
  | syncSupervisionExpiry
  /-- START_FAIL (R150) -/
  | startFail
  /-- RETRY_EXPIRY (R152) -/
  | retryExpiry
  /-- UNLOAD_EXPIRY (R154) -/
  | unloadExpiry
  /-- COOL_EXPIRY (R155) -/
  | coolExpiry
  /-- CAPACITY_SHED (R166) -/
  | capacityShed
  /-- UNDERFREQ_SHED (R167) -/
  | underfreqShed (st : Stage)
  /-- DEADBUS_SHED (R168) -/
  | deadbusShed
  /-- LOSS_CONFIRM_EXPIRY (R177) -/
  | lossConfirmExpiry
  /-- RETURN_SHORT_EXPIRY (R179) -/
  | returnShortExpiry
  /-- RETURN_EXPIRY (R180) -/
  | returnExpiry
  /-- RESYNC_EXPIRY (R181) -/
  | resyncExpiry
  /-- PARALLEL_TIMEOUT (R182) -/
  | parallelTimeout
  /-- PORT_NOP (R190), with its command byte. -/
  | portNop (b : Byte)
  /-- START (R194) -/
  | start
  /-- STOP (R194) -/
  | stop
  /-- SOFT_RESET (R194) -/
  | softReset
  /-- OPEN (R109) -/
  | openBreaker
  /-- CLOSE (R125) -/
  | closeBreaker
  /-- SET_AUTO (R185) -/
  | setAuto
  /-- SET_MANUAL (R185) -/
  | setManual
  /-- RETRANSFER_NOW (R186) -/
  | retransferNow
  /-- RESET_LATCH (R98) -/
  | resetLatch
  /-- RELEASE_CAPTURE (R23) -/
  | releaseCapture
  /-- TRIGGER_CAPTURE (R20) -/
  | triggerCapture
  /-- ACK_ATTENTION (R195), with its mask. -/
  | ackAttention (mask : Word)
  /-- UNKNOWN_COMMAND (R193): an EXEC with a number outside 1 to 12. -/
  | unknownCommand (n : Word)
  /-- ATTENTION_ACKNOWLEDGE_WRITE (R195) -/
  | attentionAcknowledgeWrite (w : Word)
  /-- ATTENTION_ENABLE_WRITE (R195) -/
  | attentionEnableWrite (w : Word)
  /-- GROUP_ACCESS_WRITE (R192) -/
  | groupAccessWrite (w : Word)
  /-- BROADCAST_TRIM_WRITE (R192): address 0500 for the current triple, 0501 for the voltage triple. -/
  | broadcastTrimWrite (t : Triple) (w : Word)
  /-- CONFIGURATION_WRITE (R192) -/
  | configurationWrite (c : ConfigWrite)
  /-- PEER_IMAGE_BLOCK_READ (R54): a READ that takes the first word of block `k` and `n` words of it in all. -/
  | peerImageBlockRead (k : Station) (n : Nat)
deriving DecidableEq, Repr

end Sys2Proof
end

