-- ==== Sys2Proof/Config.lean ====
section
/-! DEFINITION. What an implementation of the BV2416 fixes and the manual leaves open. Each value is opaque: nothing
can be proved of it, so a claim holds whatever it is. -/

namespace Sys2Proof.Config

/-- The logic revision, one of the identity words (chapter 12, item space): the manual names it and gives no value. -/
opaque logicRevision : Word

/-- The place of the identity words among addresses 0000 to 000F: the manual lists them and gives no order (log 6).
A read of the address yields the word numbered 0 (family code), 1 (part code), 2 (logic revision), 3 (capability). -/
opaque identityPlace : Word → Option (Fin 4)

/-- The capability word: it "gives 16 stations, 7 channels and a largest capture length of 1024"; its coding is not given. -/
opaque capabilityWord : Word

/-- The item of the configuration tables (0100 to 03FF) and of the group window (0400 to 04FF) that an address holds:
the manual numbers the ranges and not the words in them (log 6). -/
opaque tableItem : Word → Option StoreItem

/-- The address at which the source half of the group window begins: the manual puts it after the fault half (log 6). -/
opaque sourceHalf : Word

/-- What a word of a table codes: the manual names the values of such a word and gives no codes (log 7). A word that
defines no value codes none. -/
opaque roleOf : Word → Option Role
/-- Whether a mask word names a trigger source (log 7). -/
opaque sourceIn : Word → Trigger → Bool
/-- The group mode a word codes (log 7). -/
opaque groupModeOf : Word → Option GroupMode
/-- The function an input assignment codes (log 7). -/
opaque inFnOf : Word → Option InFn
/-- The source an output assignment codes (log 7). -/
opaque outSrcOf : Word → Option OutSrc
/-- The active-low flag of an assignment (log 7). -/
opaque lineLowOf : Word → Bool
/-- A flag word (log 7). -/
opaque flagOf : Word → Bool
/-- The permitted direction a word codes (log 7). -/
opaque directionOf : Word → Option Direction
/-- The start mode a word codes (log 7). -/
opaque modeOf : Word → Option Mode
/-- The element action a word codes (log 7). -/
opaque actionOf : Word → Option Action
/-- The differential action a word codes (log 7). -/
opaque diffActionOf : Word → Option DiffAction

/-- The word a coded item of the tables holds while its default stands (log 7). -/
opaque defaultCode : CodedItem → Word
/-- The word a coded item of a group-window instance holds while its default stands (log 7). -/
opaque defaultGroupCode : Bool → GroupCoded → Word

/-- The status word at an address of 0800 to 0FFF, the snapshot word at one of 1000 to 103F, and the word of the capture
records at one of 1300 to 131F: the manual gives the ranges and the items, not the place of each (log 6). -/
opaque statusAt : Word → Option StatusItem
/-- The snapshot word at an address (log 6). -/
opaque snapshotAt : Word → Option SnapshotItem
/-- The word of the capture records at an address (log 6). -/
opaque captureAt : Word → Option CaptureItem

/-- The word that reads for the n-th value of an enumerated status item at an address: no code is given (log 6). -/
opaque statusCode : Word → Nat → Word
/-- The quotient of R146 for a record whose rated power is 0, by the dividend: the manual states none (log 70). -/
opaque quotientByZero : Int → Int

/-- The word that reads for none, invalid or empty at an address (log 6). -/
opaque statusNone : Word → Word

end Sys2Proof.Config
end

