-- ==== Sys2Proof/WellFormed.lean ====
section
/-! DEFINITION. Which commands a sender can send: the operands a port transfer, a frame or a timer of the part
can carry. `exec` gives every command a meaning; a command that is not well formed is one no hardware event spells. -/

namespace Sys2Proof

/-- A command byte whose kind is NOP or that has one of its unused bits 5 to 3 set (R190). -/
def isNopByte (b : Byte) : Bool :=
  b.extractLsb' 6 2 == 0#2 || b.extractLsb' 3 3 != 0#3

/-- A frame that 38 bytes spell, begun within the longest link cycle (480000 units, 50 Hz). -/
def Frame.wf (f : Frame) : Bool := f.bytes.length == 38 && decide (f.start < 480000)

/-- An address whose words have a row of their own, and so are no operand of CONFIGURATION_WRITE (R192, R195). -/
def hasOwnRow (a : Word) : Bool :=
  a == 0x0081#16 || a == 0x0082#16 || a == 0x0083#16 || a == 0x0500#16 || a == 0x0501#16

/-- Pickup and delay words of the group window belong to elements of the source half. -/
def Element.inSource : Element → Bool
  | .overI => false
  | .highI => false
  | _ => true

/-- A word the store holds: pickup and delay words belong to elements of the source half. -/
def StoreItem.wf : StoreItem → Bool
  | .group (.pickup e) => e.inSource
  | .group (.delay e) => e.inSource
  | _ => true

/-- A write word as the port can carry it. -/
def ConfigWrite.wf : ConfigWrite → Bool
  | .groupNumber x _ => StoreItem.wf (.group x)
  | .other a _ => !hasOwnRow a
  | _ => true

/-- A command as a sender can send it. -/
def Instr.wf : Instr → Bool
  | .sampleStrobe _ _ _ o => decide o.Nodup
  | .phasorInstant _ _ o => decide o.Nodup
  | .cycleClose o => decide o.Nodup
  | .readBack (.frame f) => f.wf
  | .recordArrival f => f.wf
  | .portNop b => isNopByte b
  | .unknownCommand n => decide (n.toNat < 1 ∨ 12 < n.toNat)
  | .configurationWrite c => c.wf
  | .peerImageBlockRead _ n => decide (1 ≤ n ∧ n ≤ 32)
  | _ => true

end Sys2Proof
end

