-- ==== Sys2Proof/Decode.lean ====
section
/-! DEFINITION. Reading commands. The opcode table gives no row any bits, so `decodeTableWord` reads none. The one
encoding the manual gives for commands is that of a port transfer (R190, R191, wire formats): `portTransfer` reads
the commands that the bytes of one transfer perform, in their order. -/

namespace Sys2Proof

/-- The command the table's bits spell: no row of spec/opcode_table.json has bits, so none. -/
def decodeTableWord (_nbits _w : Nat) : Option Instr := none

/-- The kind of a port transfer (R190). -/
inductive PortKind | nop | read | write | exec
deriving DecidableEq, Repr

/-- The kind a command byte gives; any unused bit set makes it NOP (R190). -/
def portKind (b : Byte) : PortKind :=
  if isNopByte b then .nop
  else match (b.extractLsb' 6 2).toNat with
    | 1 => .read
    | 2 => .write
    | _ => .exec

/-- The count of a command byte, bits 2 to 0 (wire formats). -/
def portCount (b : Byte) : Nat := (b.extractLsb' 0 3).toNat

/-- Two bytes of a transfer as a word, high byte first (R190). -/
def portWord (hi lo : Byte) : Word := hi ++ lo

/-- The complete words among the bytes; a word cut short is discarded (R191). -/
def wordsOf : List Byte → List Word
  | hi :: lo :: rest => portWord hi lo :: wordsOf rest
  | _ => []

/-- A nonzero count moves that many words; a count of 0 streams (R190). -/
def takeCounted {α : Type} (count : Nat) (ws : List α) : List α :=
  if count = 0 then ws else ws.take count

/-- The write of a word to an item of the store, with the value it codes (log 7). -/
def StoreItem.writeOf (i : StoreItem) (w : Word) : ConfigWrite :=
  match i with
  | .number x => .number x w
  | .coded .role => .role (Config.roleOf w) w
  | .coded .triggers =>
    .triggers { trip := Config.sourceIn w .trip, diff := Config.sourceIn w .diff, bf := Config.sourceIn w .bf,
                command := Config.sourceIn w .command } w
  | .coded (.groupMode h) => .groupMode h (Config.groupModeOf w) w
  | .coded (.inputLine i) => .inputLine i (Config.inFnOf w) (Config.lineLowOf w) w
  | .coded (.outputLine i) => .outputLine i (Config.outSrcOf w) (Config.lineLowOf w) w
  | .coded .deadDead => .deadDead (Config.flagOf w) w
  | .coded .direction => .direction (Config.directionOf w) w
  | .coded .startMode => .startMode (Config.modeOf w) w
  | .coded .openTransition => .openTransition (Config.flagOf w) w
  | .coded .tieTransfer => .tieTransfer (Config.flagOf w) w
  | .group x => .groupNumber x w
  | .groupCoded (.action e) => .action e (Config.actionOf w) w
  | .groupCoded .highILockout => .highILockout (Config.flagOf w) w
  | .groupCoded .diffAction => .diffAction (Config.diffActionOf w) w

/-- The half of the protection settings a word of the group window belongs to, none for a word of the tables (R79, R85). -/
def StoreItem.half : StoreItem → Option Half
  | .number _ => none
  | .coded _ => none
  | .group (.pickup _) => some .source
  | .group (.delay _) => some .source
  | .group _ => some .fault
  | .groupCoded (.action e) => some (if e.inSource then .source else .fault)
  | .groupCoded _ => some .fault

/-- A word of the store may lie at an address: those of the tables in 0100 to 03FF, those of the group window in 0400 to 04FF,
the fault half before the source half (chapter 12, Item space). -/
def StoreItem.fits (i : StoreItem) (a : Word) : Bool :=
  match i.half with
  | none => decide (0x0100 ≤ a.toNat ∧ a.toNat ≤ 0x03FF)
  | some .fault => decide (0x0400 ≤ a.toNat ∧ a.toNat ≤ 0x04FF ∧ a.toNat < Config.sourceHalf.toNat)
  | some .source => decide (0x0400 ≤ a.toNat ∧ a.toNat ≤ 0x04FF ∧ Config.sourceHalf.toNat ≤ a.toNat)

/-- The item of the store at an address, none outside the tables and the group window and where no item lies (log 6). -/
def storeItemAt (a : Word) : Option StoreItem := (Config.tableItem a).filter fun i => i.wf && i.fits a

/-- The command a word written at an address is (R192, R195). -/
def writeCommand (a w : Word) : Instr :=
  if a = 0x0081#16 then .attentionEnableWrite w
  else if a = 0x0082#16 then .groupAccessWrite w
  else if a = 0x0083#16 then .attentionAcknowledgeWrite w
  else if a = 0x0500#16 then .broadcastTrimWrite .current w
  else if a = 0x0501#16 then .broadcastTrimWrite .voltage w
  else match storeItemAt a with
    | some i => .configurationWrite (i.writeOf w)
    | none => .configurationWrite (.other a w)

/-- The words of a WRITE at successive addresses, wrapping from FFFF to 0000 (R190). -/
def writeCommands (a : Word) : List Word → List Instr
  | [] => []
  | w :: ws => writeCommand a w :: writeCommands (a + 1) ws

/-- The station whose Peer Image block begins at an address: block k lies at 1100 + 20·k hex. -/
def blockAt (a : Word) : Option Station :=
  if 0x1100 ≤ a.toNat ∧ (a.toNat - 0x1100) % 0x20 = 0 then
    allStations[(a.toNat - 0x1100) / 0x20]?
  else none

/-- The steps of a READ of `n` words from an address: each first word of a Peer Image block that it takes (R54).
Reads of other items change nothing and are no row of the table. -/
def readCommands (a : Word) : Nat → List Instr
  | 0 => []
  | n + 1 =>
    match blockAt a with
    | some k => .peerImageBlockRead k (min (n + 1) 32) :: readCommands (a + 1) n
    | none => readCommands (a + 1) n

/-- The command an EXEC performs (R193). -/
def execCommand (n arg : Word) : Instr :=
  match n.toNat with
  | 1 => .start
  | 2 => .stop
  | 3 => .softReset
  | 4 => .openBreaker
  | 5 => .closeBreaker
  | 6 => .setAuto
  | 7 => .setManual
  | 8 => .retransferNow
  | 9 => .resetLatch
  | 10 => .releaseCapture
  | 11 => .triggerCapture
  | 12 => .ackAttention arg
  | _ => .unknownCommand n

/-- The commands that one port transfer performs, from the bytes clocked in between select falling and rising
(R190, R191). A transfer cut short inside its address bytes does nothing. A read word is taken at the falling edge that
puts out its first bit, which is the edge that ends the address or the word before, so n data bytes take n / 2 + 1 words. -/
def portTransfer : List Byte → List Instr
  | [] => []
  | b :: rest =>
    match portKind b, rest with
    | .nop, _ => [.portNop b]
    | .read, hi :: lo :: clocked =>
      let n := clocked.length / 2 + 1
      readCommands (portWord hi lo) (if portCount b = 0 then n else min n (portCount b))
    | .write, hi :: lo :: data => writeCommands (portWord hi lo) (takeCounted (portCount b) (wordsOf data))
    | .exec, hi :: lo :: data =>
      match wordsOf data with
      | arg :: _ => [execCommand (portWord hi lo) arg]
      | [] => []
    | _, _ => []

end Sys2Proof
end

