-- ==== Sys2Proof/Machine/State.lean ====
section
/-! DEFINITION. The state of one BV2416 as plain data: every item the manual gives each of its fifteen blocks, the
pins, the queue of waiting commands, and the state after reset. Fields marked MODEL hold what the manual's rules
need of the past without naming it as an item (log 9). -/

namespace Sys2Proof.Machine

/-! ### The configuration store (R192) -/

/-- The settings of one instance of the fault half (R79, R85). A coded word that defines no value is `none`. -/
structure FaultGroup where
  overIAction : Option Action
  overIPickup : Word
  overIDelay : Word
  highIAction : Option Action
  highIPickup : Word
  highILockout : Bool
  diffAction : Option DiffAction
  ipu : Word
  slope : Word
  confirm : Word
deriving DecidableEq, Repr

/-- The settings of one element of the source half (R79). -/
structure ElementWords where
  action : Option Action
  pickup : Word
  delay : Word
deriving DecidableEq, Repr

/-- The settings of one instance of the source half (R79). -/
structure SourceGroup where
  underV : ElementWords
  overV : ElementWords
  underF : ElementWords
  overF : ElementWords
  rocof : ElementWords
  revPower : ElementWords
deriving DecidableEq, Repr

/-- An input assignment: a function and an active-low flag (R102). -/
structure InputLine where
  fn : Option InFn
  low : Bool
deriving DecidableEq, Repr

/-- An output assignment: a source and an active-low flag (R104). -/
structure OutputLine where
  src : Option OutSrc
  low : Bool
deriving DecidableEq, Repr

/-- The settings of one under-frequency stage (R167). -/
structure StageWords where
  pickup : Word
  delay : Word
  threshold : Word
deriving DecidableEq, Repr

/-- The configuration store: every setting of chapters 1 to 11. A setting that a word codes is held as the value coded, and
beside it, in `coded` and in `group0` and `group1`, the word as it was written, `none` while the default stands (R192,
log 7). -/
structure Settings where
  station : Word
  role : Option Role
  sect : Word
  peerMask : Word
  fNom : Word
  strobeOffset : Word
  gain : Seven Word
  polarity : Word
  rI : Word
  rVB : Word
  rVL : Word
  vLive : Word
  vDead : Word
  capLen : Word
  pre : Word
  triggers : Sources
  faultMode : Option GroupMode
  sourceMode : Option GroupMode
  fault0 : FaultGroup
  fault1 : FaultGroup
  source0 : SourceGroup
  source1 : SourceGroup
  tBf : Word
  inputs : Vector InputLine 8
  outputs : Vector OutputLine 8
  debounce : Word
  tCloseMax : Word
  tDisc : Word
  deadDead : Bool
  tRestore : Word
  sMax : Word
  direction : Option Direction
  dvMax : Word
  window : Word
  tCloseMs : Word
  tSyncMax : Word
  pRated : Word
  tStart : Word
  tRetry : Word
  tUnload : Word
  tCool : Word
  lBase : Word
  lOff : Word
  ramp : Word
  sTarget : Word
  gS : Word
  gV : Word
  gL : Word
  gF : Word
  gQ : Word
  gU : Word
  priority : Word
  margin : Word
  stage1 : StageWords
  stage2 : StageWords
  pDead : Word
  startMode : Option Mode
  vULo : Word
  vUHi : Word
  fULo : Word
  fUHi : Word
  tLoss : Word
  tReturnShort : Word
  tReturn : Word
  tResync : Word
  tParallelMax : Word
  resyncOffset : Word
  openTransition : Bool
  tieTransfer : Bool
  coded : Vector (Option Word) 25
  group0 : Vector (Option Word) 10
  group1 : Vector (Option Word) 10
deriving DecidableEq, Repr

/-! ### The bay record (R44, R45, wire formats) -/

/-- The role part, six bytes whose fields are those of the role (R45). Signed fields are the bits sent. -/
inductive RolePart
  | incomer (healthy : Bool) (reference : Word) (offset : Byte)
  | tie (direction : Option Sec)
  | generator (load : Word) (rated : Word) (unit : UnitState) (bias : BiasMode)
  | feeder (held : Word) (priority : Byte) (shed : ShedState)
deriving DecidableEq, Repr

/-- A bay record (R44). `sect` is `none` for a section value of 0; a group is true for group 1. The role is that of the
role part. Signed fields are the bits sent. -/
structure BayRecord where
  station : Station
  sect : Option Sec
  cycle : BitVec 8
  alignment : Alignment
  meas : MeasState
  summary : Summary
  lockout : Bool
  tripActive : Bool
  bfNotice : Bool
  faultGroup : Bool
  sourceGroup : Bool
  mode : Mode
  hold : Bool
  startDemand : Bool
  openDemand : Bool
  parallelTimeout : Bool
  claim : ClaimType
  claimTarget : Sec
  claimRank : Fin 4
  transfer : TransferCode
  iaRe : Word
  iaIm : Word
  ibRe : Word
  ibIm : Word
  icRe : Word
  icIm : Word
  busVoltage : Word
  busFrequency : Word
  lineVoltage : Word
  lineFrequency : Word
  p : Word
  q : Word
  part : RolePart
deriving DecidableEq, Repr

/-- The role a record shows. -/
def BayRecord.role (r : BayRecord) : Role :=
  match r.part with
  | .incomer _ _ _ => .incomer
  | .tie _ => .tie
  | .generator _ _ _ _ => .generator
  | .feeder _ _ _ => .feeder

/-! ### CVP and MSU (chapter 1) -/

/-- A ratio-matched phasor (R10). -/
structure Phasor where
  re : Int
  im : Int
deriving DecidableEq, Repr

/-- A window position: a trimmed sample and its clamp mark (R8). -/
structure Cell where
  value : Int
  clamped : Bool
deriving DecidableEq, Repr

/-- A result set (R18). Classifications are those of VA, VB, VC and VL; the bus and line classifications follow. -/
structure ResultSet where
  label : Option Count
  phasor : Seven Phasor
  mag : Seven Nat
  vMin : Nat
  vMax : Nat
  clipped : Seven Bool
  p : Int
  q : Int
  clsA : VClass
  clsB : VClass
  clsC : VClass
  clsL : VClass
  busClass : VClass
  fBus : Nat
  fLine : Nat
  periodBus : Nat
  periodLine : Nat
  tBus : Option Count
  tLine : Option Count
  meas : MeasState
deriving DecidableEq, Repr

/-- The Converter Port (R1 to R6). -/
structure Cvp where
  inFlight : Bool            -- a strobe has been made and its reply is not yet closed
  lastGood : Seven Word
  held : Bool                -- the set last handed on was held (R3)
  missing : Nat
  bad : Nat                  -- consecutive-bad count
  goodRun : Nat
  meas : MeasState
  warm : Nat
  sets : Count               -- the running strobe count N
  speedSent : BitVec 12      -- the 12-bit codes the interface converters hold (R6)
  voltSent : BitVec 12
deriving DecidableEq, Repr

/-- A crossing list with its count of strobes since the last crossing (R15). -/
structure Crossings where
  times : List Count
  since : Nat
deriving DecidableEq, Repr

/-- The Measurement Unit (R7 to R18). -/
structure Msu where
  window : Vector (Seven Cell) 32
  index : Fin 32
  previous : Option (Int × Int)   -- the trimmed VA and VL samples of the set before (R14)
  bus : Crossings
  line : Crossings
  newest : ResultSet
  older : ResultSet
  history : List Nat
  rocof : Option Int
deriving DecidableEq, Repr

/-! ### CAP (R19 to R25) -/

/-- The state of a capture bank. -/
inductive BankState | free | active | post | held
deriving DecidableEq, Repr

/-- A capture record. -/
structure CaptureRecord where
  sources : Sources
  cycle : Count
  trigger : Nat
  start : Nat
  pre : Nat
  retriggered : Bool
deriving DecidableEq, Repr

/-- The samples of a bank: cells (1024·channel + position, sample) in strictly rising order, no cell holding 0. An
unlisted position reads 0, the reset contents of R25. -/
abbrev SampleMem := List (Nat × Word)

/-- One capture bank. -/
structure Bank where
  state : BankState
  samples : SampleMem
  index : Nat
  written : Nat
  post : Nat
  record : CaptureRecord
deriving DecidableEq, Repr

/-- The Capture Memory. -/
structure Cap where
  a : Bank
  b : Bank
  lost : Nat
deriving DecidableEq, Repr

/-! ### LKC (R26 to R46) -/

/-- The link state. -/
inductive LinkState | off | listen | publish | duplicate
deriving DecidableEq, Repr

/-- The Link Controller. The reference station is the lowest of the two heard lists (R38). -/
structure Lkc where
  link : LinkState
  unlocked : Bool
  timer : Nat                -- position on the cycle timer at the last timed event, in 1/96 µs (log 5)
  preCycle : Bool            -- MODEL: cycle 0 has not begun (R26)
  number : BitVec 8
  count : Count
  phasorMade : Bool          -- MODEL: the next cycle's phasor instant has been made (R27)
  phasorOwed : Bool          -- MODEL: the next strobe is made the next cycle's phasor instant (R1, R27)
  phasorLate : Nat           -- MODEL: the phasor instants still owed to the cycle in progress and to those before it (R27)
  sent : Bool                -- MODEL: a record has gone out in this cycle (R27)
  ownSkipped : Bool          -- MODEL: the timer was moved forward past the own slot of this cycle (R27)
  ownHeard : Bool            -- MODEL: a start pattern began in the own slot of this cycle (R31)
  slotsHeard : StationSet    -- MODEL: the slots of this cycle that have yielded their frame (R28)
  listenCount : Nat
  silentCount : Nat
  heardNow : StationSet
  heardBefore : StationSet
  silence : Nat
  selfTimed : Bool
  relockCycle : Option Count
  crcError : Bool
  slotMismatch : Bool
  late : Bool
  duplicateSeen : Bool
  referenceMissing : Bool
  mismatches : Nat
  lates : Nat
  relocks : Nat
  txFrame : List Byte        -- MODEL: the 38 bytes last transmitted, for the read-back (R30)
  sending : Bool             -- MODEL: the own frame is being sent (R32)
  txCut : Bool               -- MODEL: STOP has cut the last transmission short (R32)
deriving DecidableEq, Repr

/-! ### PIM and TOP (chapter 3) -/

/-- A Peer Image entry (R47). Age and status are derived. -/
structure Entry where
  record : Option BayRecord
  accepted : Count
  expected : Bool
  crcErrors : Nat
deriving DecidableEq, Repr

/-- The tie identity (R55). -/
inductive TieId
  | none
  | station (k : Station)
  | conflict
deriving DecidableEq, Repr

/-- The island map (R57). -/
inductive IslandMap | joined | apart | unknown
deriving DecidableEq, Repr

/-- TOP's results (R61). An expected set of `none` is UNKNOWN. -/
structure Topology where
  tie : TieId
  expected1 : Option StationSet
  expected2 : Option StationSet
  map : IslandMap
  state1 : IslandState
  state2 : IslandState
  own : IslandState
  locked1 : Bool
  locked2 : Bool
deriving DecidableEq, Repr

/-! ### PRU (chapter 4) -/

/-- The state of an element (R63). -/
inductive ElState | quiet | pickup | operate
deriving DecidableEq, Repr

/-- A set of phases (R63). -/
structure Phases where
  a : Bool
  b : Bool
  c : Bool
deriving DecidableEq, Repr

/-- An element record (R63). -/
structure ElementRec where
  state : ElState
  count : Nat
  phases : Phases
deriving DecidableEq, Repr

/-- An entry of the operation list (R70). The group is true for group 1. -/
structure Operation where
  element : Element
  half : Half
  group : Bool
  action : Action
  phases : Phases
  cycle : Count
deriving DecidableEq, Repr

/-- The Protection Unit. Active groups are true for group 1. -/
structure Pru where
  elements : Eight ElementRec
  faultGroup : Bool
  sourceGroup : Bool
  tripActive : Bool
  operations : List Operation
deriving DecidableEq, Repr

/-! ### DBU (chapter 5) -/

/-- Why a zone is blocked (R87). -/
inductive BlockReason | setUnknown | notFresh | relocked | notValid | groupMismatch
deriving DecidableEq, Repr

/-- Operate and restraint of one phase (R88). -/
structure PhaseSum where
  iop : Nat
  ires : Nat
  operates : Bool
deriving DecidableEq, Repr

/-- The last evaluation of a section (R92). -/
inductive Evaluation
  | notEvaluated
  | blocked (reason : BlockReason) (station : Option Station)
  | complete (a b c : PhaseSum)
deriving DecidableEq, Repr

/-- The differential of one section. -/
structure SectionDiff where
  confirm : Nat
  blocked : Nat
  last : Evaluation
  tripping : Bool            -- MODEL: the count was at or above D at the last evaluation (R89)
  bfSeen : Bool              -- the BF-notice seen flag (R96)
deriving DecidableEq, Repr

/-- The BF timer (R93). -/
inductive BfTimer
  | idle
  | running (n : Nat)
deriving DecidableEq, Repr

/-- The source of the event that last set lockout from clear (R99). -/
inductive LockoutSource | none | diff | highI | bf | peerBf | extLockout
deriving DecidableEq, Repr

/-- The Differential and Breaker-Failure Unit. -/
structure Dbu where
  s1 : SectionDiff
  s2 : SectionDiff
  timer : BfTimer
  notice : Bool
  peerSeen : Bool
  lockout : Bool
  lockoutSource : LockoutSource
deriving DecidableEq, Repr

/-! ### BCU (chapter 6) -/

/-- The breaker state (R105 to R113). -/
inductive BreakerState | unknown | opened | closing | closed | opening | failedOpen | discrepant
deriving DecidableEq, Repr

/-- The unit that made an accepted close request (R106). -/
inductive CloseUnit | clu | syu
deriving DecidableEq, Repr

/-- The outcomes of a close (R114). -/
inductive CloseOutcome | completed | failed | discrepant | dropped | tripped
deriving DecidableEq, Repr

/-- Why a close request is refused (R106), with LIVE_LIVE of the interlock (R143). -/
inductive CloseRefusal | notOpen | lockout | tripStanding | blocked | unhealthy | liveLive
deriving DecidableEq, Repr

/-- An input line: the physical level of its pin as it stands, its read level at the last strobe of the RUN, its debounced
level (`none` before the first) and its hold count (R101). -/
structure LineState where
  high : Bool
  read : Option Bool
  level : Option Bool
  hold : Nat
deriving DecidableEq, Repr

/-- The breaker alarm record: the cycle count of the latest occurrence of each alarm since START (R116). -/
structure BreakerAlarms where
  closeFail : Option Count
  uncommandedClose : Option Count
  uncommandedOpen : Option Count
  discrepant : Option Count
deriving DecidableEq, Repr

/-- The Breaker Control Unit. Idle counts are `none`. -/
structure Bcu where
  state : BreakerState
  trip : Bool
  close : Bool
  hold : Nat                 -- trip hold count
  supervision : Nat          -- close supervision count
  acceptedNow : Bool         -- MODEL: the close request was accepted at the cycle close in progress (R107)
  trippedNow : Bool          -- MODEL: a trip request was made at the cycle close in progress (R106)
  endedNow : Bool            -- MODEL: a close has failed at the cycle close in progress (R114)
  discrepancy : Option Nat
  reconfirm : Option Nat     -- pending, with its count of quiet strobes (R103)
  owner : Option CloseUnit
  lines : Vector LineState 8
  alarms : BreakerAlarms
  lastOutcome : Option (CloseOutcome × Count)
  lastRefusal : Option (CloseRefusal × CloseUnit × Count)
deriving DecidableEq, Repr

/-! ### CLU (chapter 7) -/

/-- A claim of DEAD_BUS or RESTORE (R118); `deadDead` marks the dead-dead claim of R126. -/
structure Claim where
  restore : Bool
  target : Sec
  rank : Fin 4
  origin : Origin
  deadDead : Bool
deriving DecidableEq, Repr

/-- The kind of a close in flight (R123). -/
inductive CloseKind | deadBus | deadDead | restore
deriving DecidableEq, Repr

/-- A close in flight (R123), with the origin its outcome is passed on to. -/
structure InFlight where
  kind : CloseKind
  target : Sec
  origin : Origin
deriving DecidableEq, Repr

/-- The reasons of R120 that are neither an outcome nor a refusal. -/
inductive WithdrawReason | breakerClosed | lockout | targetLive | operatorOpen | expired
deriving DecidableEq, Repr

/-- What CLU, BCU and SYU hand to a requesting unit (R119, R120, R137, R141, R142). -/
inductive Answer
  | raised | taken | refusedLockout | refusedLive
  | withdrawn (w : WithdrawReason)
  | outcome (o : CloseOutcome)
  | refusal (r : CloseRefusal)
  | started | standing | busy | startLockout | startNotOpen
  | expired | endLockout | endTrip | sideDead | breakerMoved | cancelled | stopped
deriving DecidableEq, Repr

/-- The last operator close result (R126). -/
inductive OperatorResult
  | toSync | claimed | claimedDeadDead | deadDeadOff | sidesUndecided
  | answer (a : Answer)
deriving DecidableEq, Repr

/-- The Claim Unit. -/
structure Clu where
  claim : Option Claim
  published : Option Claim   -- MODEL: the claim as LKC last copied it, with origin and mark (R118, R122)
  spent : Bool               -- MODEL: the published claim has been withdrawn since it was published (R123)
  failed : Bool              -- MODEL: a close of the published claim has failed since it was published (R123)
  won1 : Bool
  won2 : Bool
  inFlight : Option InFlight
  pendingClose : Bool
  age : Nat
  raisedNow : Bool           -- MODEL: the operator claim was raised at the cycle close in progress (R126)
  lastSeen : Vector (Option Summary) 16
  lastClose1 : Count
  lastClose2 : Count
  winner1 : Option Station
  winner2 : Option Station
  restoreWinner1 : Option Station
  restoreWinner2 : Option Station
  lastOutcome : Option Answer
  operatorResult : Option (OperatorResult × Count)
  abort : Option Count
deriving DecidableEq, Repr

/-! ### SYU (chapter 8) -/

/-- The sync state. -/
inductive SyncState | idle | checking | closing
deriving DecidableEq, Repr

/-- The owner of an attempt. -/
inductive SyncOwner | gcu | tru | operator
deriving DecidableEq, Repr

/-- The seven conditions of the check in reporting order (R136). -/
inductive SyncCondition | meas | sides | permit | slip | direction | voltage | angle
deriving DecidableEq, Repr

/-- The check record (R136). An invalid quantity is `none`; `results` are the seven conditions in order. -/
structure CheckRecord where
  slip : Option Int
  dv : Option Int
  angle : Option Int
  advance : Option Int
  predicted : Option Int
  results : List Bool
  failing : Option SyncCondition
  cycle : Option Count
deriving DecidableEq, Repr

/-- The Synchronising Unit. -/
structure Syu where
  state : SyncState
  owner : Option SyncOwner
  supervision : Nat
  startedNow : Bool          -- MODEL: the attempt was started at the cycle close in progress (R137)
  permit : Bool
  check : CheckRecord
  lastEnding : Option (Answer × Option SyncOwner × Count)
deriving DecidableEq, Repr

/-! ### GCU (chapter 9) -/

/-- Why a unit stands in FAIL (R145). -/
inductive FailReason | none | startFail | closeFail | bf
deriving DecidableEq, Repr

/-- The droop cause (R159). -/
inductive DroopCause
  | none
  | mapUnknown
  | peerLost (k : Station)
  | peerNotValid (k : Station)
deriving DecidableEq, Repr

/-- The Generator Control Unit. -/
structure Gcu where
  unit : UnitState
  enteredNow : Bool          -- MODEL: the unit state was entered at the cycle close in progress (R149)
  heardNow : Bool            -- MODEL: an answer has left it in DEADBUS or SYNC at the cycle close in progress (R151, R152)
  mode : BiasMode
  speed : Int
  volt : Int
  ramp : Int
  startCount : Nat
  retryCount : Nat
  unloadCount : Nat
  coolCount : Nat
  lastSeen : Vector (Option Summary) 16
  failReason : FailReason
  droopCause : DroopCause
  demand : Bool
  stopNotice : Bool
  fRef : Int
  lAvg : Int
  lqAvg : Int
deriving DecidableEq, Repr

/-! ### FCU (chapter 10) -/

/-- The shed reason (R163). -/
inductive ShedReason | none | capacity | underfreq1 | underfreq2 | deadbus
deriving DecidableEq, Repr

/-- The manual cause (R163). -/
inductive ManualCause | none | operator | closeFail | feederLive
deriving DecidableEq, Repr

/-- What FCU forms of its island at a cycle close (R165). -/
structure FeederView where
  capacity : Nat
  limit : Nat
  cumulative : Nat
  position : Nat
deriving DecidableEq, Repr

/-- The Feeder Control Unit. -/
structure Fcu where
  state : ShedState
  reason : ShedReason
  cause : ManualCause
  held : Nat
  lastLoad : Nat
  overCount : Nat
  stage1 : Nat
  stage2 : Nat
  dead : Nat
  guard : Nat
  openPending : Bool
  heardNow : Bool            -- MODEL: an answer has made it SHED at the cycle close in progress (R171)
  view : Option FeederView
deriving DecidableEq, Repr

/-! ### TRU (chapter 11) -/

/-- The transfer state of an incomer or a tie; MANUAL stands in a generator or a feeder, which publish code 0. -/
inductive TransferState
  | manual | normal | lossConfirm | isolating | deadWait | onAlternate | returnWait | resync | parallel | openReturn
  | halted | tieOpen | tieClaim (x : Sec) | tieFeeding (x : Sec)
deriving DecidableEq, Repr

/-- The Transfer Unit. -/
structure Tru where
  mode : Mode
  state : TransferState
  enteredNow : Bool          -- MODEL: the state was entered at the cycle close in progress (R176)
  heardNow : Bool            -- MODEL: its attempt, or a tie's claim, has been answered at the cycle close in progress (R181, R187)
  derive : Bool              -- derivation pending
  hold : Bool
  startDemand : Bool
  openDemand : Bool
  parallelTimeout : Bool
  healthy : Bool
  judged : Bool
  healthLine : Nat           -- MODEL: the f_line the health was formed from (R175)
  run : Nat
  reference : Nat
  lossCount : Nat
  returnCount : Nat
  resyncCount : Nat
  parallelCount : Nat
  direction : Option Sec
  lastAnswer : Option (Answer × Count)
deriving DecidableEq, Repr

/-! ### CFP (chapter 12) -/

/-- The run state. -/
inductive RunState | config | run
deriving DecidableEq, Repr

/-- Result codes in the order of their numbers 0 to 5 (wire formats). -/
inductive ResultCode | accepted | refusedState | refusedLockout | refusedMode | refusedCheck | unknownCommand
deriving DecidableEq, Repr

/-- LAST_RESULT (R193). -/
structure LastResult where
  code : ResultCode
  command : Word
  check : Nat
deriving DecidableEq, Repr

/-- The Configuration Port and Run Control. -/
structure Cfp where
  run : RunState
  groupAccess : Bool         -- the instance the group window shows, true for instance 1
  attention : Word           -- the sixteen pending bits (R195)
  enable : Word
  result : LastResult
  readBuffer : List Word     -- the 32 words of the entry last copied (R54)
  dataOut : List Word        -- the words the last Peer Image block read put on data out
deriving DecidableEq, Repr

/-! ### The machine -/

/-- The state of the part: its configuration store, its fifteen blocks and the queue of commands that are waiting,
first in, first out. -/
structure State where
  cfg : Settings
  cvp : Cvp
  msu : Msu
  cap : Cap
  lkc : Lkc
  pim : Vector Entry 16
  top : Topology
  pru : Pru
  dbu : Dbu
  bcu : Bcu
  clu : Clu
  syu : Syu
  gcu : Gcu
  fcu : Fcu
  tru : Tru
  cfp : Cfp
  pending : List Instr
deriving DecidableEq, Repr

/-- Faults: none. Every command of this part has an effect the manual gives, on every state. -/
inductive Fault
deriving DecidableEq, Repr

/-- Refusals of the model. -/
inductive Refusal
  /-- Raised by an arm of `exec` for a command that has no meaning yet; no arm raises it. Safe: the model stops. -/
  | notModelled (mnemonic : String)
deriving DecidableEq, Repr

/-! ### The state after reset -/

/-- A source-half element's default words. -/
def ElementWords.mk' (a : Action) (p d : Word) : ElementWords := { action := some a, pickup := p, delay := d }

/-- Fault half, group 0 (chapters 4 and 5). -/
def FaultGroup.default0 : FaultGroup :=
  { overIAction := some .trip, overIPickup := 19661, overIDelay := 100, highIAction := some .trip, highIPickup := 40960,
    highILockout := true, diffAction := some .trip, ipu := 3277, slope := 32, confirm := 2 }

/-- Fault half, group 1. -/
def FaultGroup.default1 : FaultGroup :=
  { overIAction := some .trip, overIPickup := 14746, overIDelay := 60, highIAction := some .trip, highIPickup := 32768,
    highILockout := true, diffAction := some .trip, ipu := 1638, slope := 24, confirm := 2 }

/-- Source half, group 0 (chapter 4). -/
def SourceGroup.default0 : SourceGroup :=
  { underV := .mk' .alarm 13107 40, overV := .mk' .trip 18022 40, underF := .mk' .trip 4750 40,
    overF := .mk' .trip 5250 40, rocof := .mk' .trip 100 4, revPower := .mk' .trip 307 200 }

/-- Source half, group 1. -/
def SourceGroup.default1 : SourceGroup :=
  { underV := .mk' .alarm 13107 40, overV := .mk' .trip 18022 40, underF := .mk' .trip 4700 100,
    overF := .mk' .trip 5300 100, rocof := .mk' .off 100 4, revPower := .mk' .trip 307 200 }

/-- The default store (the Default columns of chapters 1 to 11). -/
def Settings.default : Settings :=
  { station := 0, role := some .feeder, sect := 1, peerMask := 1, fNom := 50, strobeOffset := 0,
    gain := Seven.ofFn fun _ => 16384, polarity := 1, rI := 4096, rVB := 4096, rVL := 4096, vLive := 13107,
    vDead := 3277, capLen := 512, pre := 128,
    triggers := { trip := true, diff := true, bf := true, command := true },
    faultMode := some .auto, sourceMode := some .auto,
    fault0 := .default0, fault1 := .default1, source0 := .default0, source1 := .default1, tBf := 24,
    inputs := ((Vector.replicate 8 { fn := some .none, low := false }).set 0 { fn := some .brkClosed, low := false }).set 1
      { fn := some .brkOpen, low := false },
    outputs := ((Vector.replicate 8 { src := some .none, low := false }).set 0 { src := some .trip, low := false }).set 1
      { src := some .close, low := false },
    debounce := 4, tCloseMax := 30, tDisc := 40, deadDead := false, tRestore := 200,
    sMax := 20, direction := some .any, dvMax := 819, window := 100, tCloseMs := 80, tSyncMax := 12000,
    pRated := 6144, tStart := 2000, tRetry := 1000, tUnload := 6000, tCool := 12000, lBase := 3277, lOff := 410,
    ramp := 4, sTarget := 10, gS := 32, gV := 32, gL := 400, gF := 64, gQ := 400, gU := 16,
    priority := 8, margin := 3686, stage1 := { pickup := 4850, delay := 40, threshold := 10 },
    stage2 := { pickup := 4750, delay := 10, threshold := 5 }, pDead := 16,
    startMode := some .manual, vULo := 14746, vUHi := 18022, fULo := 4900, fUHi := 5100, tLoss := 100,
    tReturnShort := 200, tReturn := 60000, tResync := 24000, tParallelMax := 2000, resyncOffset := 5,
    openTransition := false, tieTransfer := false,
    coded := Vector.replicate 25 none, group0 := Vector.replicate 10 none, group1 := Vector.replicate 10 none }

/-- An empty result set: all zero, classifications DEAD, WARMUP, no label (R18). -/
def ResultSet.empty : ResultSet :=
  { label := none, phasor := Seven.ofFn fun _ => { re := 0, im := 0 }, mag := Seven.ofFn fun _ => 0, vMin := 0, vMax := 0,
    clipped := Seven.ofFn fun _ => false, p := 0, q := 0, clsA := .dead, clsB := .dead, clsC := .dead, clsL := .dead,
    busClass := .dead, fBus := 0, fLine := 0, periodBus := 0, periodLine := 0, tBus := none, tLine := none,
    meas := .warmup }

/-- CVP after power-on (R3, R5). What the interface converters hold before the first transfer is not given (log 8), nor are the
running strobe count and the held mark before START: 0 and clear are the model's choice (log 32). -/
def Cvp.reset : Cvp :=
  { inFlight := false, lastGood := Seven.ofFn fun _ => 0, held := false, missing := 0, bad := 0, goodRun := 0,
    meas := .warmup, warm := 0, sets := 0, speedSent := 0, voltSent := 0 }

/-- MSU after power-on (R8, R15, R17, R18). -/
def Msu.reset : Msu :=
  { window := Vector.replicate 32 (Seven.ofFn fun _ => { value := 0, clamped := false }), index := 0, previous := none,
    bus := { times := [], since := 0 }, line := { times := [], since := 0 }, newest := .empty, older := .empty,
    history := [], rocof := none }

/-- A cleared capture record (R24). -/
def CaptureRecord.empty : CaptureRecord :=
  { sources := .empty, cycle := 0, trigger := 0, start := 0, pre := 0, retriggered := false }

/-- A FREE bank with every sample zero (R25). -/
def Bank.reset : Bank :=
  { state := .free, samples := [], index := 0, written := 0, post := 0, record := .empty }

/-- CAP after power-on (R25). -/
def Cap.reset : Cap := { a := .reset, b := .reset, lost := 0 }

/-- LKC after power-on (R26, R32). -/
def Lkc.reset : Lkc :=
  { link := .off, unlocked := false, timer := 0, preCycle := false, number := 0, count := 0, phasorMade := false,
    phasorOwed := false, phasorLate := 0, sent := false, ownSkipped := false, ownHeard := false, slotsHeard := 0, listenCount := 0,
    silentCount := 0, heardNow := 0, heardBefore := 0, silence := 0, selfTimed := true, relockCycle := none,
    crcError := false, slotMismatch := false, late := false, duplicateSeen := false, referenceMissing := false,
    mismatches := 0, lates := 0, relocks := 0, txFrame := [], sending := false, txCut := false }

/-- A cleared Peer Image entry (R47). -/
def Entry.reset : Entry := { record := none, accepted := 0, expected := false, crcErrors := 0 }

/-- TOP after power-on (R61). -/
def Topology.reset : Topology :=
  { tie := .none, expected1 := none, expected2 := none, map := .unknown, state1 := .unknown, state2 := .unknown,
    own := .unknown, locked1 := false, locked2 := false }

/-- No phase. -/
def Phases.empty : Phases := { a := false, b := false, c := false }

/-- A QUIET element (R63). -/
def ElementRec.quiet : ElementRec := { state := .quiet, count := 0, phases := .empty }

/-- PRU after power-on (R63, R69, R70, R83). -/
def Pru.reset : Pru :=
  { elements := Eight.ofFn fun _ => .quiet, faultGroup := false, sourceGroup := false, tripActive := false,
    operations := [] }

/-- One section of DBU after power-on (R92, R96). -/
def SectionDiff.reset : SectionDiff :=
  { confirm := 0, blocked := 0, last := .notEvaluated, tripping := false, bfSeen := false }

/-- DBU after power-on (R92, R93, R95, R96, R99). -/
def Dbu.reset : Dbu :=
  { s1 := .reset, s2 := .reset, timer := .idle, notice := false, peerSeen := false, lockout := false,
    lockoutSource := .none }

/-- An input line before any strobe (R101). The pin itself is outside the part (log 8). -/
def LineState.reset : LineState := { high := false, read := none, level := none, hold := 0 }

/-- An empty breaker alarm record (R116). -/
def BreakerAlarms.empty : BreakerAlarms :=
  { closeFail := none, uncommandedClose := none, uncommandedOpen := none, discrepant := none }

/-- BCU after power-on (R101, R105, R116, R117). -/
def Bcu.reset : Bcu :=
  { state := .unknown, trip := false, close := false, hold := 0, supervision := 0, acceptedNow := false,
    trippedNow := false, endedNow := false, discrepancy := none, reconfirm := none, owner := none, lines := Vector.replicate 8 .reset,
    alarms := .empty, lastOutcome := none, lastRefusal := none }

/-- CLU after power-on (R118, R128). -/
def Clu.reset : Clu :=
  { claim := none, published := none, spent := false, failed := false, won1 := false, won2 := false, inFlight := none, pendingClose := false, age := 0,
    raisedNow := false, lastSeen := Vector.replicate 16 none, lastClose1 := 0, lastClose2 := 0, winner1 := none,
    winner2 := none, restoreWinner1 := none, restoreWinner2 := none, lastOutcome := none, operatorResult := none,
    abort := none }

/-- A cleared check record (R131). -/
def CheckRecord.empty : CheckRecord :=
  { slip := none, dv := none, angle := none, advance := none, predicted := none, results := [], failing := none,
    cycle := none }

/-- SYU after power-on (R131). -/
def Syu.reset : Syu :=
  { state := .idle, owner := none, supervision := 0, startedNow := false, permit := false, check := .empty,
    lastEnding := none }

/-- GCU after power-on (R145, R159). -/
def Gcu.reset : Gcu :=
  { unit := .idle, enteredNow := false, heardNow := false, mode := .off, speed := 0, volt := 0, ramp := 0, startCount := 0, retryCount := 0,
    unloadCount := 0, coolCount := 0, lastSeen := Vector.replicate 16 none, failReason := .none, droopCause := .none,
    demand := false, stopNotice := false, fRef := 0, lAvg := 0, lqAvg := 0 }

/-- FCU after power-on (R163). -/
def Fcu.reset : Fcu :=
  { state := .normal, reason := .none, cause := .none, held := 0, lastLoad := 0, overCount := 0, stage1 := 0, stage2 := 0,
    dead := 0, guard := 0, openPending := false, heardNow := false, view := none }

/-- TRU after power-on (R173): the mode is the start mode of the default store, MANUAL. -/
def Tru.reset : Tru :=
  { mode := .manual, state := .manual, enteredNow := false, heardNow := false, derive := false, hold := false, startDemand := false,
    openDemand := false, parallelTimeout := false, healthy := false, judged := false, healthLine := 0, run := 0,
    reference := 0, lossCount := 0, returnCount := 0, resyncCount := 0, parallelCount := 0, direction := none,
    lastAnswer := none }

/-- CFP after power-on (R192, R193, R194, R195). -/
def Cfp.reset : Cfp :=
  { run := .config, groupAccess := false, attention := 0, enable := 0,
    result := { code := .accepted, command := 0, check := 0 }, readBuffer := [], dataOut := [] }

/-- The part right after power-on reset: CONFIG, the store at its defaults, every block at its power-on values, no
command waiting. -/
def State.reset : State :=
  { cfg := .default, cvp := .reset, msu := .reset, cap := .reset, lkc := .reset, pim := Vector.replicate 16 .reset,
    top := .reset, pru := .reset, dbu := .reset, bcu := .reset, clu := .reset, syu := .reset, gcu := .reset,
    fcu := .reset, tru := .reset, cfp := .reset, pending := [] }

end Sys2Proof.Machine
end

