-- ==== Sys2Proof/Machine/Update.lean ====
section
/-! DEFINITION. One update per block: every operation of the part changes the state through these. -/

namespace Sys2Proof.Machine

/-- A change of the configuration store. -/
def State.withCfg (s : State) (f : Settings → Settings) : State := { s with cfg := f s.cfg }

/-- A change of CVP. -/
def State.withCvp (s : State) (f : Cvp → Cvp) : State := { s with cvp := f s.cvp }

/-- A change of MSU. -/
def State.withMsu (s : State) (f : Msu → Msu) : State := { s with msu := f s.msu }

/-- A change of CAP. -/
def State.withCap (s : State) (f : Cap → Cap) : State := { s with cap := f s.cap }

/-- A change of LKC. -/
def State.withLkc (s : State) (f : Lkc → Lkc) : State := { s with lkc := f s.lkc }

/-- A change of TOP's results. -/
def State.withTop (s : State) (f : Topology → Topology) : State := { s with top := f s.top }

/-- A change of PRU. -/
def State.withPru (s : State) (f : Pru → Pru) : State := { s with pru := f s.pru }

/-- A change of DBU. -/
def State.withDbu (s : State) (f : Dbu → Dbu) : State := { s with dbu := f s.dbu }

/-- A change of BCU. -/
def State.withBcu (s : State) (f : Bcu → Bcu) : State := { s with bcu := f s.bcu }

/-- A change of CLU. -/
def State.withClu (s : State) (f : Clu → Clu) : State := { s with clu := f s.clu }

/-- A change of SYU. -/
def State.withSyu (s : State) (f : Syu → Syu) : State := { s with syu := f s.syu }

/-- A change of GCU. -/
def State.withGcu (s : State) (f : Gcu → Gcu) : State := { s with gcu := f s.gcu }

/-- A change of FCU. -/
def State.withFcu (s : State) (f : Fcu → Fcu) : State := { s with fcu := f s.fcu }

/-- A change of TRU. -/
def State.withTru (s : State) (f : Tru → Tru) : State := { s with tru := f s.tru }

/-- A change of CFP. -/
def State.withCfp (s : State) (f : Cfp → Cfp) : State := { s with cfp := f s.cfp }

/-- A change of one Peer Image entry. -/
def State.withEntry (s : State) (k : Station) (f : Entry → Entry) : State :=
  { s with pim := s.pim.set k.val (f (s.pim.get k)) k.isLt }

end Sys2Proof.Machine
end

