-- ==== Sys2Proof/Machine/Flags.lean ====
section
/-! DEFINITION. The attention bits and ATTN (R195), and the five link exception flags (R46). -/

namespace Sys2Proof.Machine

/-- The sixteen attention pending bits in the order of their positions (R195). -/
inductive Attention
  | trip | lockout | bf | breakerAlarm | linkAlarm | zoneBlocked | transferChange | syncFail | shed | restore
  | captureHeld | captureLost | measFail | droop | deadbusAbort | writeRefused
deriving DecidableEq, Repr

/-- The bit position of an attention bit (R195). -/
def Attention.position : Attention → Nat
  | .trip => 0
  | .lockout => 1
  | .bf => 2
  | .breakerAlarm => 3
  | .linkAlarm => 4
  | .zoneBlocked => 5
  | .transferChange => 6
  | .syncFail => 7
  | .shed => 8
  | .restore => 9
  | .captureHeld => 10
  | .captureLost => 11
  | .measFail => 12
  | .droop => 13
  | .deadbusAbort => 14
  | .writeRefused => 15

/-- The word with that bit alone. -/
def Attention.word (b : Attention) : Word := BitVec.twoPow 16 b.position

/-- An event sets a pending bit, enabled or not, pending already or not (R195). -/
def State.raise (s : State) (b : Attention) : State :=
  s.withCfp fun c => { c with attention := c.attention ||| b.word }

/-- A pending bit (R195). -/
def State.pendingBit (s : State) (b : Attention) : Bool := s.cfp.attention.getLsbD b.position

/-- ATTN: some enabled bit is pending (R195). -/
def State.attn (s : State) : Bool := s.cfp.attention &&& s.cfp.enable != 0

/-- An exception flag of the link is set with LINK_ALARM (R46). -/
def State.linkAlarm (s : State) (f : Lkc → Lkc) : State := (s.withLkc f).raise .linkAlarm

/-- The five exception flags cleared (R46). -/
def clearFlags (l : Lkc) : Lkc :=
  { l with crcError := false, slotMismatch := false, late := false, duplicateSeen := false, referenceMissing := false }

/-- An acknowledge (R195): the named bits are cleared, and with LINK_ALARM among them the five link flags (R46). -/
def State.acknowledge (s : State) (mask : Word) : State :=
  let t := s.withCfp fun c => { c with attention := c.attention &&& ~~~mask }
  if mask.getLsbD Attention.linkAlarm.position then t.withLkc clearFlags else t

/-- LAST_RESULT (R193). -/
def State.answer (s : State) (code : ResultCode) (command : Word) (check : Nat := 0) : State :=
  s.withCfp fun c => { c with result := { code := code, command := command, check := check } }

/-- The part is in RUN. -/
def State.running (s : State) : Bool := s.cfp.run == .run

end Sys2Proof.Machine
end

