-- ==== Sys2Proof/Machine/Arith.lean ====
section
/-! DEFINITION. The arithmetic words of the manual (00_scope, Arithmetic words): clamp, shift right, divide, floor of a
square root, and the saturating and wrapping counts. -/

namespace Sys2Proof.Machine

/-- Clamp: a value outside the range becomes its nearest end. -/
def clamp (lo hi x : Int) : Int := if x < lo then lo else if hi < x then hi else x

/-- Clamp to −32767..+32767, the range of samples, phasor components, P and Q (R7, R9, R10, R12). -/
def clampSample (x : Int) : Int := clamp (-32767) 32767 x

/-- Shift right: arithmetic, rounding toward minus infinity. -/
def shiftRight (x : Int) (n : Nat) : Int := x >>> n

/-- Divide: truncated toward zero. -/
def divide (x y : Int) : Int := Int.tdiv x y

/-- The largest r below `acc + 2^bits` whose square does not exceed n, bit by bit from the top. -/
def isqrtFrom : Nat → Nat → Nat → Nat
  | 0, _, acc => acc
  | b + 1, n, acc => if (acc + 2 ^ b) * (acc + 2 ^ b) ≤ n then isqrtFrom b n (acc + 2 ^ b) else isqrtFrom b n acc

/-- floor(√n): the largest integer whose square does not exceed n. -/
def isqrt (n : Nat) : Nat := isqrtFrom (n.log2 / 2 + 1) n 0

/-- The magnitude of a phasor, floor(√(re² + im²)) (R11, R88). -/
def magnitude (re im : Int) : Nat := isqrt (re * re + im * im).toNat

/-- A counter that saturates (R3, R21, R33). -/
def satInc (top n : Nat) : Nat := min top (n + 1)

/-- The sum of a list of integers. -/
def sumInt (xs : List Int) : Int := xs.foldl (· + ·) 0

/-- The sum of a list of naturals. -/
def sumNat (xs : List Nat) : Nat := xs.foldl (· + ·) 0

/-- An integer as a 16-bit word, two's complement. -/
def toWord (x : Int) : Word := BitVec.ofInt 16 x

/-- A bias code as the 12-bit two's-complement number it is sent as (R6). -/
def biasWord (x : Int) : BitVec 12 := BitVec.ofInt 12 x

/-- Wrap into −1800..+1799 by adding or subtracting 3600 as often as needed (R134). -/
def wrapAngle (x : Int) : Int := (x + 1800) % 3600 - 1800

/-- |x|. -/
def absInt (x : Int) : Nat := x.natAbs

end Sys2Proof.Machine
end

