-- ==== Sys2Proof/Machine/Store.lean ====
section
/-! DEFINITION. The configuration store: how a setting is read, how a word is written to it (R192), and the
configuration check of START (R194). -/

namespace Sys2Proof.Machine

/-! ### Reading settings -/

/-- The own station number. A store that passed the check holds 0 to 15. -/
def Settings.own (c : Settings) : Station := ⟨c.station.toNat % 16, Nat.mod_lt _ (by decide)⟩

/-- The own role is r. -/
def Settings.isRole (c : Settings) (r : Role) : Bool := c.role == some r

/-- The own section, `none` for a section value of 0. -/
def Settings.sec (c : Settings) : Option Sec :=
  if c.sect = 1 then some .one else if c.sect = 2 then some .two else none

/-- The section the own claims and requests name; a tie has none and the value is not read for it. -/
def Settings.ownSec (c : Settings) : Sec := c.sec.getD .one

/-- The station belongs to section x: its own, or both for the tie (R55). -/
def Settings.belongs (c : Settings) (x : Sec) : Bool := c.isRole .tie || c.sec == some x

/-- f_nom in Hz. -/
def Settings.nominal (c : Settings) : Nat := c.fNom.toNat

/-- The lowest station of the peer mask is the own one (R41). -/
def Settings.isLowest (c : Settings) : Bool := StationSet.lowest c.peerMask == some c.own

/-- The fault-half instance of a group number (true for group 1). -/
def Settings.fault (c : Settings) (g : Bool) : FaultGroup := if g then c.fault1 else c.fault0

/-- The source-half instance of a group number. -/
def Settings.source (c : Settings) (g : Bool) : SourceGroup := if g then c.source1 else c.source0

/-- The stage's words (R167). -/
def Settings.stage (c : Settings) : Stage → StageWords
  | .one => c.stage1
  | .two => c.stage2

/-- The words of an element of the source half. -/
def SourceGroup.words (g : SourceGroup) : Element → ElementWords
  | .underV => g.underV
  | .overV => g.overV
  | .underF => g.underF
  | .overF => g.overF
  | .rocof => g.rocof
  | _ => g.revPower

/-! ### The cycle timer's lengths, in 1/96 µs (chapter 2, One link cycle) -/

/-- The link cycle, 8 sample periods. -/
def cycleUnits (c : Settings) : Nat := if c.nominal = 60 then 400000 else 480000

/-- A sample period. -/
def periodUnits (c : Settings) : Nat := if c.nominal = 60 then 50000 else 60000

/-- The strobe offset, in sixteenths of a sample period. -/
def offsetUnits (c : Settings) : Nat := c.strobeOffset.toNat * (periodUnits c / 16)

/-- The start of slot k: 1/25 + 3k/50 of the cycle. -/
def slotStart (c : Settings) (k : Station) : Nat := cycleUnits c / 25 + k.val * (3 * cycleUnits c / 50)

/-- The end of slot k. -/
def slotEnd (c : Settings) (k : Station) : Nat := slotStart c k + 3 * cycleUnits c / 50

/-- 10 µs, from the start of a slot to the start of its frame. -/
def frameLead : Nat := 960

/-- 328 bit times at 2 Mbit/s, 164 µs: the length of a frame. -/
def frameUnits : Nat := 15744

/-- One sixteenth of a sample period, the largest error taken as a shift (R39). -/
def alignLimit (c : Settings) : Nat := periodUnits c / 16

/-- The strobe of grid point k: (k − 1) sample periods after the start of the cycle plus the offset; that of grid
point 0 lies in the last sample period of the cycle before (R1). -/
def gridPosition (c : Settings) (k : Fin 8) : Nat :=
  if k = 0 then cycleUnits c - periodUnits c + offsetUnits c else (k.val - 1) * periodUnits c + offsetUnits c

/-- The slot a position lies in, none in the compute gap (R28). -/
def slotOf (c : Settings) (t : Nat) : Option Station :=
  allStations.find? fun k => decide (slotStart c k ≤ t ∧ t < slotEnd c k)

/-! ### Writing words (R192) -/

/-- A gain word. -/
def setGain (g : Seven Word) (c : Channel) (w : Word) : Seven Word :=
  match c with
  | .va => { g with va := w }
  | .vb => { g with vb := w }
  | .vc => { g with vc := w }
  | .vl => { g with vl := w }
  | .ia => { g with ia := w }
  | .ib => { g with ib := w }
  | .ic => { g with ic := w }

/-- A word of a stage. -/
def Settings.setStage (c : Settings) (s : Stage) (f : StageWords → StageWords) : Settings :=
  match s with
  | .one => { c with stage1 := f c.stage1 }
  | .two => { c with stage2 := f c.stage2 }

/-- A numeric word of the configuration tables stored as written. -/
def Settings.setNumber (c : Settings) (x : NumWord) (w : Word) : Settings :=
  match x with
  | .station => { c with station := w }
  | .sect => { c with sect := w }
  | .peerMask => { c with peerMask := w }
  | .fNom => { c with fNom := w }
  | .strobeOffset => { c with strobeOffset := w }
  | .gain ch => { c with gain := setGain c.gain ch w }
  | .polarity => { c with polarity := w }
  | .rI => { c with rI := w }
  | .rVB => { c with rVB := w }
  | .rVL => { c with rVL := w }
  | .vLive => { c with vLive := w }
  | .vDead => { c with vDead := w }
  | .capLen => { c with capLen := w }
  | .pre => { c with pre := w }
  | .debounce => { c with debounce := w }
  | .tCloseMax => { c with tCloseMax := w }
  | .tDisc => { c with tDisc := w }
  | .tBf => { c with tBf := w }
  | .tRestore => { c with tRestore := w }
  | .sMax => { c with sMax := w }
  | .dvMax => { c with dvMax := w }
  | .window => { c with window := w }
  | .tCloseMs => { c with tCloseMs := w }
  | .tSyncMax => { c with tSyncMax := w }
  | .pRated => { c with pRated := w }
  | .tStart => { c with tStart := w }
  | .tRetry => { c with tRetry := w }
  | .tUnload => { c with tUnload := w }
  | .tCool => { c with tCool := w }
  | .lBase => { c with lBase := w }
  | .lOff => { c with lOff := w }
  | .ramp => { c with ramp := w }
  | .sTarget => { c with sTarget := w }
  | .gS => { c with gS := w }
  | .gV => { c with gV := w }
  | .gL => { c with gL := w }
  | .gF => { c with gF := w }
  | .gQ => { c with gQ := w }
  | .gU => { c with gU := w }
  | .priority => { c with priority := w }
  | .margin => { c with margin := w }
  | .ufPickup s => c.setStage s fun t => { t with pickup := w }
  | .ufDelay s => c.setStage s fun t => { t with delay := w }
  | .ufThreshold s => c.setStage s fun t => { t with threshold := w }
  | .pDead => { c with pDead := w }
  | .vULo => { c with vULo := w }
  | .vUHi => { c with vUHi := w }
  | .fULo => { c with fULo := w }
  | .fUHi => { c with fUHi := w }
  | .tLoss => { c with tLoss := w }
  | .tReturnShort => { c with tReturnShort := w }
  | .tReturn => { c with tReturn := w }
  | .tResync => { c with tResync := w }
  | .tParallelMax => { c with tParallelMax := w }
  | .resyncOffset => { c with resyncOffset := w }

/-- A change of the fault-half instance that GROUP_ACCESS selects. -/
def Settings.onFault (c : Settings) (g : Bool) (f : FaultGroup → FaultGroup) : Settings :=
  if g then { c with fault1 := f c.fault1 } else { c with fault0 := f c.fault0 }

/-- A change of one element's words in the source-half instance that GROUP_ACCESS selects. -/
def SourceGroup.onWords (g : SourceGroup) (e : Element) (f : ElementWords → ElementWords) : SourceGroup :=
  match e with
  | .underV => { g with underV := f g.underV }
  | .overV => { g with overV := f g.overV }
  | .underF => { g with underF := f g.underF }
  | .overF => { g with overF := f g.overF }
  | .rocof => { g with rocof := f g.rocof }
  | .revPower => { g with revPower := f g.revPower }
  | .overI => g
  | .highI => g

/-- A change of one element's words in the selected source-half instance. -/
def Settings.onSource (c : Settings) (g : Bool) (e : Element) (f : ElementWords → ElementWords) : Settings :=
  if g then { c with source1 := c.source1.onWords e f } else { c with source0 := c.source0.onWords e f }

/-- A numeric word of the group window. -/
def Settings.setGroupNumber (c : Settings) (g : Bool) (x : GroupWord) (w : Word) : Settings :=
  match x with
  | .overIPickup => c.onFault g fun t => { t with overIPickup := w }
  | .overIDelay => c.onFault g fun t => { t with overIDelay := w }
  | .highIPickup => c.onFault g fun t => { t with highIPickup := w }
  | .ipu => c.onFault g fun t => { t with ipu := w }
  | .slope => c.onFault g fun t => { t with slope := w }
  | .confirm => c.onFault g fun t => { t with confirm := w }
  | .pickup e => c.onSource g e fun t => { t with pickup := w }
  | .delay e => c.onSource g e fun t => { t with delay := w }

/-- An action word of the group window. -/
def Settings.setAction (c : Settings) (g : Bool) (e : Element) (v : Option Action) : Settings :=
  match e with
  | .overI => c.onFault g fun t => { t with overIAction := v }
  | .highI => c.onFault g fun t => { t with highIAction := v }
  | _ => c.onSource g e fun t => { t with action := v }

/-- The value a write codes, taken into the settings, the group window in instance `g`. `none` where the address holds no
word of the store. -/
def Settings.setValue (c : Settings) (g : Bool) (x : ConfigWrite) : Option Settings :=
  match x with
  | .number n w => some (c.setNumber n w)
  | .role v _ => some { c with role := v }
  | .triggers m _ => some { c with triggers := m }
  | .groupMode .fault v _ => some { c with faultMode := v }
  | .groupMode .source v _ => some { c with sourceMode := v }
  | .inputLine i f low _ => some { c with inputs := c.inputs.set i.val { fn := f, low := low } i.isLt }
  | .outputLine i f low _ => some { c with outputs := c.outputs.set i.val { src := f, low := low } i.isLt }
  | .deadDead v _ => some { c with deadDead := v }
  | .direction v _ => some { c with direction := v }
  | .startMode v _ => some { c with startMode := v }
  | .openTransition v _ => some { c with openTransition := v }
  | .tieTransfer v _ => some { c with tieTransfer := v }
  | .groupNumber x w => some (c.setGroupNumber g x w)
  | .action e v _ => some (c.setAction g e v)
  | .highILockout v _ => some (c.onFault g fun t => { t with highILockout := v })
  | .diffAction v _ => some (c.onFault g fun t => { t with diffAction := v })
  | .other _ _ => none

/-- The words of the configuration tables that code a value, in the order of their places in `Settings.coded`. -/
def codedPlace : CodedItem → Fin 25
  | .role => 0
  | .triggers => 1
  | .groupMode .fault => 2
  | .groupMode .source => 3
  | .inputLine i => ⟨4 + i.val, by omega⟩
  | .outputLine i => ⟨12 + i.val, by omega⟩
  | .deadDead => 20
  | .direction => 21
  | .startMode => 22
  | .openTransition => 23
  | .tieTransfer => 24

/-- The words of one group-window instance that code a value, in the order of their places. -/
def groupPlace : GroupCoded → Fin 10
  | .action .overI => 0
  | .action .highI => 1
  | .action .underV => 2
  | .action .overV => 3
  | .action .underF => 4
  | .action .overF => 5
  | .action .rocof => 6
  | .action .revPower => 7
  | .highILockout => 8
  | .diffAction => 9

/-- A word that codes a value, kept as it was written (R192, log 7). -/
def Settings.keepWord (c : Settings) (g : Bool) (x : StoreItem) (w : Word) : Settings :=
  match x with
  | .coded i => { c with coded := c.coded.set (codedPlace i).val (some w) (codedPlace i).isLt }
  | .groupCoded i =>
    if g then { c with group1 := c.group1.set (groupPlace i).val (some w) (groupPlace i).isLt }
    else { c with group0 := c.group0.set (groupPlace i).val (some w) (groupPlace i).isLt }
  | _ => c

/-- A word stored as written, with the value it codes, the group window in instance `g` (R192). `none` where the address
holds no word of the store. -/
def Settings.write (c : Settings) (g : Bool) (x : ConfigWrite) : Option Settings :=
  match c.setValue g x, x.item with
  | some d, some i => some (d.keepWord g i x.word)
  | _, _ => none

/-! ### Reading words (R192) -/

/-- A numeric word of the configuration tables. -/
def Settings.getNumber (c : Settings) : NumWord → Word
  | .station => c.station
  | .sect => c.sect
  | .peerMask => c.peerMask
  | .fNom => c.fNom
  | .strobeOffset => c.strobeOffset
  | .gain ch => c.gain.get ch
  | .polarity => c.polarity
  | .rI => c.rI
  | .rVB => c.rVB
  | .rVL => c.rVL
  | .vLive => c.vLive
  | .vDead => c.vDead
  | .capLen => c.capLen
  | .pre => c.pre
  | .debounce => c.debounce
  | .tCloseMax => c.tCloseMax
  | .tDisc => c.tDisc
  | .tBf => c.tBf
  | .tRestore => c.tRestore
  | .sMax => c.sMax
  | .dvMax => c.dvMax
  | .window => c.window
  | .tCloseMs => c.tCloseMs
  | .tSyncMax => c.tSyncMax
  | .pRated => c.pRated
  | .tStart => c.tStart
  | .tRetry => c.tRetry
  | .tUnload => c.tUnload
  | .tCool => c.tCool
  | .lBase => c.lBase
  | .lOff => c.lOff
  | .ramp => c.ramp
  | .sTarget => c.sTarget
  | .gS => c.gS
  | .gV => c.gV
  | .gL => c.gL
  | .gF => c.gF
  | .gQ => c.gQ
  | .gU => c.gU
  | .priority => c.priority
  | .margin => c.margin
  | .ufPickup s => (c.stage s).pickup
  | .ufDelay s => (c.stage s).delay
  | .ufThreshold s => (c.stage s).threshold
  | .pDead => c.pDead
  | .vULo => c.vULo
  | .vUHi => c.vUHi
  | .fULo => c.fULo
  | .fUHi => c.fUHi
  | .tLoss => c.tLoss
  | .tReturnShort => c.tReturnShort
  | .tReturn => c.tReturn
  | .tResync => c.tResync
  | .tParallelMax => c.tParallelMax
  | .resyncOffset => c.resyncOffset

/-- A numeric word of a group-window instance; the source half holds none for I> and I>>. -/
def Settings.getGroupNumber (c : Settings) (g : Bool) : GroupWord → Word
  | .overIPickup => (c.fault g).overIPickup
  | .overIDelay => (c.fault g).overIDelay
  | .highIPickup => (c.fault g).highIPickup
  | .ipu => (c.fault g).ipu
  | .slope => (c.fault g).slope
  | .confirm => (c.fault g).confirm
  | .pickup e => if e.inSource then ((c.source g).words e).pickup else 0
  | .delay e => if e.inSource then ((c.source g).words e).delay else 0

/-- A word of the store as it reads, the group window in instance `g`: what was last written there, or the word of the
default (R192, R84). -/
def Settings.read (c : Settings) (g : Bool) : StoreItem → Word
  | .number x => c.getNumber x
  | .coded x => (c.coded.get (codedPlace x)).getD (Config.defaultCode x)
  | .group x => c.getGroupNumber g x
  | .groupCoded x => ((if g then c.group1 else c.group0).get (groupPlace x)).getD (Config.defaultGroupCode g x)

/-- A broadcast trim write: one word into the three gains of the triple (R192). -/
def Settings.broadcast (c : Settings) (t : Triple) (w : Word) : Settings :=
  match t with
  | .current => { c with gain := { c.gain with ia := w, ib := w, ic := w } }
  | .voltage => { c with gain := { c.gain with va := w, vb := w, vc := w } }

/-! ### The configuration check (R194) -/

/-- A word within a range. -/
def within (w : Word) (lo hi : Nat) : Bool := decide (lo ≤ w.toNat ∧ w.toNat ≤ hi)

/-- A signed word within a range. That the words of s_target and of the resync offset are two's complement is the model's choice
(R194, log 47). -/
def withinInt (w : Word) (lo hi : Int) : Bool := decide (lo ≤ w.toInt ∧ w.toInt ≤ hi)

/-- How many input lines have a function. -/
def Settings.inputsOf (c : Settings) (f : InFn) : Nat := (c.inputs.toList.filter fun l => l.fn == some f).length

/-- How many output lines have a source. -/
def Settings.outputsOf (c : Settings) (f : OutSrc) : Nat := (c.outputs.toList.filter fun l => l.src == some f).length

/-- The I> and I>> settings of an instance within their ranges (chapter 4). -/
def FaultGroup.elementsOk (g : FaultGroup) : Bool :=
  g.overIAction.isSome && within g.overIPickup 1 46339 && within g.overIDelay 1 65535 && g.highIAction.isSome
    && within g.highIPickup 1 46339

/-- The differential settings of an instance within their ranges (chapter 5). -/
def FaultGroup.diffOk (g : FaultGroup) : Bool :=
  g.diffAction.isSome && within g.ipu 1 65535 && within g.slope 8 56 && within g.confirm 1 4

/-- An element's words within their ranges. -/
def ElementWords.ok (w : ElementWords) (lo hi : Nat) : Bool :=
  w.action.isSome && within w.pickup lo hi && within w.delay 1 65535

/-- The source-half settings of an instance within their ranges (chapter 4). -/
def SourceGroup.ok (g : SourceGroup) : Bool :=
  g.underV.ok 0 46339 && g.overV.ok 0 46339 && g.underF.ok 1 65535 && g.overF.ok 1 65535 && g.rocof.ok 1 65535
    && g.revPower.ok 1 32767

/-- Check 2: the role is one of the four, and the section is 0 exactly when it is TIE, otherwise 1 or 2. -/
def Settings.roleOk (c : Settings) : Bool :=
  match c.role with
  | none => false
  | some .tie => c.sect == 0
  | some _ => c.sect == 1 || c.sect == 2

/-- Check 5: gains, ratio factors and polarity. -/
def Settings.trimOk (c : Settings) : Bool :=
  within c.gain.va 0 32767 && within c.gain.vb 0 32767 && within c.gain.vc 0 32767 && within c.gain.vl 0 32767
    && within c.gain.ia 0 32767 && within c.gain.ib 0 32767 && within c.gain.ic 0 32767
    && within c.rI 1 32767 && within c.rVB 1 32767 && within c.rVL 1 32767
    && (c.polarity.toInt == 1 || c.polarity.toInt == -1)

/-- Check 7: the capture length and PRE. -/
def Settings.captureOk (c : Settings) : Bool :=
  (c.capLen == 256 || c.capLen == 512 || c.capLen == 1024) && within c.pre 32 (c.capLen.toNat - 32)
    && c.pre.toNat % 8 == 0

/-- Check 16: every generator control setting. -/
def Settings.generatorOk (c : Settings) : Bool :=
  within c.pRated 1 32767 && within c.tStart 1 65535 && within c.tRetry 1 65535 && within c.tUnload 1 65535
    && within c.tCool 1 65535 && within c.lBase 0 8191 && within c.lOff 0 4096 && within c.ramp 1 4096
    && withinInt c.sTarget (-50) 50 && within c.gS 0 255 && within c.gV 0 255 && within c.gL 0 4095
    && within c.gF 0 255 && within c.gQ 0 4095 && within c.gU 0 255

/-- Check 17: every feeder setting. -/
def Settings.feederOk (c : Settings) : Bool :=
  within c.priority 1 15 && within c.margin 0 4096 && within c.stage1.delay 1 65535 && within c.stage1.threshold 1 16
    && within c.stage2.delay 1 65535 && within c.stage2.threshold 1 16 && within c.pDead 1 16

/-- Check 18: the start mode, the two relations, the transfer timers and the resync offset. -/
def Settings.transferOk (c : Settings) : Bool :=
  c.startMode.isSome && decide (c.vULo.toNat < c.vUHi.toNat) && decide (c.fULo.toNat < c.fUHi.toNat)
    && within c.tLoss 1 65535 && within c.tReturnShort 1 65535 && within c.tReturn 1 65535
    && within c.tResync 1 65535 && within c.tParallelMax 1 65535 && withinInt c.resyncOffset (-50) 50

/-- The eighteen checks in the order of their codes (R194). -/
def Settings.checks (c : Settings) : List Bool :=
  [ within c.station 0 15,
    c.roleOk,
    c.station.toNat < 16 && StationSet.has c.peerMask c.own,
    (c.fNom == 50 || c.fNom == 60) && within c.strobeOffset 0 15,
    c.trimOk,
    within c.vDead 0 46339 && within c.vLive 0 46339 && decide (c.vDead.toNat < c.vLive.toNat),
    c.captureOk,
    c.inputs.toList.all (fun l => l.fn.isSome) && c.outputs.toList.all (fun l => l.src.isSome),
    c.inputsOf .brkClosed == 1 && c.inputsOf .brkOpen == 1,
    c.outputsOf .trip == 1 && c.outputsOf .close == 1,
    !c.isRole .generator || decide (1 ≤ c.inputsOf .engineReady),
    within c.debounce 1 16 && within c.tCloseMax 2 400 && within c.tDisc 2 1000,
    c.faultMode.isSome && c.sourceMode.isSome && c.fault0.elementsOk && c.fault1.elementsOk && c.source0.ok && c.source1.ok,
    c.fault0.diffOk && c.fault1.diffOk && within c.tBf 2 100,
    within c.tRestore 1 65535 && within c.sMax 1 500 && c.direction.isSome && within c.dvMax 0 16384
      && within c.window 1 900 && within c.tCloseMs 20 250 && within c.tSyncMax 1 65535,
    c.generatorOk,
    c.feederOk,
    c.transferOk ]

/-- The code of the first failing check, 0 when every check passes (R193, R194). -/
def Settings.checkCode (c : Settings) : Nat :=
  match c.checks.findIdx? (fun b => !b) with
  | some i => i + 1
  | none => 0

end Sys2Proof.Machine
end

