-- ==== Sys2Proof/Machine/Wire.lean ====
section
/-! DEFINITION. The bay record on the wire (R196, wire formats): its 38 bytes, its CRC (R33), and the reading of a
frame's bytes, which rejects every code the tables do not define. -/

namespace Sys2Proof.Machine

/-! ### CRC-16 (R33): x¹⁶ + x¹² + x⁵ + 1, initial value all ones, most significant bit first, no final inversion -/

/-- One bit of the division. -/
def crcBit (c : Word) : Word := if c.msb then (c <<< 1) ^^^ 0x1021#16 else c <<< 1

/-- One byte of the division. -/
def crcByte (c : Word) (b : Byte) : Word :=
  crcBit (crcBit (crcBit (crcBit (crcBit (crcBit (crcBit (crcBit (c ^^^ (b ++ 0#8)))))))))

/-- The CRC of a list of bytes. -/
def crc16 (bs : List Byte) : Word := bs.foldl crcByte 0xFFFF#16

/-! ### Codes -/

/-- Role codes. -/
def roleBits : Role → BitVec 2
  | .incomer => 0
  | .tie => 1
  | .generator => 2
  | .feeder => 3

/-- Section codes: 0 for the tie's section value, 1, 2. -/
def secBits : Option Sec → BitVec 2
  | none => 0
  | some .one => 1
  | some .two => 2

/-- The section a code names. -/
def secOf (b : BitVec 2) : Option (Option Sec) :=
  if b = 0 then some none else if b = 1 then some (some .one) else if b = 2 then some (some .two) else none

/-- Alignment codes. -/
def alignBits : Alignment → BitVec 2
  | .aligned => 0
  | .relocked => 1
  | .selfTimed => 2

/-- The alignment a code names. -/
def alignOf (b : BitVec 2) : Option Alignment :=
  if b = 0 then some .aligned else if b = 1 then some .relocked else if b = 2 then some .selfTimed else none

/-- Measurement state codes. -/
def measBits : MeasState → BitVec 2
  | .valid => 0
  | .warmup => 1
  | .fail => 2

/-- The measurement state a code names. -/
def measOf (b : BitVec 2) : Option MeasState :=
  if b = 0 then some .valid else if b = 1 then some .warmup else if b = 2 then some .fail else none

/-- Breaker summary codes. -/
def summaryBits : Summary → BitVec 3
  | .opened => 0
  | .closing => 1
  | .closed => 2
  | .opening => 3
  | .faulty => 4

/-- The summary a code names. -/
def summaryOf (b : BitVec 3) : Option Summary :=
  if b = 0 then some .opened else if b = 1 then some .closing else if b = 2 then some .closed
  else if b = 3 then some .opening else if b = 4 then some .faulty else none

/-- Claim type codes. -/
def claimBits : ClaimType → BitVec 2
  | .none => 0
  | .deadBus => 1
  | .restore => 2

/-- The claim type a code names. -/
def claimOf (b : BitVec 2) : Option ClaimType :=
  if b = 0 then some .none else if b = 1 then some .deadBus else if b = 2 then some .restore else none

/-- Transfer state codes. -/
def transferBits : TransferCode → BitVec 4
  | .none => 0
  | .manual => 1
  | .normal => 2
  | .lossConfirm => 3
  | .isolating => 4
  | .deadWait => 5
  | .onAlternate => 6
  | .returnWait => 7
  | .resync => 8
  | .parallel => 9
  | .openReturn => 10
  | .halted => 11
  | .tieOpen => 12
  | .tieClaim => 13
  | .tieFeeding => 14

/-- The transfer states in the order of their codes. -/
def transferTable : List TransferCode :=
  [.none, .manual, .normal, .lossConfirm, .isolating, .deadWait, .onAlternate, .returnWait, .resync, .parallel,
   .openReturn, .halted, .tieOpen, .tieClaim, .tieFeeding]

/-- Unit state codes. -/
def unitByte : UnitState → Byte
  | .idle => 0
  | .starting => 1
  | .deadbus => 2
  | .sync => 3
  | .syncWait => 4
  | .online => 5
  | .unload => 6
  | .cooldown => 7
  | .fail => 8

/-- The unit states in the order of their codes. -/
def unitTable : List UnitState :=
  [.idle, .starting, .deadbus, .sync, .syncWait, .online, .unload, .cooldown, .fail]

/-- Bias mode codes. -/
def biasByte : BiasMode → Byte
  | .off => 0
  | .sync => 1
  | .isoch => 2
  | .base => 3
  | .unload => 4
  | .droop => 5

/-- The bias modes in the order of their codes. -/
def biasTable : List BiasMode := [.off, .sync, .isoch, .base, .unload, .droop]

/-- Shed state codes. -/
def shedByte : ShedState → Byte
  | .normal => 0
  | .shed => 1
  | .restoring => 2
  | .manualOpen => 3

/-- The shed states in the order of their codes. -/
def shedTable : List ShedState := [.normal, .shed, .restoring, .manualOpen]

/-! ### Encoding (R196) -/

/-- The two bytes of a word, high byte first. -/
def wordBytes (w : Word) : List Byte := [w.extractLsb' 8 8, w.extractLsb' 0 8]

/-- The six bytes of the role part; bytes the role does not use are 0. -/
def encodePart : RolePart → List Byte
  | .incomer h ref off => [if h then 1 else 0, 0] ++ wordBytes ref ++ [off, 0]
  | .tie d => [(secBits d).setWidth 8, 0, 0, 0, 0, 0]
  | .generator l r u b => wordBytes l ++ wordBytes r ++ [unitByte u, biasByte b]
  | .feeder h p s => wordBytes h ++ [p, shedByte s, 0, 0]

/-- Bytes 0 to 5 of a record. -/
def encodeHead (r : BayRecord) : List Byte :=
  [ BitVec.ofFin (w := 4) r.station ++ roleBits r.role ++ secBits r.sect,
    r.cycle,
    alignBits r.alignment ++ measBits r.meas ++ summaryBits r.summary ++ BitVec.ofBool r.lockout,
    BitVec.ofBool r.tripActive ++ BitVec.ofBool r.bfNotice ++ BitVec.ofBool r.faultGroup ++ BitVec.ofBool r.sourceGroup
      ++ BitVec.ofBool (r.mode == .manual) ++ BitVec.ofBool r.hold ++ BitVec.ofBool r.startDemand
      ++ BitVec.ofBool r.openDemand,
    BitVec.ofBool r.parallelTimeout ++ claimBits r.claim ++ BitVec.ofBool (r.claimTarget == .two)
      ++ BitVec.ofFin (w := 2) r.claimRank ++ 0#2,
    transferBits r.transfer ++ 0#4 ]

/-- Bytes 6 to 29 of a record. -/
def encodeMeasured (r : BayRecord) : List Byte :=
  wordBytes r.iaRe ++ wordBytes r.iaIm ++ wordBytes r.ibRe ++ wordBytes r.ibIm ++ wordBytes r.icRe ++ wordBytes r.icIm
    ++ wordBytes r.busVoltage ++ wordBytes r.busFrequency ++ wordBytes r.lineVoltage ++ wordBytes r.lineFrequency
    ++ wordBytes r.p ++ wordBytes r.q

/-- Bytes 0 to 35. -/
def encodeBody (r : BayRecord) : List Byte := encodeHead r ++ encodeMeasured r ++ encodePart r.part

/-- The 38 bytes of a record, the CRC of bytes 0 to 35 last, high byte first (R43, R196). -/
def encodeRecord (r : BayRecord) : List Byte := encodeBody r ++ wordBytes (crc16 (encodeBody r))

/-! ### Reading a frame (R196) -/

/-- Byte i of the bytes. -/
def byteAt (bs : List Byte) (i : Nat) : Byte := bs.getD i 0

/-- The word at bytes i and i + 1, high byte first. -/
def wordAt (bs : List Byte) (i : Nat) : Word := byteAt bs i ++ byteAt bs (i + 1)

/-- The CRC of bytes 0 to 35 stands in bytes 36 and 37 of 38 bytes (R33). -/
def crcGood (bs : List Byte) : Bool := bs.length == 38 && crc16 (bs.take 36) == wordAt bs 36

/-- The role part of bytes 30 to 35; `none` for a code outside its range, a nonzero unused byte or a feeder
priority of 0; numbers of other fields are read as they stand (R196, log 10). -/
def decodePart (role : BitVec 2) (bs : List Byte) : Option RolePart :=
  if role = 0 then
    if (byteAt bs 30).toNat ≤ 1 ∧ byteAt bs 31 = 0 ∧ byteAt bs 35 = 0 then
      some (.incomer (byteAt bs 30 == 1) (wordAt bs 32) (byteAt bs 34))
    else none
  else if role = 1 then
    if (bs.drop 31).take 5 = [0, 0, 0, 0, 0] ∧ (byteAt bs 30).extractLsb' 2 6 = 0#6 then
      (secOf ((byteAt bs 30).extractLsb' 0 2)).map RolePart.tie
    else none
  else if role = 2 then
    match unitTable[(byteAt bs 34).toNat]?, biasTable[(byteAt bs 35).toNat]? with
    | some u, some b =>
      some (.generator (wordAt bs 30) (wordAt bs 32) u b)
    | _, _ => none
  else
    match shedTable[(byteAt bs 33).toNat]? with
    | some s =>
      if byteAt bs 32 ≠ 0 ∧ byteAt bs 34 = 0 ∧ byteAt bs 35 = 0 then
        some (.feeder (wordAt bs 30) (byteAt bs 32) s)
      else none
    | none => none

/-- The record 38 bytes carry; `none` for a code the tables do not define or a nonzero bit where they give 0. -/
def decodeRecord (bs : List Byte) : Option BayRecord :=
  let b0 := byteAt bs 0
  let b2 := byteAt bs 2
  let b3 := byteAt bs 3
  let b4 := byteAt bs 4
  let b5 := byteAt bs 5
  if b4.extractLsb' 0 2 = 0#2 ∧ b5.extractLsb' 0 4 = 0#4 then
    match secOf (b0.extractLsb' 0 2), alignOf (b2.extractLsb' 6 2), measOf (b2.extractLsb' 4 2),
      summaryOf (b2.extractLsb' 1 3), claimOf (b4.extractLsb' 5 2), transferTable[(b5.extractLsb' 4 4).toNat]?,
      decodePart (b0.extractLsb' 2 2) bs with
    | some sec, some al, some me, some su, some cl, some tr, some pa =>
      some
        { station := (b0.extractLsb' 4 4).toFin, sect := sec, cycle := byteAt bs 1, alignment := al, meas := me,
          summary := su, lockout := b2.getLsbD 0, tripActive := b3.getLsbD 7, bfNotice := b3.getLsbD 6,
          faultGroup := b3.getLsbD 5, sourceGroup := b3.getLsbD 4,
          mode := if b3.getLsbD 3 then .manual else .auto, hold := b3.getLsbD 2, startDemand := b3.getLsbD 1,
          openDemand := b3.getLsbD 0, parallelTimeout := b4.getLsbD 7, claim := cl,
          claimTarget := if b4.getLsbD 4 then .two else .one, claimRank := (b4.extractLsb' 2 2).toFin, transfer := tr,
          iaRe := wordAt bs 6, iaIm := wordAt bs 8, ibRe := wordAt bs 10, ibIm := wordAt bs 12, icRe := wordAt bs 14,
          icIm := wordAt bs 16, busVoltage := wordAt bs 18, busFrequency := wordAt bs 20, lineVoltage := wordAt bs 22,
          lineFrequency := wordAt bs 24, p := wordAt bs 26, q := wordAt bs 28, part := pa }
    | _, _, _, _, _, _, _ => none
  else none

/-- What check 1 lets through: the record of 38 bytes whose CRC is good and whose every code is defined (R33, R196). -/
def receivedRecord (bs : List Byte) : Option BayRecord := if crcGood bs then decodeRecord bs else none

/-- A role part that check 1 lets through: a feeder's priority is not 0 (R196). -/
def RolePart.inRange : RolePart → Bool
  | .feeder _ p _ => p != 0
  | _ => true

end Sys2Proof.Machine
end

