-- ==== Sys2Proof/Machine/Image.lean ====
section
/-! DEFINITION. The Peer Image (R47 to R54) and what TOP forms from it (R55 to R60). Age and status are worked out
when they are read. Every function here reads the image as it stands, with the count and number of the cycle in
progress, which at a cycle close is the cycle that is closing (R26, R52). -/

namespace Sys2Proof.Machine

/-- The status of an entry (R51). -/
inductive Status | absent | fresh | stale | lost
deriving DecidableEq, Repr

/-- The entry of a station. -/
def State.entry (s : State) (k : Station) : Entry := s.pim.get k

/-- The age of an entry (R50): unsigned 32-bit, saturated at 255; 255 with no record. -/
def Entry.age (e : Entry) (count : Count) : Nat :=
  if e.record.isSome then min 255 (count - e.accepted).toNat else 255

/-- The status of an entry (R51). -/
def Entry.status (e : Entry) (count : Count) (number : BitVec 8) : Status :=
  match e.record with
  | none => .absent
  | some r =>
    if e.age count = 0 then (if r.cycle = number then .fresh else .stale)
    else if e.age count ≤ 7 then .stale
    else .lost

/-- The status of a station's entry now. -/
def State.status (s : State) (k : Station) : Status := (s.entry k).status s.lkc.count s.lkc.number

/-- The record of an entry at any status that holds one (R55). -/
def State.heldRec (s : State) (k : Station) : Option BayRecord := (s.entry k).record

/-- The usable record of a station: its entry is FRESH or STALE (R53). -/
def State.usableRec (s : State) (k : Station) : Option BayRecord :=
  match s.status k with
  | .fresh => s.heldRec k
  | .stale => s.heldRec k
  | _ => none

/-- The record of a FRESH entry (R53). -/
def State.freshRec (s : State) (k : Station) : Option BayRecord :=
  match s.status k with
  | .fresh => s.heldRec k
  | _ => none

/-- A station's usable record meets a condition. -/
def State.usable (s : State) (k : Station) (p : BayRecord → Bool) : Bool := (s.usableRec k).any p

/-- Some usable record meets a condition. -/
def State.anyUsable (s : State) (p : BayRecord → Bool) : Bool := allStations.any fun k => s.usable k p

/-- A record shows a tie candidate: role TIE, or section 0 (R55). -/
def BayRecord.tieCandidate (r : BayRecord) : Bool := r.role == .tie || r.sect == none

/-- A record's station belongs to section x; a tie candidate belongs to both (R55). -/
def BayRecord.belongs (r : BayRecord) (x : Sec) : Bool := r.tieCandidate || r.sect == some x

/-- The closed group of summaries: CLOSED, OPENING or FAULTY (R57, R58). -/
def closedGroup : Summary → Bool
  | .closed => true
  | .opening => true
  | .faulty => true
  | _ => false

/-! ### TOP (R55 to R60) -/

/-- Any expected entry is ABSENT (R56). -/
def State.expectedAbsent (s : State) : Bool :=
  allStations.any fun k => (s.entry k).expected && (s.heldRec k).isNone

/-- The tie candidates of the image (R55). -/
def State.tieCandidates (s : State) : List Station :=
  allStations.filter fun k => (s.heldRec k).any BayRecord.tieCandidate

/-- The tie identity (R55). -/
def State.tieIdentity (s : State) : TieId :=
  match s.tieCandidates with
  | [] => .none
  | [k] => .station k
  | _ => .conflict

/-- A set of stations from a test. -/
def stationsWith (p : Station → Bool) : StationSet :=
  allStations.foldl (fun m k => if p k then StationSet.insert m k else m) 0

/-- The expected set of section x, `none` for UNKNOWN (R56). -/
def State.expectedSet (s : State) (x : Sec) : Option StationSet :=
  if s.expectedAbsent || s.tieIdentity == .conflict then none
  else some (stationsWith fun k =>
    ((s.entry k).expected && (s.heldRec k).any (fun r => r.sect == some x)) || s.tieIdentity == .station k)

/-- The island map (R57). -/
def State.islandMap (s : State) : IslandMap :=
  if s.expectedAbsent then .unknown
  else match s.tieIdentity with
    | .conflict => .unknown
    | .none => .apart
    | .station k =>
      match s.usableRec k with
      | some r => if closedGroup r.summary then .joined else .apart
      | none => .unknown

/-- Section y lies in the island of section x; in an UNKNOWN map the island of a section is that section alone (R147). -/
def inIsland (m : IslandMap) (x y : Sec) : Bool := x == y || m == .joined

/-- A record's section lies in the island of x. A record of role INCOMER or GENERATOR that shows section 0, a tie candidate by
R55, lies in no island: the model's choice (R58, log 48). -/
def BayRecord.inIsland (r : BayRecord) (m : IslandMap) (x : Sec) : Bool :=
  match r.sect with
  | some y => Machine.inIsland m x y
  | none => false

/-- A usable station of the role whose section lies in the island of x has a summary of the closed group (R58). -/
def State.islandClosed (s : State) (m : IslandMap) (x : Sec) (role : Role) : Bool :=
  s.anyUsable fun r => r.role == role && r.inIsland m x && closedGroup r.summary

/-- The state of the island that contains section x (R58). -/
def State.islandState (s : State) (m : IslandMap) (x : Sec) : IslandState :=
  if m = .unknown then .unknown
  else if s.islandClosed m x .incomer then .grid
  else if s.islandClosed m x .generator then .genset
  else .dead

/-- The tie's own island state from those of its two sections (R59). -/
def tieIsland (a b : IslandState) : IslandState :=
  if a = .unknown ∨ b = .unknown then .unknown
  else if a = .grid ∨ b = .grid then .grid
  else if a = .genset ∨ b = .genset then .genset
  else .dead

/-- The own island state (R59). -/
def ownIsland (c : Settings) (a b : IslandState) : IslandState :=
  if c.isRole .tie then tieIsland a b
  else match c.sec with
    | some .one => a
    | some .two => b
    | none => .unknown

/-- Section x is locked out in the view (R60), with the own flag as it stands after this cycle close's settings. -/
def State.lockedOut (s : State) (flag : Bool) (x : Sec) : Bool :=
  (flag && s.cfg.belongs x)
    || allStations.any fun k => k != s.cfg.own && s.usable k (fun r => r.lockout && r.belongs x)

/-- TOP's results of a cycle close (R61), with the own lockout flag as R60 takes it. -/
def State.formTopology (s : State) (flag : Bool) : Topology :=
  let m := s.islandMap
  let a := s.islandState m .one
  let b := s.islandState m .two
  { tie := s.tieIdentity, expected1 := s.expectedSet .one, expected2 := s.expectedSet .two, map := m, state1 := a,
    state2 := b, own := ownIsland s.cfg a b, locked1 := s.lockedOut flag .one, locked2 := s.lockedOut flag .two }

/-- The expected set of a section. -/
def Topology.expected (t : Topology) : Sec → Option StationSet
  | .one => t.expected1
  | .two => t.expected2

/-- The lockout view of a section. -/
def Topology.locked (t : Topology) : Sec → Bool
  | .one => t.locked1
  | .two => t.locked2

/-- The island state of a section. -/
def Topology.state (t : Topology) : Sec → IslandState
  | .one => t.state1
  | .two => t.state2

/-- The view shows the own section locked out; for the tie, either section (R106, R125, R137). -/
def Topology.ownLocked (t : Topology) (c : Settings) : Bool :=
  (c.belongs .one && t.locked1) || (c.belongs .two && t.locked2)

/-- Every member of an expected set has a FRESH entry; false for UNKNOWN (R56, R122). -/
def State.allFresh (s : State) (m : Option StationSet) : Bool :=
  match m with
  | none => false
  | some set => allStations.all fun k => !StationSet.has set k || s.status k == .fresh

/-! ### The words of a Peer Image block (R54, wire formats) -/

/-- Bytes as words, two per word, first byte high. -/
def pairWords : List Byte → List Word
  | a :: b :: rest => (a ++ b) :: pairWords rest
  | _ => []

/-- Status codes of the block. -/
def Status.code : Status → Byte
  | .absent => 0
  | .fresh => 1
  | .stale => 2
  | .lost => 3

/-- The 32 words of a station's block as they stand now. -/
def State.blockWords (s : State) (k : Station) : List Word :=
  let e := s.entry k
  let record := match e.record with
    | some r => pairWords (encodeRecord r)
    | none => List.replicate 19 0
  record ++ [e.accepted.extractLsb' 16 16, e.accepted.extractLsb' 0 16,
    (s.status k).code ++ BitVec.ofNat 8 (e.age s.lkc.count),
    (if e.expected then 1#8 else 0#8) ++ BitVec.ofNat 8 e.crcErrors] ++ List.replicate 9 0

end Sys2Proof.Machine
end

