-- ==== Sys2Proof/Machine/Measure.lean ====
section
/-! DEFINITION. The Converter Port and the Measurement Unit (R2 to R18): the judgement of a reply, the sample hold, the
measurement state, trim, windows, phasors, magnitudes, power, classification, crossings, frequency and ROCOF. -/

namespace Sys2Proof.Machine

/-! ### The reply and the sample hold (R2 to R5) -/

/-- The exclusive-or of the two bytes of a word. -/
def byteXor (w : Word) : Byte := w.extractLsb' 8 8 ^^^ w.extractLsb' 0 8

/-- The parity byte over seven samples (chapter 1, Sampling on the Converter Port). -/
def parity (x : Seven Word) : Byte :=
  byteXor x.va ^^^ byteXor x.vb ^^^ byteXor x.vc ^^^ byteXor x.vl ^^^ byteXor x.ia ^^^ byteXor x.ib ^^^ byteXor x.ic

/-- The samples of a good set; `none` for a missing or a bad one (R2). -/
def goodSet : Reply → Option (Seven Word)
  | .missing => none
  | .complete x status =>
    if status.extractLsb' 0 7 = 127#7 ∧ status.extractLsb' 8 8 = parity x then some x else none

/-- A good set is taken in (R3, R4). -/
def Cvp.takeGood (c : Cvp) (x : Seven Word) : Cvp :=
  let c := { c with lastGood := x, held := false, bad := 0 }
  if c.meas = .fail then
    if c.goodRun + 1 ≥ 32 then { c with goodRun := 32, meas := .warmup, warm := 0 }
    else { c with goodRun := c.goodRun + 1 }
  else c

/-- A missing or bad set is taken in (R3, R4). -/
def Cvp.takeBad (c : Cvp) : Cvp :=
  let c := { c with held := true, missing := satInc 255 c.missing, bad := satInc 2 c.bad, goodRun := 0 }
  if c.bad = 2 ∧ c.meas ≠ .fail then { c with meas := .fail } else c

/-- The set of a reply is taken in (R3, R4). -/
def Cvp.take (c : Cvp) (r : Reply) : Cvp :=
  match goodSet r with
  | some x => c.takeGood x
  | none => c.takeBad

/-- The warm-up test of a phasor instant (R5). -/
def Cvp.warmUp (c : Cvp) : Cvp :=
  if c.meas = .warmup then
    if c.warm < 4 then { c with warm := c.warm + 1 } else { c with meas := .valid }
  else c

/-! ### Trim and windows (R7, R8) -/

/-- A trimmed sample with its clamp mark (R7). -/
def trim (x g : Word) : Cell :=
  let raw := shiftRight (x.toInt * (g.toNat : Int) + 8192) 14
  { value := clampSample raw, clamped := decide (clampSample raw ≠ raw) }

/-- The seven trimmed samples of a set. -/
def trimSet (c : Settings) (x : Seven Word) : Seven Cell := Seven.ofFn fun ch => trim (x.get ch) (c.gain.get ch)

/-- The seven samples are written at the index, which advances (R8). -/
def Msu.write (m : Msu) (x : Seven Cell) : Msu :=
  { m with window := m.window.set m.index.val x m.index.isLt, index := m.index + 1 }

/-- The window of a channel, oldest first (R9). -/
def Msu.samples (m : Msu) (ch : Channel) : List Cell :=
  ((m.window.toList.drop m.index.val) ++ (m.window.toList.take m.index.val)).map fun x => x.get ch

/-! ### Phasors (R9, R10) -/

/-- C[0] to C[7], the first quarter of the table of R9. -/
def quarterC : List Int := [16384, 16069, 15137, 13623, 11585, 9102, 6270, 3196]

/-- S[0] to S[7], the first quarter of the table of R9. -/
def quarterS : List Int := [0, 3196, 6270, 9102, 11585, 13623, 15137, 16069]

/-- C[0] to C[31]: C[n+8] = −S[n], C[n+16] = −C[n] (R9). -/
def tableC : List Int := quarterC ++ quarterS.map (- ·) ++ quarterC.map (- ·) ++ quarterS

/-- S[0] to S[31]: S[n+8] = C[n], S[n+16] = −S[n] (R9). -/
def tableS : List Int := quarterS ++ quarterC ++ quarterS.map (- ·) ++ quarterC.map (- ·)

/-- A raw component from its exact sum (R9). -/
def rawComponent (sum : Int) : Int := clampSample (shiftRight (sum + 131072) 18)

/-- The raw phasor of a window, oldest sample first (R9). -/
def rawPhasor (w : List Int) : Phasor :=
  { re := rawComponent (sumInt (List.zipWith (· * ·) w tableC)),
    im := rawComponent (- sumInt (List.zipWith (· * ·) w tableS)) }

/-- Ratio matching of a component (R10). -/
def ratioMatch (r : Int) (c : Int) : Int := clampSample (shiftRight (c * r + 2048) 12)

/-- The ratio-matched phasor of a channel (R10). The store word of polarity −1 is read as two's complement, FFFF hex: the model's
choice, since no code is given (log 47). -/
def matchPhasor (c : Settings) (ch : Channel) (p : Phasor) : Phasor :=
  let scale (x : Int) : Int :=
    match ch with
    | .va => ratioMatch c.rVB.toNat x
    | .vb => ratioMatch c.rVB.toNat x
    | .vc => ratioMatch c.rVB.toNat x
    | .vl => ratioMatch c.rVL.toNat x
    | .ia => ratioMatch c.rI.toNat (if c.polarity.toInt = -1 then -x else x)
    | .ib => ratioMatch c.rI.toNat (if c.polarity.toInt = -1 then -x else x)
    | .ic => ratioMatch c.rI.toNat (if c.polarity.toInt = -1 then -x else x)
  { re := scale p.re, im := scale p.im }

/-- The smallest of three. -/
def min3 (a b c : Nat) : Nat := min a (min b c)

/-- The largest of three. -/
def max3 (a b c : Nat) : Nat := max a (max b c)

/-! ### Power and classification (R12, R13) -/

/-- Active power of the three phase pairs (R12). -/
def activePower (x : Seven Phasor) : Int :=
  clampSample (shiftRight
    ((x.va.re * x.ia.re + x.va.im * x.ia.im) + (x.vb.re * x.ib.re + x.vb.im * x.ib.im)
      + (x.vc.re * x.ic.re + x.vc.im * x.ic.im)) 17)

/-- Reactive power of the three phase pairs (R12). -/
def reactivePower (x : Seven Phasor) : Int :=
  clampSample (shiftRight
    ((x.va.im * x.ia.re - x.va.re * x.ia.im) + (x.vb.im * x.ib.re - x.vb.re * x.ib.im)
      + (x.vc.im * x.ic.re - x.vc.re * x.ic.im)) 17)

/-- The classification of a magnitude (R13). -/
def classify (c : Settings) (m : Nat) : VClass :=
  if c.vLive.toNat ≤ m then .live else if m ≤ c.vDead.toNat then .dead else .indeterminate

/-- The bus classification of the three phases (R13). -/
def busClassOf (a b c : VClass) : VClass :=
  if a = .dead ∧ b = .dead ∧ c = .dead then .dead
  else if a = .live ∧ b = .live ∧ c = .live then .live
  else .indeterminate

/-! ### Crossings and frequency (R14 to R16) -/

/-- The time of a positive-going crossing, with N the running strobe count after this set (R14). -/
def crossingTime (n : Count) (prev new : Int) : Count :=
  n * 256 - BitVec.ofInt 32 (256 * new / (new - prev))

/-- The crossing of a channel at a strobe, if there is one (R14). -/
def crossing (cls : VClass) (n : Count) (prev : Option Int) (new : Int) : Option Count :=
  match prev with
  | some p => if p < 0 ∧ 0 ≤ new ∧ cls = .live then some (crossingTime n p new) else none
  | none => none

/-- A new crossing is handled in the three steps of R15; the count restarts. -/
def Crossings.add (x : Crossings) (t : Count) : Crossings :=
  let times :=
    match x.times.getLast? with
    | none => [t]
    | some last =>
      if 5120 ≤ (t - last).toNat ∧ (t - last).toNat ≤ 12288 then
        let ts := x.times ++ [t]
        if ts.length > 5 then ts.drop 1 else ts
      else [t]
  { times := times, since := 0 }

/-- A strobe without a crossing: at the 64th the list is emptied (R15). -/
def Crossings.tick (x : Crossings) : Crossings :=
  if x.since + 1 ≥ 64 then { times := [], since := 0 } else { x with since := x.since + 1 }

/-- A crossing list at a strobe (R15). -/
def Crossings.strobe (x : Crossings) (c : Option Count) : Crossings :=
  match c with
  | some t => x.add t
  | none => x.tick

/-- The period estimate P256, 0 when the frequency is invalid (R16). -/
def period (x : Crossings) (cls : VClass) : Nat :=
  match x.times with
  | [t0, _, _, _, t4] => if cls = .live then (t4 - t0).toNat / 4 else 0
  | _ => 0

/-- The frequency of a period estimate (R16). -/
def frequency (c : Settings) (p : Nat) : Nat := if p = 0 then 0 else min 65535 (c.nominal * 819200 / p)

/-! ### The result set (R18) -/

/-- The result set of a phasor instant, from the windows and lists after that strobe's set (R9 to R16, R18). -/
def formSet (c : Settings) (m : Msu) (meas : MeasState) (label : Count) : ResultSet :=
  let x := Seven.ofFn fun ch => matchPhasor c ch (rawPhasor ((m.samples ch).map Cell.value))
  let mag := Seven.ofFn fun ch => magnitude (x.get ch).re (x.get ch).im
  let clsA := classify c mag.va
  let clsB := classify c mag.vb
  let clsC := classify c mag.vc
  let clsL := classify c mag.vl
  { label := some label, phasor := x, mag := mag, vMin := min3 mag.va mag.vb mag.vc, vMax := max3 mag.va mag.vb mag.vc,
    clipped := Seven.ofFn fun ch => (m.samples ch).any Cell.clamped,
    p := activePower x, q := reactivePower x, clsA := clsA, clsB := clsB, clsC := clsC, clsL := clsL,
    busClass := busClassOf clsA clsB clsC,
    fBus := frequency c (period m.bus clsA), fLine := frequency c (period m.line clsL),
    periodBus := period m.bus clsA, periodLine := period m.line clsL,
    tBus := m.bus.times.getLast?, tLine := m.line.times.getLast?, meas := meas }

/-- A set of trimmed samples is taken in by MSU: crossings, then the window, then the previous samples (R8, R14, R15). -/
def Msu.takeSet (m : Msu) (n : Count) (x : Seven Cell) : Msu :=
  let m := { m with
    bus := m.bus.strobe (crossing m.newest.clsA n (m.previous.map Prod.fst) x.va.value),
    line := m.line.strobe (crossing m.newest.clsL n (m.previous.map Prod.snd) x.vl.value),
    previous := some (x.va.value, x.vl.value) }
  m.write x

/-- The result set of the link cycle in progress, which at a cycle close is the one that is closing (R18). -/
def State.currentSet (s : State) : ResultSet :=
  if s.msu.newest.label = some s.lkc.count then s.msu.newest else s.msu.older

/-- ROCOF of a history (R17). -/
def rocofOf (c : Settings) (h : List Nat) : Option Int :=
  match h.head?, h.getLast? with
  | some oldest, some newest =>
    if h.length = 9 ∧ h.all (· ≠ 0) then some (divide (((newest : Int) - (oldest : Int)) * (c.nominal : Int)) 2) else none
  | _, _ => none

/-- The frequency history with the bus frequency of the closing cycle (R17). -/
def appendHistory (h : List Nat) (f : Nat) : List Nat :=
  let t := h ++ [f]
  if t.length > 9 then t.drop 1 else t

/-- MSU at a cycle close: history and ROCOF (R17). -/
def State.msuClose (s : State) : State :=
  let h := appendHistory s.msu.history s.currentSet.fBus
  s.withMsu fun m => { m with history := h, rocof := rocofOf s.cfg h }

end Sys2Proof.Machine
end

