-- ==== Sys2Proof/Machine/Capture.lean ====
section
/-! DEFINITION. The Capture Memory (R19 to R25): its sample memory in one canonical form, the writing of a set, and the
taking of a trigger. -/

namespace Sys2Proof.Machine

/-! ### The sample memory -/

/-- The sample at a position: an unlisted position reads 0, the contents reset gives (R25). -/
def readSample : SampleMem → Nat → Word
  | [], _ => 0
  | (k, v) :: rest, a => if k = a then v else readSample rest a

/-- A sample written at a position; writing 0 removes the entry, and the addresses stay strictly rising. -/
def writeSample : SampleMem → Nat → Word → SampleMem
  | [], a, v => if v = 0 then [] else [(a, v)]
  | (k, x) :: rest, a, v =>
    if a < k then (if v = 0 then (k, x) :: rest else (a, v) :: (k, x) :: rest)
    else if a = k then (if v = 0 then rest else (a, v) :: rest)
    else (k, x) :: writeSample rest a v

/-- Every address of the memory is above a bound. -/
def risesAbove : Option Nat → SampleMem → Bool
  | _, [] => true
  | lo, (k, v) :: rest => (match lo with | none => true | some b => decide (b < k)) && v != 0 && risesAbove (some k) rest

/-- The canonical form: addresses strictly rising, and no entry equal to what an unlisted position reads as. -/
def Memory.wf (m : SampleMem) : Bool := risesAbove none m

/-- The number of a channel in channel order. -/
def channelNumber : Channel → Nat
  | .va => 0
  | .vb => 1
  | .vc => 2
  | .vl => 3
  | .ia => 4
  | .ib => 5
  | .ic => 6

/-- The seven channels in order. -/
def allChannels : List Channel := [.va, .vb, .vc, .vl, .ia, .ib, .ic]

/-- The place of a bank position of a channel in the sample memory. -/
def samplePlace (ch : Channel) (position : Nat) : Nat := 1024 * channelNumber ch + position

/-- The seven samples of a set written at a bank position. -/
def writeSet (m : SampleMem) (position : Nat) (x : Seven Cell) : SampleMem :=
  allChannels.foldl (fun acc ch => writeSample acc (samplePlace ch position) (toWord (x.get ch).value)) m

/-! ### Banks (R19, R21, R22) -/

/-- The capture length L. -/
def Settings.length (c : Settings) : Nat := c.capLen.toNat

/-- POST = L − PRE. -/
def Settings.post (c : Settings) : Nat := c.capLen.toNat - c.pre.toNat

/-- A bank becomes ACTIVE with its write index at 0; its contents are not cleared (R19). -/
def Bank.activate (b : Bank) : Bank := { b with state := .active, index := 0, written := 0, post := 0 }

/-- A set is written into a bank that is ACTIVE or in POST (R19, R22). -/
def Bank.write (b : Bank) (c : Settings) (x : Seven Cell) : Bank :=
  let b := { b with samples := writeSet b.samples b.index x, index := (b.index + 1) % c.length }
  match b.state with
  | .active => { b with written := min c.pre.toNat (b.written + 1) }
  | .post => { b with post := b.post + 1 }
  | _ => b

/-- A bank in POST is completed and HELD (R22). -/
def Bank.complete (b : Bank) (c : Settings) : Bank :=
  { b with state := .held,
           record := { b.record with start := (b.record.trigger + (c.length - c.pre.toNat)) % c.length } }

/-- A bank is written at strobes: it is ACTIVE or in POST (R19). -/
def Bank.recording (b : Bank) : Bool := b.state == .active || b.state == .post

/-- A bank, B for true. -/
def Cap.bank (c : Cap) (b : Bool) : Bank := if b then c.b else c.a

/-- A bank replaced. -/
def Cap.setBank (c : Cap) (b : Bool) (x : Bank) : Cap := if b then { c with b := x } else { c with a := x }

/-- The bank that is ACTIVE or in POST. -/
def Cap.current (c : Cap) : Option Bool :=
  if c.a.recording then some false else if c.b.recording then some true else none

/-- A FREE bank becomes ACTIVE (R22). -/
def Bank.follow (b : Bank) : Bank := if b.state = .free then b.activate else b

/-- A bank in POST becomes HELD, and the other bank ACTIVE (R22). -/
def Cap.hold (c : Cap) (g : Settings) (b : Bool) : Cap :=
  (c.setBank b ((c.bank b).complete g)).setBank (!b) (c.bank (!b)).follow

/-- The post count of a bank in POST has reached POST (R22). -/
def Bank.full (b : Bank) (c : Settings) : Bool := b.state == .post && decide (c.post ≤ b.post)

/-- CAP at a strobe that takes in a set (R19, R22). -/
def State.capWrite (s : State) (x : Seven Cell) : State :=
  match s.cap.current with
  | none => s
  | some b =>
    let bank := (s.cap.bank b).write s.cfg x
    let t := s.withCap fun c => c.setBank b bank
    if bank.full s.cfg then (t.withCap fun c => c.hold s.cfg b).raise .captureHeld else t

/-- The record begun by a trigger on an ACTIVE bank (R21). -/
def Bank.capture (b : Bank) (src : Trigger) (count : Count) : Bank :=
  { b with state := .post, post := 0,
           record := { sources := Sources.empty.insert src, cycle := count, trigger := b.index, start := 0,
                       pre := b.written, retriggered := false } }

/-- A further trigger on a bank in POST (R21). -/
def Bank.retrigger (b : Bank) (src : Trigger) : Bank :=
  { b with record := { b.record with sources := b.record.sources.insert src, retriggered := true } }

/-- A trigger that CAP takes (R21). -/
def State.takeTrigger (s : State) (src : Trigger) : State :=
  match s.cap.current with
  | none => s
  | some b =>
    if (s.cap.bank b).state = .post then s.withCap fun c => c.setBank b ((c.bank b).retrigger src)
    else if (s.cap.bank (!b)).state = .held then
      (s.withCap fun c => { c with lost := satInc 255 c.lost }).raise .captureLost
    else s.withCap fun c => c.setBank b ((c.bank b).capture src s.lkc.count)

/-- A trigger reaches CAP; a source outside the configured mask is not taken (R20). -/
def State.trigger (s : State) (src : Trigger) : State :=
  if s.cfg.triggers.has src then s.takeTrigger src else s

/-- The HELD bank, if there is one. -/
def Cap.heldBank (c : Cap) : Option Bool :=
  if c.a.state = .held then some false else if c.b.state = .held then some true else none

/-- A bank released (R23). -/
def Bank.release (b : Bank) : Bank := { b with state := .free, record := .empty }

/-- CAP at START (R25). -/
def Cap.start (c : Cap) : Cap :=
  let c := { c with lost := 0 }
  if c.a.state = .free then { c with a := c.a.activate } else { c with b := c.b.activate }

/-- A bank at STOP (R25). -/
def Bank.stop (b : Bank) : Bank :=
  match b.state with
  | .active => { b with state := .free }
  | .post => { b with state := .free, record := .empty }
  | _ => b

/-- CAP at STOP (R25). -/
def Cap.stop (c : Cap) : Cap := { c with a := c.a.stop, b := c.b.stop }

end Sys2Proof.Machine
end

