-- ==== Sys2Proof/Machine/Operands.lean ====
section
/-! DEFINITION. What the commands' operands and the bay's lines say: the order an operand gives to what the manual
leaves unordered (logs 2 and 3), the read level of a line, the level of an input function (R102) and the breaker
contact pair (R103). -/

namespace Sys2Proof.Machine

/-! ### Orders given by an operand -/

/-- The first occurrences of a list. -/
def firstOf {α : Type} [DecidableEq α] : List α → List α
  | [] => []
  | x :: xs => x :: (firstOf xs).filter (· ≠ x)

/-- An order over `all`: what the operand lists, each once, then the rest in the order of `all`. -/
def orderOver {α : Type} [DecidableEq α] (all order : List α) : List α :=
  let o := firstOf (order.filter fun x => decide (x ∈ all))
  o ++ all.filter fun x => decide (x ∉ o)

/-- The tasks of a strobe (log 3). -/
def allTasks : List StrobeTask := [.measure, .pair, .extTrip, .extBlock, .extLockout]

/-- The blocks of a cycle close (log 2). -/
def allBlocks : List CloseBlock := [.pru, .dbu, .bcuCounts, .bcuDrop, .bcuTrip, .clu, .syu, .gcu, .fcu, .tru]

/-! ### Input lines (R101, R102) -/

/-- The eight lines. -/
def allLines : List (Fin 8) := [0, 1, 2, 3, 4, 5, 6, 7]

/-- The read level of a line: active when high, or when low with the active-low flag set (R102). -/
def readLevel (c : Settings) (i : Fin 8) (high : Bool) : Bool := high != (c.inputs.get i).low

/-- The level of an input function (R102). -/
inductive FnLevel | inactive | active | unsettled
deriving DecidableEq, Repr

/-- The lines of a function. -/
def linesOf (c : Settings) (f : InFn) : List (Fin 8) := allLines.filter fun i => (c.inputs.get i).fn == some f

/-- The level of a function over the lines' debounced levels (R102). -/
def functionLevel (c : Settings) (ls : Vector LineState 8) (f : InFn) : FnLevel :=
  let levels := (linesOf c f).map fun i => (ls.get i).level
  if levels.isEmpty then .inactive
  else if levels.any (· == some true) then .active
  else if levels.any (· == some false) then .inactive
  else .unsettled

/-- The level of a function now. -/
def State.fnLevel (s : State) (f : InFn) : FnLevel := functionLevel s.cfg s.bcu.lines f

/-- A function is active; an unsettled one counts as inactive (R102). -/
def State.fnActive (s : State) (f : InFn) : Bool := s.fnLevel f == .active

/-! ### The breaker contact pair (R103) -/

/-- What the pair of (BRK_CLOSED, BRK_OPEN) shows. -/
inductive Pair | unjudged | opened | closed | undecided
deriving DecidableEq, Repr

/-- The pair of two function levels (R103). -/
def pairOf : FnLevel → FnLevel → Pair
  | .unsettled, _ => .unjudged
  | _, .unsettled => .unjudged
  | .active, .inactive => .closed
  | .inactive, .active => .opened
  | .active, .active => .undecided
  | .inactive, .inactive => .undecided

/-- The pair as it stands (R103). -/
def State.pair (s : State) : Pair := pairOf (s.fnLevel .brkClosed) (s.fnLevel .brkOpen)

/-- A line is one of the two breaker contacts (R103). -/
def isContactLine (c : Settings) (i : Fin 8) : Bool :=
  (c.inputs.get i).fn == some .brkClosed || (c.inputs.get i).fn == some .brkOpen

end Sys2Proof.Machine
end

