-- ==== Sys2Proof/Machine/Ops.lean ====
section
/-! DEFINITION. The operations the blocks share: entering a unit or transfer state, telling a requester its answer,
ending an attempt or a close, the lockout flag (R97), a trip request (R109), a pair event (R103), a close drop (R108), a
close request (R106), a claim raise (R119) and a sync start (R137). Each calls only those before it, so an event's
consequences in the other blocks are written once. -/

namespace Sys2Proof.Machine

/-! ### Entering a unit state (R148, R162) -/

/-- GCU enters a unit state: its count starts at 0, and a change sets TRANSFER_CHANGE (R150 to R155, R162). That the
cool count starts at 0 is read from R155's measured run (log 20). The count of a state that is left, and T once UNLOAD is left,
keep their last values until the next entry: the model's choice (R154, log 63). -/
def State.gcuSet (s : State) (u : UnitState) : State :=
  if s.gcu.unit = u then s
  else
    (s.withGcu fun g =>
      { g with unit := u, enteredNow := true,
               startCount := if u = .starting then 0 else g.startCount,
               retryCount := if u = .syncWait then 0 else g.retryCount,
               unloadCount := if u = .unload then 0 else g.unloadCount,
               coolCount := if u = .cooldown then 0 else g.coolCount }).raise .transferChange

/-! ### Cancels (R119, R141) -/

/-- A requesting unit cancels its claim (R119). -/
def State.cancelClaim (s : State) (o : Origin) : State :=
  if s.clu.claim.any (fun c => c.origin == o) then s.withClu fun c => { c with claim := none } else s

/-- An attempt ends: IDLE, no owner, SYNC_PERMIT inactive, the reason recorded (R139, R141, R142). -/
def State.endAttempt (s : State) (a : Answer) : State :=
  s.withSyu fun y =>
    { y with state := .idle, owner := none, permit := false, lastEnding := some (a, y.owner, s.lkc.count) }

/-- The last outcome or answer TRU received (R189). -/
def State.truNote (s : State) (a : Answer) : State :=
  s.withTru fun t => { t with lastAnswer := some (a, s.lkc.count) }

/-- An owner cancels its attempt; a cancel in CLOSING is not taken (R141). -/
def State.cancelAttempt (s : State) (o : SyncOwner) : State :=
  if s.syu.state = .checking ∧ s.syu.owner = some o then
    let t := s.endAttempt .cancelled
    if o = .tru then t.truNote .cancelled else t
  else s

/-! ### Entering a transfer state (R175, R176, R189) -/

/-- Start demand stands in a state (R175). -/
def demandStands (x : TransferState) (own : IslandState) : Bool :=
  match x with
  | .deadWait => true
  | .onAlternate => own == .genset
  | .returnWait => own == .genset
  | .resync => own == .genset
  | _ => false

/-- The resync fields stand in a state (R175). -/
def resyncStands (x : TransferState) : Bool := x == .resync || x == .parallel

/-- The three flags and the resync reference are re-formed from state and island (R175). -/
def State.truReflag (s : State) : State :=
  s.withTru fun t =>
    { t with startDemand := demandStands t.state s.top.own, openDemand := t.state == .openReturn,
             parallelTimeout := t.parallelTimeout && t.state == .parallel,
             reference := if resyncStands t.state then t.reference else 0 }

/-- The transfer direction of a state (R187, R188). -/
def directionOf : TransferState → Option Sec
  | .tieFeeding x => some x
  | _ => none

/-- TRU enters a transfer state: its count starts at 0, RESYNC takes the health's frequency as reference, the flags are
re-formed, and a change sets TRANSFER_CHANGE (R175, R177 to R182, R187, R189). RETRANSFER_NOW enters RESYNC by no health, and
after an unjudged cycle close it takes the f_line of that close's set, which may be 0: the model's choice (R186, log 43). The
count of a state that is left keeps its last value until the next entry: the model's choice (R173, log 63). -/
def State.truSet (s : State) (x : TransferState) : State :=
  if s.tru.state = x then s
  else
    ((s.withTru fun t =>
      { t with state := x, enteredNow := true,
               lossCount := if x = .lossConfirm then 0 else t.lossCount,
               returnCount := if x = .returnWait then 0 else t.returnCount,
               resyncCount := if x = .resync then 0 else t.resyncCount,
               parallelCount := if x = .parallel then 0 else t.parallelCount,
               reference := if x = .resync then t.healthLine else t.reference,
               direction := directionOf x }).truReflag).raise .transferChange

/-- TRU leaves its state for another: its claim or attempt is cancelled at the event of leaving (R176). -/
def State.truLeave (s : State) (x : TransferState) : State :=
  if s.tru.state = x then s else ((s.cancelClaim .tru).cancelAttempt .tru).truSet x

/-- The station's mode changes, which sets TRANSFER_CHANGE (R189). -/
def State.setMode (s : State) (m : Mode) : State :=
  if s.tru.mode = m then s else (s.withTru fun t => { t with mode := m }).raise .transferChange

/-! ### What a requester does with an answer (R151, R152, R171, R176, R187) -/

/-- GCU enters FAIL, its claim or attempt cancelled (R156). -/
def State.gcuFail (s : State) (r : FailReason) : State :=
  (((s.cancelClaim .gcu).cancelAttempt .gcu).gcuSet .fail).withGcu fun g => { g with failReason := r }

/-- GCU takes an answer to its claim or attempt. One that leaves it in DEADBUS or SYNC leaves the tests to the next cycle close
(R151, R152). In any other state an answer does nothing, also FAILED or DISCREPANT of a close whose unit SET_MANUAL has put in
COOLDOWN: the model's choice (log 61). -/
def State.gcuHear (s : State) (a : Answer) : State :=
  if s.gcu.unit = .deadbus ∨ s.gcu.unit = .sync then
    match a with
    | .outcome .completed => s.gcuSet .online
    | .outcome .failed => s.gcuFail .closeFail
    | .outcome .discrepant => s.gcuFail .closeFail
    | .expired => if s.gcu.unit = .sync then s.gcuSet .syncWait else s
    | _ => s.withGcu fun g => { g with heardNow := true }
  else s

/-- A claim or attempt of TRU ended badly: the hold, or for a tie in TIE_CLAIM the end of automatic transfer
(R176, R179, R181, R183, R187). A tie that has gone back to TIE_OPEN stays there: the model's choice (R187, log 68). -/
def State.truFailed (s : State) : State :=
  if s.cfg.isRole .tie then
    match s.tru.state with
    | .tieClaim _ => (s.setMode .manual).truLeave .manual
    | _ => s
  else
    let t := s.withTru fun t => { t with hold := true }
    match t.tru.state with
    | .resync => t.truLeave .onAlternate
    | .openReturn => t.truLeave .deadWait
    | _ => t

/-- A claim or attempt of TRU COMPLETED (R179, R181, R183, R187). A tie that has gone back to TIE_OPEN stays there: the model's
choice (R187, log 68). -/
def State.truCompleted (s : State) : State :=
  match s.tru.state with
  | .deadWait => s.truLeave .normal
  | .openReturn => s.truLeave .normal
  | .resync => s.truLeave .parallel
  | .tieClaim x => s.truLeave (.tieFeeding x)
  | _ => s

/-- TRU takes an answer to its claim or attempt (R176, R187, R189). -/
def State.truHear (s : State) (a : Answer) : State :=
  let t := s.truNote a
  match a with
  | .outcome .completed => t.truCompleted
  | .outcome .failed => t.truFailed
  | .outcome .discrepant => t.truFailed
  | .outcome .tripped => t.truFailed
  | _ => t

/-- TRU has heard the end of its attempt, or as a tie of its claim, at the cycle close in progress: the next one starts or
tests again (R181, R187). -/
def State.truHeard (s : State) : State := s.withTru fun t => { t with heardNow := true }

/-- FCU back in NORMAL with a guard of two cycle closes (R171, R172). -/
def Fcu.toNormal (f : Fcu) : Fcu := { f with state := .normal, reason := .none, held := 0, guard := 2 }

/-- FCU in MANUAL_OPEN (R171, R172). -/
def Fcu.toManual (f : Fcu) (c : ManualCause) : Fcu := { f with state := .manualOpen, cause := c, held := 0 }

/-- FCU back in SHED at an answer; the next cycle close tests the restore conditions again (R171). -/
def Fcu.toShed (f : Fcu) : Fcu := { f with state := .shed, heardNow := true }

/-- FCU takes the answer to its restore claim (R171); in MANUAL_OPEN it leaves the state as it is (R172). -/
def State.fcuHear (s : State) (a : Answer) : State :=
  if s.fcu.state = .manualOpen then s
  else
    match a with
    | .outcome .completed => (s.withFcu Fcu.toNormal).raise .restore
    | .outcome .failed => s.withFcu (Fcu.toManual · .closeFail)
    | .outcome .discrepant => s.withFcu (Fcu.toManual · .closeFail)
    | .outcome .tripped => s.withFcu (Fcu.toManual · .closeFail)
    | .refusal .liveLive => s.withFcu (Fcu.toManual · .feederLive)
    | .outcome .dropped => s.withFcu Fcu.toShed
    | .refusal _ => s.withFcu Fcu.toShed
    | .withdrawn .lockout => s.withFcu Fcu.toShed
    | _ => s

/-- The last operator close result takes a failed outcome or a refusal of R123 (R126, log 21). -/
def State.operatorHear (s : State) (a : Answer) : State :=
  let keep := s.withClu fun c => { c with operatorResult := some (.answer a, s.lkc.count) }
  match a with
  | .outcome .completed => s
  | .outcome _ => keep
  | .refusal _ => keep
  | _ => s

/-- CLU hands an answer to the origin of a claim (R119, R120, R123). -/
def State.tellClaimant (s : State) (o : Origin) (a : Answer) : State :=
  match o with
  | .tru => if s.cfg.isRole .tie then (s.truHear a).truHeard else s.truHear a
  | .gcu => s.gcuHear a
  | .fcu => s.fcuHear a
  | .operator => s.operatorHear a

/-- SYU hands an answer to the owner of an attempt (R137, R141, R142). -/
def State.tellOwner (s : State) (o : Option SyncOwner) (a : Answer) : State :=
  match o with
  | some .tru => (s.truHear a).truHeard
  | some .gcu => s.gcuHear a
  | some .operator => s
  | none => s

/-! ### Ending an attempt, a claim, a close (R114, R120, R123, R141, R142) -/

/-- An attempt ends and its owner is told (R140, R141, R142). -/
def State.syuEnd (s : State) (a : Answer) : State :=
  if s.syu.state = .idle then s else (s.endAttempt a).tellOwner s.syu.owner a

/-- An event that ends an attempt in CHECKING (R141). -/
def State.syuEndChecking (s : State) (a : Answer) : State :=
  if s.syu.state = .checking then s.syuEnd a else s

/-- The own claim is withdrawn: it is NONE, and what was published of it makes no further close request (R120, R123). -/
def Clu.dropClaim (u : Clu) : Clu := { u with claim := none, spent := true }

/-- CLU withdraws the own claim and hands the reason to its origin (R120). -/
def State.cluWithdraw (s : State) (w : WithdrawReason) : State :=
  match s.clu.claim with
  | none => s
  | some c => (s.withClu Clu.dropClaim).tellClaimant c.origin (.withdrawn w)

/-- The own claim is withdrawn with an answer as its reason; an origin that has heard the answer is not told twice
(R120, R123). -/
def State.cluDrop (s : State) (told : Origin) (a : Answer) : State :=
  match s.clu.claim with
  | none => s
  | some c =>
    let t := s.withClu Clu.dropClaim
    if c.origin = told then t else t.tellClaimant c.origin a

/-- An outcome other than COMPLETED or a refusal: it is recorded, and a new claim has to win twice afresh (R123). -/
def Clu.fail (u : Clu) (a : Answer) : Clu :=
  { u with lastOutcome := some a, won1 := false, won2 := false, spent := true, failed := true }

/-- CLU passes an outcome other than COMPLETED or a refusal to the origin and withdraws the claim (R120, R123). -/
def State.cluEnd (s : State) (o : Origin) (a : Answer) : State :=
  ((s.withClu (Clu.fail · a)).tellClaimant o a).cluDrop o a

/-- CLU takes the outcome of its close (R123). -/
def State.cluOutcome (s : State) (o : CloseOutcome) : State :=
  match s.clu.inFlight with
  | none => s
  | some f =>
    let t := s.withClu fun u => { u with inFlight := none }
    if o = .completed then
      (t.withClu fun u => { u with lastOutcome := some (.outcome .completed) }).tellClaimant f.origin (.outcome .completed)
    else t.cluEnd f.origin (.outcome o)

/-- BCU hands the close owner its one outcome, and the owner is cleared; after any outcome but COMPLETED the breaker closes
again only on a request of a later cycle close (R114). -/
def State.closeOutcome (s : State) (o : CloseOutcome) : State :=
  let t := s.withBcu fun b =>
    { b with owner := none, lastOutcome := some (o, s.lkc.count), endedNow := b.endedNow || o != .completed }
  match s.bcu.owner with
  | some .clu => t.cluOutcome o
  | some .syu => if s.syu.state = .closing then t.syuEnd (.outcome o) else t
  | none => t

/-! ### The breaker state (R105 to R113) -/

/-- BCU enters a state in which neither TRIP nor CLOSE is asserted. That the close supervision count reads 0 once CLOSING has been
left is the model's choice (R107, log 52). -/
def Bcu.rest (b : Bcu) (x : BreakerState) : Bcu :=
  { b with state := x, trip := false, close := false, supervision := 0, discrepancy := none }

/-- BCU becomes CLOSED; CLU withdraws the own claim for BREAKER_CLOSED after the outcome, if there is one
(R107, R120, R123). -/
def State.becomeClosed (s : State) (o : Option CloseOutcome) : State :=
  let t := s.withBcu fun b => b.rest .closed
  let u := match o with
    | some x => t.closeOutcome x
    | none => t
  u.cluWithdraw .breakerClosed

/-- BCU becomes OPEN at the end of a closing attempt (R107, R108). -/
def State.becomeOpen (s : State) (o : CloseOutcome) : State := (s.withBcu fun b => b.rest .opened).closeOutcome o

/-- A close drop (R108): CLOSE is released in CLOSING, and the state follows the contact pair. -/
def State.closeDrop (s : State) : State :=
  if s.bcu.state = .closing ∧ s.bcu.close = true then
    let t := s.withBcu fun b => { b with close := false }
    match s.pair with
    | .opened => t.becomeOpen .dropped
    | .closed => t.becomeClosed (some .dropped)
    | _ => t
  else s

/-! ### Lockout (R97) -/

/-- An event sets lockout: from clear, the LOCKOUT bit, the source, a close drop and the end of an attempt in CHECKING
(R97, R99, R108, R141). -/
def State.setLockout (s : State) (src : LockoutSource) : State :=
  if s.dbu.lockout then s
  else
    (((s.withDbu fun d => { d with lockout := true, lockoutSource := src }).raise .lockout).closeDrop).syuEndChecking
      .endLockout

/-! ### Trip requests (R93, R109) -/

/-- The BF timer takes a trip request (R93). -/
def State.bfRequest (s : State) : State :=
  if s.dbu.timer = .idle ∧ s.bcu.state ≠ .opened ∧ s.bcu.state ≠ .failedOpen then
    s.withDbu fun d => { d with timer := .running 0 }
  else s

/-- TRIP asserted, CLOSE released first: OPENING, hold count 0, a re-confirmation pending (R103, R109). That the close supervision
count reads 0 from then on is the model's choice (R107, log 52). -/
def Bcu.assertTrip (b : Bcu) : Bcu :=
  { b with state := .opening, close := false, trip := true, hold := 0, reconfirm := some 0, supervision := 0,
           discrepancy := none }

/-- BCU takes a trip request according to the state it finds (R109). -/
def State.bcuTrip (s : State) : State :=
  match s.bcu.state with
  | .opened => s
  | .opening => s
  | .failedOpen => s
  | .closing => (s.withBcu Bcu.assertTrip).closeOutcome .tripped
  | .unknown => s.withBcu Bcu.assertTrip
  | .closed => s.withBcu Bcu.assertTrip
  | .discrepant => s.withBcu Bcu.assertTrip

/-- The breaker state as it stands at the cycle close, before a request accepted at that same cycle close moves it
(R149, R176, log 15). -/
def State.breakerAtClose (s : State) : BreakerState :=
  if s.bcu.acceptedNow && s.bcu.state == .closing then .opened else s.bcu.state

/-- A trip request from any source: the BF timer takes it, BCU acts, and an attempt in CHECKING ends with TRIP
(R93, R109, R141). -/
def State.tripRequest (s : State) : State :=
  let t := s.withBcu fun b => { b with trippedNow := true }
  ((t.bfRequest).bcuTrip).syuEndChecking .endTrip

/-! ### Pair events (R95, R103, R105, R107, R108, R110 to R113) -/

/-- A breaker alarm is recorded with BREAKER_ALARM (R116). -/
def State.breakerAlarm (s : State) (f : BreakerAlarms → BreakerAlarms) : State :=
  (s.withBcu fun b => { b with alarms := f b.alarms }).raise .breakerAlarm

/-- Contacts showing open end the BF timer and the BF notice (R93, R95). -/
def State.bfClear (s : State) (p : Pair) : State :=
  if p = .opened then s.withDbu fun d => { d with timer := .idle, notice := false } else s

/-- The release test: in OPENING and FAILED_OPEN, the pair shows open and the trip hold count is 2 (R110). That the hold count reads
0 once TRIP has been released is the model's choice (log 52). -/
def State.releaseTest (s : State) : State :=
  if (s.bcu.state = .opening ∨ s.bcu.state = .failedOpen) ∧ s.pair = .opened ∧ 2 ≤ s.bcu.hold then
    s.withBcu fun b => { b.rest .opened with hold := 0 }
  else s

/-- The discrepancy count at a pair event: it starts when the pair becomes undecided and idles otherwise (R113). -/
def Bcu.discrepancyAt (b : Bcu) (p : Pair) : Bcu :=
  match p with
  | .undecided => { b with discrepancy := some (b.discrepancy.getD 0) }
  | .unjudged => b
  | _ => { b with discrepancy := none }

/-- The uncommanded open handed to TRU (R112, R177). -/
def State.uncommandedOpen (s : State) : State :=
  if s.cfg.isRole .incomer ∧ s.tru.state = .normal ∧ s.dbu.lockout = false then s.truLeave .deadWait else s

/-- A pair event of a judged pair, by the breaker state found (R105, R107, R108, R110, R112, R113). A breaker that a close drop
has left OPEN and that closes after all raises UNCOMMANDED_CLOSE by R112: the model's choice (R108, log 53). -/
def State.pairState (s : State) (p : Pair) : State :=
  match s.bcu.state, p with
  | .unknown, .closed => s.becomeClosed none
  | .unknown, .opened => s.withBcu fun b => b.rest .opened
  | .unknown, _ => s.withBcu fun b => b.discrepancyAt p
  | .opened, .closed =>
    ((s.breakerAlarm fun a => { a with uncommandedClose := some s.lkc.count }).becomeClosed none).syuEndChecking
      .breakerMoved
  | .opened, _ => s.withBcu fun b => b.discrepancyAt p
  | .closed, .opened =>
    ((s.withBcu fun b => b.rest .opened).breakerAlarm fun a => { a with uncommandedOpen := some s.lkc.count }).uncommandedOpen
  | .closed, _ => s.withBcu fun b => b.discrepancyAt p
  | .closing, .closed => s.becomeClosed (some (if s.bcu.close then .completed else .dropped))
  | .closing, .opened => if s.bcu.close then s else s.becomeOpen .dropped
  | .closing, _ => s
  | .opening, _ => s.releaseTest
  | .failedOpen, _ => s.releaseTest
  | .discrepant, .closed => s.becomeClosed none
  | .discrepant, .opened => s.withBcu fun b => b.rest .opened
  | .discrepant, _ => s

/-- A pair event: the contact pair as it stands is judged (R95, R103). -/
def State.pairEvent (s : State) : State :=
  match s.pair with
  | .unjudged => s
  | p => (s.bfClear p).pairState p

/-! ### Closing sides (R122) -/

/-- The side of the breaker that a close onto section x energises (R122). -/
def targetSide (c : Settings) (r : ResultSet) (x : Sec) : VClass :=
  if c.isRole .tie ∧ x = .two then r.clsL else r.busClass

/-- The classification of the other side (R122, R126). -/
def sourceSide (c : Settings) (r : ResultSet) (x : Sec) : VClass :=
  if c.isRole .tie ∧ x = .two then r.busClass else r.clsL

/-- The frequency of the other side. -/
def sourceFrequency (c : Settings) (r : ResultSet) (x : Sec) : Nat :=
  if c.isRole .tie ∧ x = .two then r.fBus else r.fLine

/-- The source side is LIVE with a valid frequency (R122). -/
def sourceLive (c : Settings) (r : ResultSet) (x : Sec) : Bool :=
  sourceSide c r x == .live && sourceFrequency c r x != 0

/-! ### Close requests (R106, R143) -/

/-- A TRIP-action element is in OPERATE: the PRU trip request stands (R68). -/
def elementAction (c : Settings) (p : Pru) (e : Element) : Option Action :=
  match e with
  | .overI => (c.fault p.faultGroup).overIAction
  | .highI => (c.fault p.faultGroup).highIAction
  | _ => ((c.source p.sourceGroup).words e).action

/-- The PRU trip request stands (R68). -/
def State.pruStands (s : State) : Bool :=
  allElements.any fun e => (s.pru.elements.get e).state == .operate && elementAction s.cfg s.pru e == some .trip

/-- BCU's conditions of a close request in their order; `none` accepts (R106). -/
def State.judgeClose (s : State) : Option CloseRefusal :=
  if s.bcu.state ≠ .opened then some .notOpen
  else if s.dbu.lockout || s.top.ownLocked s.cfg then some .lockout
  else if s.pruStands || s.fnActive .extTrip || s.bcu.trippedNow then some .tripStanding
  else if s.fnActive .extBlockClose then some .blocked
  else if s.cfg.isRole .incomer && !s.tru.healthy then some .unhealthy
  else none

/-- BCU accepts: CLOSE asserted, CLOSING, a re-confirmation pending (R103, R106). -/
def Bcu.accept (b : Bcu) (u : CloseUnit) : Bcu :=
  { b with state := .closing, close := true, owner := some u, supervision := 0, acceptedNow := true, reconfirm := some 0,
           discrepancy := none }

/-- A close request: SYU's live-live interlock first (R143), then BCU's judgement (R106). `none` is ACCEPTED. -/
def State.closeRequest (s : State) (u : CloseUnit) : State × Option CloseRefusal :=
  if u ≠ .syu ∧ s.currentSet.busClass = .live ∧ s.currentSet.clsL = .live then (s, some .liveLive)
  else
    match s.judgeClose with
    | none => (s.withBcu fun b => b.accept u, none)
    | some r => (s.withBcu fun b => { b with lastRefusal := some (r, u, s.lkc.count) }, some r)

/-! ### Raising a claim (R119) -/

/-- The rank of a claim: by role, 0 for a restore claim (R119, R126). -/
def claimRankOf (c : Settings) (restore : Bool) : Fin 4 :=
  if restore then 0
  else match c.role with
    | some .incomer => 0
    | some .tie => 1
    | some .generator => 2
    | _ => 3

/-- CLU's judgement of a raise (R119). -/
def State.judgeRaise (s : State) (o : Origin) (restore : Bool) (x : Sec) : Answer :=
  if s.top.locked x || s.dbu.lockout then .refusedLockout
  else if !restore && targetSide s.cfg s.currentSet x == .live then .refusedLive
  else match s.clu.claim with
    | none => .raised
    | some c => if c.origin = o then .raised else .taken

/-- A claim set by a raise that was RAISED (R119). -/
def Clu.setClaim (u : Clu) (n : Claim) : Clu :=
  match u.claim with
  | none => { u with claim := some n }
  | some c =>
    if c.restore = n.restore ∧ c.target = n.target then u
    else { u with claim := some n, won1 := false, won2 := false }

/-- A requesting unit raises a claim and hears the answer (R119). -/
def State.cluRaise (s : State) (o : Origin) (restore : Bool) (x : Sec) (deadDead : Bool := false) : State × Answer :=
  let a := s.judgeRaise o restore x
  let t :=
    if a = .raised then
      s.withClu fun u =>
        u.setClaim { restore := restore, target := x, rank := claimRankOf s.cfg restore, origin := o, deadDead := deadDead }
    else s
  (if o = .tru then t.truNote a else t, a)

/-! ### Starting an attempt (R137) -/

/-- SYU's judgement of a start (R137). -/
def State.judgeStart (s : State) (o : SyncOwner) : Answer :=
  if s.dbu.lockout || s.top.ownLocked s.cfg then .startLockout
  else if s.bcu.state ≠ .opened then .startNotOpen
  else if s.syu.state = .idle then .started
  else if s.syu.owner = some o then .standing
  else .busy

/-- A start handed to SYU, which tells its answer; a refused start is the last ending (R137). -/
def State.syuStart (s : State) (o : SyncOwner) : State :=
  let a := s.judgeStart o
  let t := match a with
    | .started =>
      s.withSyu fun y => { y with state := .checking, owner := some o, supervision := 0, startedNow := true }
    | .standing => s
    | _ => s.withSyu fun y => { y with lastEnding := some (a, some o, s.lkc.count) }
  if o = .tru then t.truNote a else t

end Sys2Proof.Machine
end

