-- ==== Sys2Proof/Machine/Link.lean ====
section
/-! DEFINITION. The Link Controller (R26 to R46): the moves of the cycle timer, the reception checks, reference, alignment
and relock, the own record, the read-back, and the commands of the link. -/

namespace Sys2Proof.Machine

/-! ### Moving the cycle timer (R27, R39, R40) -/

/-- A link cycle begins: what belongs to one cycle is cleared, and a phasor instant still owed is that of the cycle now in
progress, behind those still owed to the cycles before it (R26, R27). -/
def Lkc.begin (l : Lkc) : Lkc :=
  { l with timer := 0, preCycle := false, phasorMade := false, phasorOwed := false,
           phasorLate := l.phasorLate + (if l.phasorOwed then 1 else 0), sent := false, ownSkipped := false, ownHeard := false,
           slotsHeard := 0, sending := false }

/-- Where a frame that begins at the start of a slot plus 10 µs ends. -/
def frameEnd (c : Settings) (k : Station) : Nat := slotStart c k + frameLead + frameUnits

/-- The timer reaches the position of an event. Before cycle 0, a position behind the timer's says that cycle 0 has begun
(log 26); the own frame has been sent once its window is behind (R30, R32). -/
def Lkc.reach (l : Lkc) (c : Settings) (pos : Nat) : Lkc :=
  let l := if l.preCycle && decide (pos < l.timer) then l.begin else l
  { l with timer := pos, sending := l.sending && decide (slotStart c c.own ≤ pos ∧ pos < frameEnd c c.own) }

/-- Where a frame that starts at a position and is taken whole ends, on the timer of the cycle in which it ends (R37). -/
def frameArrival (c : Settings) (start : Nat) : Nat :=
  if cycleUnits c < start + frameUnits then start + frameUnits - cycleUnits c else start + frameUnits

/-- Where a frame of slot k ends: a frame not ended by the end of its slot is truncated there (R28). -/
def slotArrival (c : Settings) (k : Station) (f : Frame) : Nat :=
  if f.tail = 0x7E#8 ∧ f.start + frameUnits ≤ slotEnd c k then f.start + frameUnits else slotEnd c k

/-- The own slot and the grid point 0 that a move of the timer passes over (R27): a move forward past a point not yet
reached, or backward before a point already passed. A move back before an own slot that a move forward of the same cycle
has passed lets it come after all: the table does not join its two rows, and this is the model's choice (log 44). Before
cycle 0 a move leaves the timer before it, so the next end of slot 15 begins cycle 0: the model's choice (log 26). -/
def Lkc.move (l : Lkc) (c : Settings) (old new : Nat) : Lkc :=
  let own := slotStart c c.own
  let grid := gridPosition c 0
  if old < new then
    { l with timer := new,
             ownSkipped := l.ownSkipped || decide (old < own ∧ own ≤ new),
             phasorOwed := l.phasorOwed || (!l.phasorMade && decide (old < grid ∧ grid ≤ new)) }
  else
    { l with timer := new,
             ownSkipped := l.ownSkipped && !decide (new ≤ own),
             phasorOwed := l.phasorOwed && (l.preCycle || !decide (new ≤ grid ∧ l.phasorMade = false)) }

/-- A shift: the measured start lies at the expected start; ALIGNED, SELF_TIMED ends (R39). -/
def Lkc.shift (l : Lkc) (c : Settings) (k : Station) (start : Nat) : Lkc :=
  { l.move c (frameArrival c start) (frameEnd c k) with selfTimed := false }

/-- A relock: the timer is stepped so that the frame lies in slot k, its cycle number is adopted, and the marking begins;
the frame is that of slot k, beside what the slots of the cycle have yielded already (R28, R40, R48). -/
def Lkc.relock (l : Lkc) (c : Settings) (k : Station) (start : Nat) (number : BitVec 8) : Lkc :=
  { l.move c (frameArrival c start) (frameEnd c k) with
    number := number, relocks := satInc 255 l.relocks, relockCycle := some l.count, selfTimed := false,
    unlocked := false, slotsHeard := StationSet.insert l.slotsHeard k }

/-- The reference station: the lowest of both heard lists (R38). -/
def Lkc.reference (l : Lkc) : Option Station := StationSet.lowest (l.heardNow ||| l.heardBefore)

/-! ### The reception checks (R33 to R37) -/

/-- The end pattern (chapter 2, The line and the slots). -/
def endPattern : Byte := 0x7E#8

/-- The CRC error counter of an entry (R30, R33). -/
def State.countCrc (s : State) (k : Station) : State :=
  s.withEntry k fun e => { e with crcErrors := satInc 255 e.crcErrors }

/-- A failed check 1, counted against an entry where the slot names one (R33, R37). -/
def State.crcFailed (s : State) (k : Option Station) : State :=
  let t := s.linkAlarm fun l => { l with crcError := true }
  match k with
  | some k => t.countCrc k
  | none => t

/-- A failed check 2 (R34), and a read-back with another station field (R30). -/
def State.slotMismatched (s : State) : State :=
  s.linkAlarm fun l => { l with slotMismatch := true, mismatches := satInc 255 l.mismatches }

/-- A duplicate is seen: DUPLICATE, its flag, and the silent-slot count at 0 (R29, R30). -/
def State.duplicate (s : State) : State :=
  s.linkAlarm fun l => { l with link := .duplicate, duplicateSeen := true, silentCount := 0 }

/-- PIM stores an accepted record with the current cycle count (R48). -/
def State.accept (s : State) (k : Station) (r : BayRecord) : State :=
  s.withEntry k fun e => { e with record := some r, accepted := s.lkc.count }

/-- A frame that failed check 2 still carries timing (R34). -/
def State.misplaced (s : State) (r : BayRecord) : Bool :=
  StationSet.has s.cfg.peerMask r.station && decide (r.station < s.cfg.own)
    && (match s.lkc.reference with | none => true | some k => decide (r.station ≤ k))

/-- Check 2 fails (R34). -/
def State.checkTwoFails (s : State) (r : BayRecord) (start : Nat) : State :=
  let t := s.slotMismatched
  if s.misplaced r then t.withLkc fun l => l.relock s.cfg r.station start r.cycle else t

/-- The heard list of the cycle takes a valid record of a lower station (R38). -/
def State.hear (s : State) (k : Station) : State :=
  if k < s.cfg.own then s.withLkc fun l => { l with heardNow := StationSet.insert l.heardNow k } else s

/-- |e| is at most one sixteenth of a sample period (R39). -/
def aligned (c : Settings) (k : Station) (start : Nat) : Bool :=
  decide (((start : Int) - ((slotStart c k + frameLead : Nat) : Int)).natAbs ≤ alignLimit c)

/-- The timing of a valid record from the reference (R39, R40). -/
def State.takeTiming (s : State) (r : BayRecord) (start : Nat) : State :=
  if s.lkc.reference = some r.station then
    if aligned s.cfg r.station start && r.cycle == s.lkc.number then
      s.withLkc fun l => l.shift s.cfg r.station start
    else s.withLkc fun l => l.relock s.cfg r.station start r.cycle
  else s

/-- A record that passed checks 1 to 3: heard list, timing, then check 4 on the numbers before the timing (R36, R38). -/
def State.validRecord (s : State) (r : BayRecord) (start : Nat) : State :=
  let t := (s.hear r.station).takeTiming r start
  if r.cycle = s.lkc.number then t.accept r.station r
  else t.linkAlarm fun l => { l with late := true, lates := satInc 255 l.lates }

/-- The four checks of a frame that belongs to slot k, with the record check 1 let through (R33 to R36). -/
def State.checkFrame (s : State) (k : Station) (r : Option BayRecord) (start : Nat) : State :=
  match r with
  | none => s.crcFailed (some k)
  | some r =>
    if r.station ≠ k then s.checkTwoFails r start
    else if StationSet.has s.cfg.peerMask k then s.validRecord r start
    else s

/-- A frame in the own slot: R31 in DUPLICATE; a duplicate under R29 in LISTEN and in a cycle of PUBLISH without a
transmission, whose other frames are discarded (R30); otherwise the reception checks. -/
def State.ownSlotFrame (s : State) (r : Option BayRecord) (start : Nat) : State :=
  if s.lkc.link = .duplicate then s
  else if r.any (fun r => r.station == s.cfg.own) then s.duplicate
  else if s.lkc.link = .listen then s.checkFrame s.cfg.own r start
  else if r.isNone then s.crcFailed (some s.cfg.own)
  else s

/-- A slot of the cycle yields its frame (R28); one in the own slot makes it not silent (R31). -/
def Lkc.yield (l : Lkc) (c : Settings) (k : Station) : Lkc :=
  { l with slotsHeard := StationSet.insert l.slotsHeard k, ownHeard := l.ownHeard || k == c.own }

/-- The record of a frame in slot k; a frame whose end pattern is not received within the slot is truncated (R28). -/
def slotRecord (c : Settings) (k : Station) (f : Frame) : Option BayRecord :=
  if f.tail = endPattern ∧ f.start + frameUnits ≤ slotEnd c k then receivedRecord f.bytes else none

/-! ### The read-back (R30) -/

/-- The read-back fails its CRC, is truncated or is silent (R30). -/
def State.readBackFailed (s : State) : State := s.crcFailed (some s.cfg.own)

/-- The read-back of a transmission, compared byte by byte (R30, R196). -/
def State.judgeReadBack (s : State) (f : Frame) : State :=
  if f.tail = endPattern ∧ f.start + frameUnits ≤ slotEnd s.cfg s.cfg.own ∧ crcGood f.bytes then
    if f.bytes = s.lkc.txFrame then s
    else if (byteAt f.bytes 0).extractLsb' 4 4 = BitVec.ofFin (w := 4) s.cfg.own then s.duplicate
    else s.slotMismatched
  else s.readBackFailed

/-! ### Record arrival (R28, R37) -/

/-- A frame while the timer is locked (R28 to R36). One that starts in the compute gap has no slot whose end could truncate it: it
is taken whole, past the gap too, and fails check 1 where its CRC does or its tail is not the end pattern, the model's choice
(R28, log 64). -/
def State.arrivalLocked (s : State) (f : Frame) : State :=
  match slotOf s.cfg f.start with
  | none =>
    let t := s.withLkc fun l => l.reach s.cfg (frameArrival s.cfg f.start)
    match (if f.tail = endPattern then receivedRecord f.bytes else none) with
    | none => t.crcFailed none
    | some r => t.checkTwoFails r f.start
  | some k =>
    if StationSet.has s.lkc.slotsHeard k then s
    else
      let t := s.withLkc fun l => (l.reach s.cfg (slotArrival s.cfg k f)).yield s.cfg k
      if k = s.cfg.own then
        if s.lkc.link = .publish ∧ s.lkc.sent = true then t.judgeReadBack f
        else t.ownSlotFrame (slotRecord s.cfg k f) f.start
      else t.checkFrame k (slotRecord s.cfg k f) f.start

/-- The own slot of the running timer is not silent (R31, R37). A frame that ends after the cycle close began in the own slot
of the cycle before, whose close the start pattern makes a close with a count of 0. -/
def State.markOwnSlot (s : State) (start : Nat) : State :=
  if slotOf s.cfg start = some s.cfg.own then
    s.withLkc fun l =>
      if cycleUnits s.cfg < start + frameUnits then
        { l with silentCount := if l.link = .duplicate then 0 else l.silentCount }
      else { l with ownHeard := true }
  else s

/-- A frame while the timer is unlocked: it belongs to the slot its station field names, and the first that passes checks
1 and 3 causes an acquisition (R37). -/
def State.arrivalUnlocked (s : State) (f : Frame) : State :=
  let t := (s.withLkc fun l => l.reach s.cfg (frameArrival s.cfg f.start)).markOwnSlot f.start
  match (if f.tail = endPattern then receivedRecord f.bytes else none) with
  | none => t.crcFailed none
  | some r =>
    if r.station = s.cfg.own then (if s.lkc.link = .duplicate then t else t.duplicate)
    else if StationSet.has s.cfg.peerMask r.station then
      ((t.hear r.station).withLkc fun l => l.relock s.cfg r.station f.start r.cycle).accept r.station r
    else t

/-- The receiver is idle in CONFIG and in OFF (R32). -/
def State.receives (s : State) : Bool := s.running && s.lkc.link != .off

/-- RECORD_ARRIVAL (R28). -/
def State.recordArrival (s : State) (f : Frame) : State :=
  if s.receives then (if s.lkc.unlocked then s.arrivalUnlocked f else s.arrivalLocked f) else s

/-! ### The own record (R42 to R45) -/

/-- The alignment state, ALIGNED or SELF_TIMED (R39, R41). -/
def Lkc.alignState (l : Lkc) : Alignment := if l.selfTimed then .selfTimed else .aligned

/-- The alignment field, RELOCKED within the marked cycles and the alignment state otherwise (R42). -/
def Lkc.alignment (l : Lkc) : Alignment :=
  match l.relockCycle with
  | some c => if (l.count - c).toNat ≤ 4 then .relocked else l.alignState
  | none => l.alignState

/-- The summary a breaker state is published as (R115). -/
def summaryOfState : BreakerState → Summary
  | .opened => .opened
  | .closing => .closing
  | .closed => .closed
  | .opening => .opening
  | .failedOpen => .faulty
  | .discrepant => .faulty
  | .unknown => .faulty

/-- The transfer state code (wire formats). -/
def transferCode : TransferState → TransferCode
  | .manual => .manual
  | .normal => .normal
  | .lossConfirm => .lossConfirm
  | .isolating => .isolating
  | .deadWait => .deadWait
  | .onAlternate => .onAlternate
  | .returnWait => .returnWait
  | .resync => .resync
  | .parallel => .parallel
  | .openReturn => .openReturn
  | .halted => .halted
  | .tieOpen => .tieOpen
  | .tieClaim _ => .tieClaim
  | .tieFeeding _ => .tieFeeding

/-- The load fraction of a power and a rated power (R146). R146 states no quotient for the rated power 0 that a peer's record can
carry (R196): it is a free value, clamped as any other (log 70). -/
def loadFraction (p : Int) (rated : Nat) : Int :=
  clamp (-4096) 8191 (if rated = 0 then Config.quotientByZero (p * 4096) else divide (p * 4096) rated)

/-- The role part (R45). -/
def State.ownPart (s : State) : RolePart :=
  match s.cfg.role with
  | some .incomer =>
    .incomer s.tru.healthy (if resyncStands s.tru.state then BitVec.ofNat 16 s.tru.reference else 0)
      (if resyncStands s.tru.state then s.cfg.resyncOffset.setWidth 8 else 0)
  | some .tie => .tie s.tru.direction
  | some .generator =>
    .generator (toWord (loadFraction s.currentSet.p s.cfg.pRated.toNat)) s.cfg.pRated s.gcu.unit s.gcu.mode
  | _ => .feeder (if s.fcu.state = .shed ∨ s.fcu.state = .restoring then BitVec.ofNat 16 s.fcu.held else 0)
      (s.cfg.priority.setWidth 8) s.fcu.state

/-- The claim type of the record (R44). -/
def claimTypeOf : Option Claim → ClaimType
  | none => .none
  | some c => if c.restore then .restore else .deadBus

/-- The own record as it is assembled now (R43, R44). -/
def State.ownRecord (s : State) : BayRecord :=
  let r := s.currentSet
  let incomer := s.cfg.isRole .incomer
  { station := s.cfg.own, sect := if s.cfg.isRole .tie then none else s.cfg.sec, cycle := s.lkc.number,
    alignment := s.lkc.alignment, meas := r.meas, summary := summaryOfState s.bcu.state, lockout := s.dbu.lockout,
    tripActive := s.pru.tripActive, bfNotice := s.dbu.notice, faultGroup := s.pru.faultGroup,
    sourceGroup := s.pru.sourceGroup, mode := s.tru.mode, hold := incomer && s.tru.hold,
    startDemand := incomer && s.tru.startDemand, openDemand := incomer && s.tru.openDemand,
    parallelTimeout := incomer && s.tru.parallelTimeout, claim := claimTypeOf s.clu.claim,
    claimTarget := (s.clu.claim.map Claim.target).getD .one,
    claimRank := match s.clu.claim with | some c => if c.restore then 0 else c.rank | none => 0,
    transfer := if incomer || s.cfg.isRole .tie then transferCode s.tru.state else .none,
    iaRe := toWord r.phasor.ia.re, iaIm := toWord r.phasor.ia.im, ibRe := toWord r.phasor.ib.re,
    ibIm := toWord r.phasor.ib.im, icRe := toWord r.phasor.ic.re, icIm := toWord r.phasor.ic.im,
    busVoltage := BitVec.ofNat 16 r.vMin, busFrequency := BitVec.ofNat 16 r.fBus,
    lineVoltage := BitVec.ofNat 16 r.mag.vl, lineFrequency := BitVec.ofNat 16 r.fLine, p := toWord r.p, q := toWord r.q,
    part := s.ownPart }

/-- The own record is sent: written to the own entry with the current cycle count, and transmitted; CLU's claim is
published with it (R30, R43, R49, R118). -/
def State.publish (s : State) : State :=
  let r := s.ownRecord
  ((s.accept s.cfg.own r).withLkc fun l =>
    { l with sent := true, txFrame := encodeRecord r, sending := true, txCut := false }).withClu fun u =>
      { u with published := u.claim, spent := false, failed := false }

/-! ### The link at a cycle close (R29, R31, R38, R41) -/

/-- SELF_TIMED is reached, with REFERENCE_MISSING in a station that is not the lowest of its peer mask (R37, R41). -/
def State.becomeSelfTimed (s : State) : State :=
  let t := s.withLkc fun l => { l with selfTimed := true, unlocked := false }
  if s.cfg.isLowest then t else t.linkAlarm fun l => { l with referenceMissing := true }

/-- The heard lists and the lower-silence count (R38, R41). -/
def Lkc.closeHeard (l : Lkc) : Lkc :=
  { l with silence := if l.heardNow = 0 then satInc 3 l.silence else 0, heardBefore := l.heardNow, heardNow := 0 }

/-- The eight cycle closes of LISTEN and the silent-slot count of DUPLICATE (R29, R31). -/
def Lkc.closeState (l : Lkc) : Lkc :=
  match l.link with
  | .listen =>
    if l.listenCount + 1 ≥ 8 then { l with link := .publish, listenCount := 8 }
    else { l with listenCount := l.listenCount + 1 }
  | .duplicate =>
    if l.ownHeard then { l with silentCount := 0 }
    else if l.silentCount + 1 ≥ 64 then { l with link := .listen, silentCount := 64, listenCount := 0 }
    else { l with silentCount := l.silentCount + 1 }
  | _ => l

/-- LKC at a cycle close (R29, R31, R38, R41). -/
def State.linkClose (s : State) : State :=
  let t := s.withLkc fun l => l.closeHeard.closeState
  if t.lkc.silence = 3 ∧ t.lkc.selfTimed = false then t.becomeSelfTimed else t

/-- The next link cycle begins: number and count advance, and what belongs to one cycle is cleared (R26, R27). -/
def Lkc.advance (l : Lkc) : Lkc :=
  { l.begin with number := l.number + 1, count := l.count + 1 }

/-! ### The commands of the link -/

/-- OWN_SLOT (R43): in PUBLISH the own record is assembled, copied and transmitted, once per cycle (R27, R30). -/
def execOwnSlot (s : State) : Host.Outcome State Fault Refusal :=
  .next
    (if s.running then
      let t := s.withLkc fun l => l.reach s.cfg (slotStart s.cfg s.cfg.own)
      if t.lkc.link = .publish ∧ t.lkc.sent = false ∧ t.lkc.ownSkipped = false then t.publish else t
    else s)

/-- READ_BACK (R30): what is heard in the own slot after the own transmission of this cycle. -/
def execReadBack (h : Heard) (s : State) : Host.Outcome State Fault Refusal :=
  .next
    (if s.receives && s.lkc.link == .publish && s.lkc.sent && !StationSet.has s.lkc.slotsHeard s.cfg.own then
      match h with
      | .silent =>
        (s.withLkc fun l =>
          { l.reach s.cfg (slotEnd s.cfg s.cfg.own) with
            slotsHeard := StationSet.insert l.slotsHeard s.cfg.own }).readBackFailed
      | .frame f =>
        (s.withLkc fun l => (l.reach s.cfg (slotArrival s.cfg s.cfg.own f)).yield s.cfg s.cfg.own).judgeReadBack f
    else s)

/-- RECORD_ARRIVAL (R28). -/
def execRecordArrival (f : Frame) (s : State) : Host.Outcome State Fault Refusal := .next (s.recordArrival f)

/-- LISTEN_COMPLETE (R29): the eighth cycle close of LISTEN. -/
def execListenComplete (s : State) : Host.Outcome State Fault Refusal :=
  .next
    (if s.receives && s.lkc.link == .listen && decide (8 ≤ s.lkc.listenCount + 1) then
      s.withLkc fun l => { l with link := .publish, listenCount := 8 }
    else s)

/-- SILENT_SLOT_EXPIRY (R31): the own slot silent for the 64th consecutive cycle. -/
def execSilentSlotExpiry (s : State) : Host.Outcome State Fault Refusal :=
  .next
    (if s.receives && s.lkc.link == .duplicate && !s.lkc.ownHeard && decide (64 ≤ s.lkc.silentCount + 1) then
      s.withLkc fun l => { l with link := .listen, silentCount := 64, listenCount := 0 }
    else s)

/-- SELF_TIMED (R41): the third consecutive cycle close without a lower station. -/
def execSelfTimed (s : State) : Host.Outcome State Fault Refusal :=
  .next
    (if s.receives && !s.lkc.selfTimed && s.lkc.heardNow == 0 && decide (3 ≤ s.lkc.silence + 1) then
      (s.withLkc fun l => { l with silence := 3 }).becomeSelfTimed
    else s)

end Sys2Proof.Machine
end

