-- ==== Sys2Proof/Machine/Protection.lean ====
section
/-! DEFINITION. The Protection Unit (R63 to R83): the eight elements at a phasor instant, the trip request, trip active,
the operation list and the setting groups. -/

namespace Sys2Proof.Machine

/-! ### The elements' tests (R65, R72 to R78) -/

/-- What an element finds at a phasor instant when it is not blocked: its condition, its dropout, and the phases at or
above pickup (R63, R66). -/
structure ElementTest where
  holds : Bool
  drops : Bool
  phases : Phases
deriving DecidableEq, Repr

/-- The overcurrent test of I> and I>> (R72, R73). -/
def overcurrentTest (r : ResultSet) (pickup : Nat) : ElementTest :=
  let at' (m : Nat) : Bool := decide (pickup ≤ m)
  let below (m : Nat) : Bool := decide (m * 64 < pickup * 61)
  { holds := at' r.mag.ia || at' r.mag.ib || at' r.mag.ic,
    drops := below r.mag.ia && below r.mag.ib && below r.mag.ic,
    phases := { a := at' r.mag.ia, b := at' r.mag.ib, c := at' r.mag.ic } }

/-- A test whose dropout is the condition failing. -/
def plainTest (holds : Bool) : ElementTest := { holds := holds, drops := !holds, phases := .empty }

/-- An element is blocked by its own conditions (R74, R76, R77, R78). -/
def ownBlock (c : Settings) (b : BreakerState) (rocof : Option Int) (r : ResultSet) : Element → Bool
  | .overI => false
  | .highI => false
  | .underV => b != .closed
  | .overV => false
  | .underF => r.fBus == 0
  | .overF => r.fBus == 0
  | .rocof => rocof.isNone
  | .revPower => b != .closed || !c.isRole .generator

/-- An element's condition and dropout against the pickup of its active group (R72 to R78). -/
def conditionTest (c : Settings) (p : Pru) (rocof : Option Int) (r : ResultSet) (e : Element) : ElementTest :=
  let pickup := ((c.source p.sourceGroup).words e).pickup.toNat
  match e with
  | .overI => overcurrentTest r (c.fault p.faultGroup).overIPickup.toNat
  | .highI => overcurrentTest r (c.fault p.faultGroup).highIPickup.toNat
  | .underV => plainTest (decide (r.vMin < pickup))
  | .overV => plainTest (decide (pickup < r.vMax))
  | .underF => plainTest (decide (r.fBus < pickup))
  | .overF => plainTest (decide (pickup < r.fBus))
  | .rocof => plainTest (decide (pickup ≤ absInt (rocof.getD 0)))
  | .revPower => plainTest (decide (r.p ≤ -(pickup : Int)))

/-- The test of an element at a phasor instant; `none` when it is blocked or its action is OFF (R65). -/
def State.elementTest (s : State) (r : ResultSet) (e : Element) : Option ElementTest :=
  if r.meas ≠ .valid ∨ ownBlock s.cfg s.bcu.state s.msu.rocof r e = true then none
  else match elementAction s.cfg s.pru e with
    | some .alarm => some (conditionTest s.cfg s.pru s.msu.rocof r e)
    | some .trip => some (conditionTest s.cfg s.pru s.msu.rocof r e)
    | _ => none

/-- The delay in force (R72 to R78); that of I>> is fixed at 1. -/
def elementDelay (c : Settings) (p : Pru) (e : Element) : Nat :=
  match e with
  | .overI => (c.fault p.faultGroup).overIDelay.toNat
  | .highI => 1
  | _ => ((c.source p.sourceGroup).words e).delay.toNat

/-- A phase set with more phases. -/
def Phases.join (x y : Phases) : Phases := { a := x.a || y.a, b := x.b || y.b, c := x.c || y.c }

/-- An element record that counts on toward its delay (R66). -/
def ElementRec.count' (r : ElementRec) (delay : Nat) (p : Phases) : ElementRec :=
  if delay ≤ r.count + 1 then { state := .operate, count := delay, phases := r.phases.join p }
  else { state := .pickup, count := r.count + 1, phases := r.phases.join p }

/-- An element record after a phasor instant (R65, R66). -/
def ElementRec.advance (r : ElementRec) (t : Option ElementTest) (delay : Nat) : ElementRec :=
  match t with
  | none => .quiet
  | some t =>
    match r.state with
    | .quiet => if t.holds then ElementRec.quiet.count' delay t.phases else .quiet
    | .pickup => if t.drops then .quiet else r.count' delay t.phases
    | .operate => if t.drops then .quiet else { r with count := delay, phases := r.phases.join t.phases }

/-! ### Entering OPERATE (R67 to R71, R73) -/

/-- The half of an element. -/
def halfOf : Element → Half
  | .overI => .fault
  | .highI => .fault
  | _ => .source

/-- The entry an element adds to the operation list (R70). -/
def operationOf (c : Settings) (p : Pru) (e : Element) (cycle : Count) : Operation :=
  { element := e, half := halfOf e, group := match halfOf e with | .fault => p.faultGroup | .source => p.sourceGroup,
    action := (elementAction c p e).getD .off, phases := (p.elements.get e).phases, cycle := cycle }

/-- The operation list with one more entry, of at most eight (R70). -/
def appendOperation (l : List Operation) (o : Operation) : List Operation :=
  let t := l ++ [o]
  if t.length > 8 then t.drop 1 else t

/-- The elements that enter OPERATE, in table order: those in OPERATE now and not before. -/
def entering (before after : Eight ElementRec) : List Element :=
  allElements.filter fun e => (after.get e).state == .operate && (before.get e).state != .operate

/-- An issue of the trip request: trip active, the TRIP bit and one TRIP trigger (R68, R69, R71). -/
def State.issueTrip (s : State) : State :=
  ((s.withPru fun p => { p with tripActive := true }).raise .trip).trigger .trip

/-- Elements enter OPERATE: the operation list, an issue for those whose action is TRIP, the presentation of a request
that stands, and then the lockout request of I>> (R68 to R71, R73). That the trip is taken before the lockout is the model's
choice (log 50). -/
def State.operated (s : State) (es : List Element) (cycle : Count) : State :=
  let t := s.withPru fun p =>
    { p with operations := es.foldl (fun l e => appendOperation l (operationOf s.cfg p e cycle)) p.operations }
  let u := if es.any (fun e => elementAction s.cfg s.pru e == some .trip) then t.issueTrip else t
  let v := if u.pruStands then u.tripRequest else u
  if es.contains .highI && elementAction s.cfg s.pru .highI == some .trip && (s.cfg.fault s.pru.faultGroup).highILockout then
    v.setLockout .highI
  else v

/-- Trip active clears when no TRIP-action element is in OPERATE and BCU is OPEN (R69). -/
def State.tripActiveTest (s : State) : State :=
  if !s.pruStands && s.bcu.state == .opened then s.withPru fun p => { p with tripActive := false } else s

/-- PRU at a phasor instant, from the result set just formed (R64 to R71). -/
def State.pruEvaluate (s : State) (r : ResultSet) : State :=
  let before := s.pru.elements
  let after := Eight.ofFn fun e => (before.get e).advance (s.elementTest r e) (elementDelay s.cfg s.pru e)
  let t := s.withPru fun p => { p with elements := after }
  (t.operated (entering before after) (r.label.getD s.lkc.count)).tripActiveTest

/-! ### Setting groups (R79 to R81) -/

/-- The group a mode selects, true for group 1 (R80). -/
def groupOf (m : Option GroupMode) (own : IslandState) (standing : Bool) : Bool :=
  match m with
  | some .fix0 => false
  | some .fix1 => true
  | some .auto => own != .grid
  | none => standing

/-- The elements of a half put in QUIET (R81). -/
def Eight.quietHalf (x : Eight ElementRec) (h : Half) : Eight ElementRec :=
  Eight.ofFn fun e => if halfOf e = h then .quiet else x.get e

/-- The group selection of a cycle close, and the switch of a half whose group changes (R80, R81). -/
def Pru.select (p : Pru) (c : Settings) (own : IslandState) : Pru :=
  let f := groupOf c.faultMode own p.faultGroup
  let g := groupOf c.sourceMode own p.sourceGroup
  let x := if f = p.faultGroup then p.elements else Eight.quietHalf p.elements .fault
  let y := if g = p.sourceGroup then x else Eight.quietHalf x .source
  { p with faultGroup := f, sourceGroup := g, elements := y }

/-- PRU at a cycle close (R80). -/
def State.pruClose (s : State) : State := s.withPru fun p => p.select s.cfg s.top.own

/-- ELEMENT_OPERATE (R66): the element whose count reaches its delay at this phasor instant enters OPERATE. -/
def execElementOperate (e : Element) (s : State) : Host.Outcome State Fault Refusal :=
  .next
    (let r := s.msu.newest
     let before := s.pru.elements
     let x := (before.get e).advance (s.elementTest r e) (elementDelay s.cfg s.pru e)
     if s.running && x.state == .operate && (before.get e).state != .operate then
       (s.withPru fun p => { p with elements := Eight.ofFn fun d => if d = e then x else before.get d }).operated [e]
         (r.label.getD s.lkc.count)
     else s)

end Sys2Proof.Machine
end

