-- ==== Sys2Proof/Machine/Differential.lean ====
section
/-! DEFINITION. The Differential and Breaker-Failure Unit (R85 to R96): the evaluation of a section, its confirm and
zone-blocked counts, the answer to a peer's BF notice, and the BF timer. -/

namespace Sys2Proof.Machine

/-! ### The zone (R86, R87) -/

/-- The fault-half instance named by the own record of the closing cycle (R85). -/
def State.diffSettings (s : State) (own : BayRecord) : FaultGroup := s.cfg.fault own.faultGroup

/-- The lowest member that fails a test on its record. -/
def firstFailing (set : StationSet) (test : Station → Bool) : Option Station :=
  allStations.find? fun k => StationSet.has set k && !test k

/-- The first failing of the two tests that need no settings, with the lowest member that fails it (R87). -/
def State.zoneMissing (s : State) (x : Sec) : Option (BlockReason × Option Station) :=
  match s.top.expected x with
  | none => some (.setUnknown, none)
  | some set => (firstFailing set fun k => s.status k == .fresh).map fun k => (.notFresh, some k)

/-- The first failing test of completeness, with the lowest member that fails it (R87). -/
def State.zoneBlock (s : State) (x : Sec) (own : BayRecord) : Option (BlockReason × Option Station) :=
  match s.zoneMissing x with
  | some b => some b
  | none =>
      let set := (s.top.expected x).getD 0
      match firstFailing set fun k => (s.heldRec k).any fun r => r.alignment != .relocked with
      | some k => some (.relocked, some k)
      | none =>
        match firstFailing set fun k => (s.heldRec k).any fun r => r.meas == .valid with
        | some k => some (.notValid, some k)
        | none =>
          match firstFailing set fun k => (s.heldRec k).any fun r => r.faultGroup == own.faultGroup with
          | some k => some (.groupMismatch, some k)
          | none => none

/-! ### Operate and restraint (R88) -/

/-- The published phasor of a phase, in the order A, B, C. -/
def BayRecord.current (r : BayRecord) : Fin 3 → Int × Int
  | 0 => (r.iaRe.toInt, r.iaIm.toInt)
  | 1 => (r.ibRe.toInt, r.ibIm.toInt)
  | 2 => (r.icRe.toInt, r.icIm.toInt)

/-- The sign of a member in section x: the tie subtracts in section 2 (R86). -/
def signOf (tie : TieId) (x : Sec) (k : Station) : Int := if x = .two ∧ tie = .station k then -1 else 1

/-- The signed phasors of the members of a zone in one phase (R86, R88). -/
def State.zonePhasors (s : State) (x : Sec) (set : StationSet) (ph : Fin 3) : List (Int × Int) :=
  (allStations.filter fun k => StationSet.has set k).map fun k =>
    let i := ((s.heldRec k).map fun r => BayRecord.current r ph).getD (0, 0)
    (signOf s.top.tie x k * i.1, signOf s.top.tie x k * i.2)

/-- Operate, restraint and the two tests of a phase (R88). -/
def phaseSum (ipu slope : Nat) (xs : List (Int × Int)) : PhaseSum :=
  let iop := magnitude (sumInt (xs.map Prod.fst)) (sumInt (xs.map Prod.snd))
  let ires := sumNat (xs.map fun i => magnitude i.1 i.2)
  { iop := iop, ires := ires, operates := decide (ipu ≤ iop ∧ slope * ires ≤ iop * 64) }

/-- The evaluation of section x at a cycle close (R85, R87, R88). An own entry that is not FRESH counts as one that holds no record
(R53): the zone is incomplete and no settings are needed, and the reason is the first failing test of R87 (log 19). -/
def State.evaluateSection (s : State) (x : Sec) : Evaluation :=
  match s.freshRec s.cfg.own with
  | none =>
    let b := (s.zoneMissing x).getD (.notFresh, some s.cfg.own)
    .blocked b.1 b.2
  | some own =>
    let g := s.diffSettings own
    if g.diffAction ≠ some .trip then .notEvaluated
    else match s.zoneBlock x own with
      | some (r, k) => .blocked r k
      | none =>
        let set := (s.top.expected x).getD 0
        let sum (ph : Fin 3) := phaseSum g.ipu.toNat g.slope.toNat (s.zonePhasors x set ph)
        .complete (sum 0) (sum 1) (sum 2)

/-- The operate condition holds in at least one phase (R88). -/
def Evaluation.holds : Evaluation → Bool
  | .complete a b c => a.operates || b.operates || c.operates
  | _ => false

/-- The confirm count after a cycle close (R85, R87, R89). -/
def confirmAfter (n : Nat) (e : Evaluation) : Nat := if e.holds then satInc 4 n else 0

/-- D of the own record's instance (R85, R89). -/
def State.confirmSetting (s : State) : Nat := ((s.freshRec s.cfg.own).map fun r => (s.diffSettings r).confirm.toNat).getD 1

/-- The zone-blocked count after a cycle close (R85, R91). -/
def blockedAfter (n : Nat) (e : Evaluation) (l : LinkState) : Nat :=
  match e with
  | .blocked _ _ => if l = .publish ∨ l = .duplicate then satInc 3 n else 0
  | _ => 0

/-- The differential of a section. -/
def Dbu.diff (d : Dbu) : Sec → SectionDiff
  | .one => d.s1
  | .two => d.s2

/-- A change of the differential of a section. -/
def Dbu.setDiff (d : Dbu) (x : Sec) (f : SectionDiff → SectionDiff) : Dbu :=
  match x with
  | .one => { d with s1 := f d.s1 }
  | .two => { d with s2 := f d.s2 }

/-- The sections a station belongs to (R85). -/
def ownSections (c : Settings) : List Sec := [Sec.one, Sec.two].filter c.belongs

/-- A section trips at this cycle close, from the count standing before it (R89). -/
def State.sectionTrips (s : State) (x : Sec) : Bool :=
  let e := s.evaluateSection x
  let n := confirmAfter (s.dbu.diff x).confirm e
  e.holds && decide (s.confirmSetting ≤ n)

/-- The issue of a differential trip (R89). -/
def State.diffIssue (s : State) (x : Sec) : State :=
  if (s.dbu.diff x).tripping then s
  else (s.withDbu fun d => d.setDiff x fun t => { t with tripping := true }).raise .trip

/-- A section trips: the issue, the trip request and lockout (R89, R90, R97). That the trip is taken before the lockout is the
model's choice (R108, R141, log 50). -/
def State.diffTrip (s : State) (x : Sec) : State := (((s.diffIssue x).tripRequest).setLockout .diff)

/-- The differential of one section at a cycle close (R85 to R91). -/
def State.diffClose (s : State) (x : Sec) : State :=
  let e := s.evaluateSection x
  let old := s.dbu.diff x
  let n := confirmAfter old.confirm e
  let b := blockedAfter old.blocked e s.lkc.link
  let trips := e.holds && decide (s.confirmSetting ≤ n)
  let t := s.withDbu fun d => d.setDiff x fun y =>
    { y with confirm := n, blocked := b, last := e, tripping := y.tripping && trips }
  let u := if old.confirm = 0 ∧ n = 1 then t.trigger .diff else t
  let v := if b = 3 ∧ old.blocked ≠ 3 then u.raise .zoneBlocked else u
  if trips then v.diffTrip x else v

/-! ### A peer's BF notice (R96) -/

/-- A record's notice concerns the station (R96). -/
def concerns (c : Settings) (r : BayRecord) : Bool := [Sec.one, Sec.two].any fun x => c.belongs x && r.belongs x

/-- A usable peer record that concerns the station carries the BF notice (R96). -/
def State.peerNotice (s : State) : Bool :=
  allStations.any fun k => k != s.cfg.own && s.usable k fun r => r.bfNotice && concerns s.cfg r

/-- A usable record of section x, the own one included, carries the BF notice (R96). -/
def State.noticeIn (s : State) (x : Sec) : Bool := s.anyUsable fun r => r.bfNotice && r.belongs x

/-- The answer to a peer's notice (R90, R96, R97). That the trip is taken before the lockout is the model's choice (R108, R141,
log 50). -/
def State.peerBfClose (s : State) : State :=
  let found := s.peerNotice
  let t := if found && !s.dbu.peerSeen then (s.raise .bf).raise .trip else s
  let u := t.withDbu fun d => { d with peerSeen := found }
  if found then (u.tripRequest).setLockout .peerBf else u

/-- The BF capture trigger of a section (R20, R96). -/
def State.bfSeenClose (s : State) (x : Sec) : State :=
  let found := s.noticeIn x
  let t := if found && !(s.dbu.diff x).bfSeen then s.trigger .bf else s
  t.withDbu fun d => d.setDiff x fun y => { y with bfSeen := found }

/-! ### The BF timer (R93, R94) -/

/-- The BF timer expires: BCU in FAILED_OPEN with TRIP kept, the notice, lockout and the BF bit (R94, R97, R111). -/
def State.bfExpire (s : State) : State :=
  let t := s.withDbu fun d => { d with timer := .idle, notice := true }
  let u := if t.bcu.trip then t.withBcu fun b => { b with state := .failedOpen } else t
  (u.setLockout .bf).raise .bf

/-- The BF timer counts a cycle close that did not start it (R93). -/
def State.bfTick (s s0 : State) : State :=
  match s0.dbu.timer, s.dbu.timer with
  | .running _, .running n =>
    let t := s.withDbu fun d => { d with timer := .running (n + 1) }
    if s.cfg.tBf.toNat ≤ n + 1 then t.bfExpire else t
  | _, _ => s

/-- The BF timer expires at the cycle close that counts next. -/
def State.bfDue (s : State) : Bool :=
  match s.dbu.timer with
  | .running n => decide (s.cfg.tBf.toNat ≤ n + 1)
  | .idle => false

/-- DBU at a cycle close, `s0` being the state before the close. The differential trip, the answer to a peer's notice and the BF
expiry are taken in this order, so with the flag clear the first of them is the source recorded: the model's choice (R99,
log 49). -/
def State.dbuClose (s s0 : State) : State :=
  let t := (ownSections s.cfg).foldl State.diffClose s
  let u := t.peerBfClose
  let v := (ownSections s.cfg).foldl State.bfSeenClose u
  v.bfTick s0

/-- The own lockout flag after every setting of it at this cycle close (R60). -/
def State.lockoutAfter (s : State) : Bool :=
  s.dbu.lockout || (ownSections s.cfg).any s.sectionTrips || s.peerNotice || s.bfDue

/-- DBU presents a trip request at this cycle close (R90). -/
def State.dbuWillTrip (s : State) : Bool := (ownSections s.cfg).any s.sectionTrips || s.peerNotice

/-! ### The commands -/

/-- BF_EXPIRY (R94): the BF timer reaches t_bf. -/
def execBfExpiry (s : State) : Host.Outcome State Fault Refusal :=
  .next (if s.running && s.bfDue then s.bfExpire else s)

end Sys2Proof.Machine
end

