-- ==== Sys2Proof/Machine/Breaker.lean ====
section
/-! DEFINITION. The Breaker Control Unit's lines and counts (R101 to R113): the debounce of the input lines, the
functions' contact events, the re-confirmation, and BCU at a cycle close. -/

namespace Sys2Proof.Machine

/-! ### Debounce (R101) -/

/-- The hold count of a line at a strobe that reads `read` (R101). -/
def LineState.holdAfter (l : LineState) (read : Bool) : Nat :=
  if l.level = some read then 0 else if l.read = some read then l.hold + 1 else 1

/-- A line at a strobe: at a hold count of N the read level becomes the debounced level (R101). -/
def LineState.strobe (l : LineState) (n : Nat) (high read : Bool) : LineState :=
  let h := l.holdAfter read
  if n ≤ h ∧ l.level ≠ some read then { high := high, read := some read, level := some read, hold := 0 }
  else { high := high, read := some read, level := l.level, hold := h }

/-- All eight lines at a strobe (R101). -/
def strobeLines (c : Settings) (ls : Vector LineState 8) (high : Levels) : Vector LineState 8 :=
  Vector.ofFn fun i => (ls.get i).strobe c.debounce.toNat (high.get i) (readLevel c i (high.get i))

/-- A breaker-contact line's read level has changed at a strobe (R103). The first strobe of a RUN, which has no level before
it, counts as a change: the model's choice (log 42). -/
def contactChanged (c : Settings) (before after : Vector LineState 8) : Bool :=
  allLines.any fun i => isContactLine c i && (before.get i).read != (after.get i).read

/-! ### Contact events (R102, R103) -/

/-- What the lines' contact events of one strobe come to: the pair is judged, or a function becomes active
(R97, R102, R103, R108, R109). -/
structure ContactNews where
  pair : Bool
  extTrip : Bool
  extBlock : Bool
  extLockout : Bool
deriving DecidableEq, Repr

/-- A function's level is changed by contact events: to or from active (R102). -/
def levelChanged (a b : FnLevel) : Bool := (a != .active && b == .active) || (a != .inactive && b == .inactive)

/-- A function becomes active (R102). -/
def becameActive (a b : FnLevel) : Bool := a != .active && b == .active

/-- The news of a change of the lines (R102, R103): the levels of a function before and after all the lines' events of one
strobe are compared, so two lines of one function that change oppositely at one strobe bring no event: the model's choice
(log 42). -/
def newsOf (c : Settings) (before after : Vector LineState 8) : ContactNews :=
  let was := functionLevel c before
  let is' := functionLevel c after
  { pair := levelChanged (was .brkClosed) (is' .brkClosed) || levelChanged (was .brkOpen) (is' .brkOpen),
    extTrip := becameActive (was .extTrip) (is' .extTrip),
    extBlock := becameActive (was .extBlockClose) (is' .extBlockClose),
    extLockout := becameActive (was .extLockout) (is' .extLockout) }

/-- One consequence of contact events: a pair event, the trip request of EXT_TRIP, the close drop of EXT_BLOCK_CLOSE, or
the lockout of EXT_LOCKOUT (R97, R103, R108, R109). -/
def State.takeNews (s : State) (n : ContactNews) (t : StrobeTask) : State :=
  match t with
  | .measure => s
  | .pair => if n.pair then s.pairEvent else s
  | .extTrip => if n.extTrip then s.tripRequest else s
  | .extBlock => if n.extBlock then s.closeDrop else s
  | .extLockout => if n.extLockout then s.setLockout .extLockout else s

/-! ### BCU at a cycle close (R107, R108, R110, R113) -/

/-- CLOSING comes to its end without contacts showing closed (R107). -/
def State.supervisionExpire (s : State) : State :=
  match s.pair with
  | .opened =>
    ((s.withBcu fun b => b.rest .opened).breakerAlarm fun a => { a with closeFail := some s.lkc.count }).closeOutcome .failed
  | .closed => s.becomeClosed (some (if s.bcu.close then .completed else .dropped))
  | _ =>
    ((s.withBcu fun b => b.rest .discrepant).breakerAlarm fun a => { a with discrepant := some s.lkc.count }).closeOutcome
      .discrepant

/-- The close supervision count of a cycle close after the one that accepted the request (R107). -/
def State.supervisionTick (s : State) : State :=
  if s.bcu.state = .closing ∧ s.bcu.acceptedNow = false then
    let t := s.withBcu fun b => { b with supervision := b.supervision + 1 }
    if s.cfg.tCloseMax.toNat ≤ s.bcu.supervision + 1 then t.supervisionExpire else t
  else s

/-- The trip hold count and the release test of a cycle close that did not assert TRIP (R110). -/
def State.holdTick (s s0 : State) : State :=
  let t := if s0.bcu.trip && s.bcu.trip then s.withBcu fun b => { b with hold := satInc 2 b.hold } else s
  t.releaseTest

/-- The discrepancy count has run out: DISCREPANT with its alarm (R113). -/
def State.discrepancyExpire (s : State) : State :=
  (s.withBcu fun b => b.rest .discrepant).breakerAlarm fun a => { a with discrepant := some s.lkc.count }

/-- The discrepancy count is kept in these states alone (R113). -/
def countsDiscrepancy (b : BreakerState) : Bool := b == .opened || b == .closed || b == .unknown

/-- The discrepancy count of a cycle close (R113). -/
def State.discrepancyTick (s : State) : State :=
  match s.bcu.discrepancy with
  | none => s
  | some n =>
    if countsDiscrepancy s.bcu.state then
      let t := s.withBcu fun b => { b with discrepancy := some (n + 1) }
      if s.cfg.tDisc.toNat ≤ n + 1 then t.discrepancyExpire else t
    else s

/-- BCU's counts at a cycle close. -/
def State.bcuCounts (s s0 : State) : State := ((s.supervisionTick).holdTick s0).discrepancyTick

/-- The close drop of a cycle close: lockout in the view, or an incomer's utility not HEALTHY (R108). Where DBU makes a trip
request at this cycle close the trip wins whichever is taken first (R108): the close is left for it to take, and nothing is
left to drop where it has been taken. `s0` is the state the blocks of the cycle close start from, so that DBU's confirm counts
are those before it is taken. -/
def State.bcuDrop (s s0 : State) : State :=
  if !s0.dbuWillTrip && (s.top.ownLocked s.cfg || (s.cfg.isRole .incomer && !s.tru.healthy)) then s.closeDrop else s

/-- The trip request of an EXT_TRIP that stays active (R109). -/
def State.bcuExtTrip (s : State) : State := if s.fnActive .extTrip then s.tripRequest else s

/-! ### The commands -/

/-- The pin of one line at a level; its debounce stands (R101). -/
def State.setPin (s : State) (i : Fin 8) (high : Bool) : State :=
  s.withBcu fun b => { b with lines := b.lines.set i.val { b.lines.get i with high := high } i.isLt }

/-- CONTACT_EVENT (R101): the read level of line i, held for N strobes, becomes its debounced level. The pin stands at that
level in either run state. -/
def execContactEvent (i : Fin 8) (high : Bool) (s : State) : Host.Outcome State Fault Refusal :=
  .next
    (let read := readLevel s.cfg i high
     let l := s.bcu.lines.get i
     if s.running && l.level != some read && decide (s.cfg.debounce.toNat ≤ l.holdAfter read) then
       let after := s.bcu.lines.set i.val { high := high, read := some read, level := some read, hold := 0 } i.isLt
       let n := newsOf s.cfg s.bcu.lines after
       [StrobeTask.pair, .extTrip, .extBlock, .extLockout].foldl (fun t k => t.takeNews n k)
         (s.withBcu fun b => { b with lines := after })
     else s.setPin i high)

/-- RECONFIRMATION (R103): the N-th consecutive strobe at which no contact line's read level has changed. -/
def execReconfirmation (s : State) : Host.Outcome State Fault Refusal :=
  .next
    (match s.bcu.reconfirm with
     | none => s
     | some n =>
       if s.running && decide (s.cfg.debounce.toNat ≤ n + 1) then
         (s.withBcu fun b => { b with reconfirm := none }).pairEvent
       else s)

/-- CLOSE_SUPERVISION_EXPIRY (R107): the close supervision count reaches t_close_max. -/
def execCloseSupervisionExpiry (s : State) : Host.Outcome State Fault Refusal :=
  .next
    (if s.running && s.bcu.state == .closing && decide (s.cfg.tCloseMax.toNat ≤ s.bcu.supervision + 1) then
      s.supervisionExpire
    else s)

/-- TRIP_RELEASE (R110): the release test passes with the trip hold count at 2. -/
def execTripRelease (s : State) : Host.Outcome State Fault Refusal :=
  .next
    (if s.running && (s.bcu.state == .opening || s.bcu.state == .failedOpen) && s.pair == .opened
        && decide (2 ≤ s.bcu.hold + 1) then
      (s.withBcu fun b => { b with hold := satInc 2 b.hold }).releaseTest
    else s)

/-- DISCREPANCY_EXPIRY (R113): the discrepancy count reaches t_disc. -/
def execDiscrepancyExpiry (s : State) : Host.Outcome State Fault Refusal :=
  .next
    (match s.bcu.discrepancy with
     | none => s
     | some n =>
       if s.running && countsDiscrepancy s.bcu.state && decide (s.cfg.tDisc.toNat ≤ n + 1) then s.discrepancyExpire else s)

end Sys2Proof.Machine
end

