-- ==== Sys2Proof/Machine/Claims.lean ====
section
/-! DEFINITION. The Claim Unit (R118 to R129): the dead-bus and restore contests, the close requests, the dead-bus abort,
the routing of an operator close and the restore delay. Every contest reads published records. -/

namespace Sys2Proof.Machine

/-! ### Contests (R121, R127) -/

/-- The first station whose key no other candidate's undercuts: the lowest pair (key, station number). -/
def lowestKey (candidates : List (Nat × Station)) : Option Station :=
  candidates.foldl (init := (none : Option (Nat × Station)))
    (fun best x =>
      match best with
      | none => some x
      | some b => if x.1 < b.1 ∨ (x.1 = b.1 ∧ x.2 < b.2) then some x else some b)
    |>.map Prod.snd

/-- The dead-bus winner of section x: the lowest (rank, station) of the FRESH DEAD_BUS claims for it (R121). -/
def State.deadBusWinner (s : State) (x : Sec) : Option Station :=
  lowestKey (allStations.filterMap fun k =>
    match s.freshRec k with
    | some r => if r.claim = .deadBus ∧ r.claimTarget = x then some (r.claimRank.val, k) else none
    | none => none)

/-- The shed priority of a record's role part. -/
def priorityOf (r : BayRecord) : Nat :=
  match r.part with
  | .feeder _ p _ => p.toNat
  | _ => 0

/-- The restore winner of the island of section x; none while the map is UNKNOWN (R127). -/
def State.restoreWinner (s : State) (x : Sec) : Option Station :=
  if s.top.map = .unknown then none
  else lowestKey (allStations.filterMap fun k =>
    match s.freshRec k with
    | some r =>
      if r.role = .feeder ∧ r.claim = .restore ∧ inIsland s.top.map x r.claimTarget = true then some (priorityOf r, k)
      else none
    | none => none)

/-- The won-before flag of a section. -/
def Clu.won (u : Clu) : Sec → Bool
  | .one => u.won1
  | .two => u.won2

/-- The winners of a cycle close are kept for status (R121, R127). -/
def State.cluWinners (s : State) : State :=
  s.withClu fun u =>
    { u with winner1 := s.deadBusWinner .one, winner2 := s.deadBusWinner .two,
             restoreWinner1 := s.restoreWinner .one, restoreWinner2 := s.restoreWinner .two }

/-- The won-before flags take the result of this cycle close, after its close requests (R121); the record of a claim whose
close has failed since wins nothing for the new one, which has to win twice afresh (R123, log 41). -/
def State.cluWon (s : State) : State :=
  s.withClu fun u =>
    { u with won1 := u.winner1 == some s.cfg.own && !u.failed, won2 := u.winner2 == some s.cfg.own && !u.failed }

/-! ### Restore tracking (R128) -/

/-- The summary of a station's usable record. -/
def State.usableSummary (s : State) (k : Station) : Option Summary := (s.usableRec k).map BayRecord.summary

/-- A feeder close is observed in section x: a usable feeder record newly CLOSED (R128). -/
def State.feederClosed (s : State) (x : Sec) : Bool :=
  allStations.any fun k =>
    s.usable k (fun r => r.role == .feeder && r.summary == .closed && r.sect == some x)
      && s.clu.lastSeen.get k != some .closed

/-- The restore tracking of a cycle close (R128). Summaries are kept of feeders' entries. -/
def State.cluTrack (s : State) : State :=
  s.withClu fun u =>
    { u with
      lastClose1 := if s.feederClosed .one then s.lkc.count else u.lastClose1,
      lastClose2 := if s.feederClosed .two then s.lkc.count else u.lastClose2,
      lastSeen := Vector.ofFn fun k => s.usableSummary k }

/-- The later of two cycle counts not after the current one. -/
def laterClose (now a b : Count) : Count := if (now - a).toNat ≤ (now - b).toNat then a else b

/-- The last close of the island of section x (R128). -/
def State.lastClose (s : State) (x : Sec) : Count :=
  if s.top.map = .joined then laterClose s.lkc.count s.clu.lastClose1 s.clu.lastClose2
  else match x with
    | .one => s.clu.lastClose1
    | .two => s.clu.lastClose2

/-- The island's restore delay has run out (R128). -/
def State.restoreDelayOut (s : State) (x : Sec) : Bool :=
  decide (s.cfg.tRestore.toNat ≤ (s.lkc.count - s.lastClose x).toNat)

/-! ### Close requests of CLU (R122, R123, R129) -/

/-- Every expected member of x other than the own station that shows role INCOMER publishes OPEN (R122). -/
def State.othersOpen (s : State) (x : Sec) : Bool :=
  match s.top.expected x with
  | none => false
  | some set => allStations.all fun k =>
      !StationSet.has set k || k == s.cfg.own
        || (s.heldRec k).all fun r => r.role != .incomer || r.summary == .opened

/-- Condition 7, or for a dead-dead claim that the source side is DEAD (R122, R126). -/
def State.sourceReady (s : State) (x : Sec) (deadDead : Bool) : Bool :=
  if deadDead then sourceSide s.cfg s.currentSet x == .dead else sourceLive s.cfg s.currentSet x

/-- The seven conditions of a dead-bus close (R122). -/
def State.deadBusReady (s : State) (x : Sec) (deadDead : Bool) : Bool :=
  s.clu.inFlight.isNone && s.allFresh (s.top.expected x) && s.othersOpen x
    && !s.top.locked x && !s.dbu.lockout && s.currentSet.meas == .valid
    && targetSide s.cfg s.currentSet x == .dead && s.sourceReady x deadDead

/-- A close request of CLU: accepted, it is in flight; refused, the reason goes to the origin and the claim is
withdrawn (R123). -/
def State.cluRequest (s : State) (k : CloseKind) (x : Sec) (o : Origin) : State :=
  match s.closeRequest .clu with
  | (t, none) => t.withClu fun u => { u with inFlight := some { kind := k, target := x, origin := o } }
  | (t, some r) => t.cluEnd o (.refusal r)

/-- CLU may make a close request at this cycle close: the published claim has not been withdrawn since (R123), and no close
has failed at this same cycle close (R114). -/
def State.cluMayRequest (s : State) : Bool := !s.clu.spent && !s.bcu.endedNow

/-- The dead-bus close request of section x: the own station has won twice with the conditions met (R121, R122). -/
def State.cluDeadBus (s : State) (x : Sec) : State :=
  match s.clu.published with
  | none => s
  | some c =>
    if s.cluMayRequest = true ∧ s.deadBusWinner x = some s.cfg.own ∧ s.clu.won x = true ∧ c.restore = false ∧ c.target = x
        ∧ s.deadBusReady x c.deadDead = true then
      s.cluRequest (if c.deadDead then .deadDead else .deadBus) x c.origin
    else s

/-- The conditions of a restore close (R129). -/
def State.restoreReady (s : State) (x : Sec) : Bool :=
  s.clu.inFlight.isNone && s.restoreDelayOut x && !s.top.locked x && !s.dbu.lockout
    && s.currentSet.meas == .valid && s.currentSet.busClass == .live

/-- The own station is the restore winner of its island, by its published RESTORE claim (R127, R129). -/
def State.restoreWon (s : State) : Bool :=
  s.restoreWinner s.cfg.ownSec == some s.cfg.own && (s.freshRec s.cfg.own).any fun r => r.claim == .restore

/-- The restore close request (R129); only FCU raises a RESTORE claim. -/
def State.cluRestore (s : State) : State :=
  if s.cluMayRequest && s.restoreWon && s.restoreReady s.cfg.ownSec then s.cluRequest .restore s.cfg.ownSec .fcu else s

/-! ### Abort, withdrawals, operator claims (R120, R124, R126) -/

/-- A close in flight onto a dead target. -/
def deadTarget (f : InFlight) : Bool := f.kind == .deadBus || f.kind == .deadDead

/-- The dead-bus abort: a target side LIVE while the close is CLOSING (R124). -/
def State.cluAbort (s : State) : State :=
  match s.clu.inFlight with
  | none => s
  | some f =>
    if deadTarget f = true ∧ s.bcu.state = .closing ∧ targetSide s.cfg s.currentSet f.target = .live then
      ((s.withClu fun u => { u with abort := some s.lkc.count }).raise .deadbusAbort).closeDrop
    else s

/-- The withdrawals that belong to a cycle close (R120). Where LOCKOUT and TARGET_LIVE both apply to a claim, LOCKOUT alone is
handed: the model's choice (log 65). -/
def State.cluWithdrawals (s : State) : State :=
  match s.clu.claim with
  | none => s
  | some c =>
    if s.top.locked c.target || s.dbu.lockout then s.cluWithdraw .lockout
    else if !c.restore && targetSide s.cfg s.currentSet c.target == .live && s.clu.inFlight.isNone then
      s.cluWithdraw .targetLive
    else s

/-- An own claim came from the operator. -/
def State.operatorClaim (s : State) : Bool := s.clu.claim.any fun c => c.origin == .operator

/-- The operator claim's window of four cycle closes (R126). The age stands where it is once the claim has ended, until the
next operator raise: the model's choice (log 54). -/
def State.cluWindow (s : State) : State :=
  if s.operatorClaim && !s.clu.raisedNow then
    let t := s.withClu fun u => { u with age := min 4 (u.age + 1) }
    if 4 ≤ s.clu.age + 1 ∧ s.clu.inFlight = none then t.cluWithdraw .expired else t
  else s

/-- The target of an operator close (R126). -/
def operatorTarget (c : Settings) (r : ResultSet) : Sec :=
  if c.isRole .tie then (if r.busClass ≠ .dead ∧ r.clsL = .dead then .two else .one) else c.ownSec

/-- The last operator close result. -/
def State.operatorResult (s : State) (r : OperatorResult) : State :=
  s.withClu fun u => { u with operatorResult := some (r, s.lkc.count) }

/-- An operator claim is raised, its age at 0 (R126). -/
def State.operatorRaise (s : State) (x : Sec) (deadDead : Bool) : State :=
  let p := s.cluRaise .operator false x deadDead
  let t := p.1.withClu fun u => { u with age := 0, raisedNow := true }
  if p.2 = .raised then t.operatorResult (if deadDead then .claimedDeadDead else .claimed)
  else t.operatorResult (.answer p.2)

/-- The routing of a pending operator close (R126). -/
def State.routeOperator (s : State) : State :=
  let r := s.currentSet
  let x := operatorTarget s.cfg r
  match targetSide s.cfg r x, sourceSide s.cfg r x with
  | .live, .live =>
    if sourceLive s.cfg r x then (s.operatorResult .toSync).syuStart .operator else s.operatorResult .sidesUndecided
  | .dead, .live =>
    if sourceLive s.cfg r x then s.operatorRaise x false else s.operatorResult .sidesUndecided
  | .dead, .dead => if s.cfg.deadDead then s.operatorRaise x true else s.operatorResult .deadDeadOff
  | _, _ => s.operatorResult .sidesUndecided

/-- The operator close pending at a cycle close (R126). -/
def State.cluOperator (s : State) : State :=
  if s.clu.pendingClose then (s.withClu fun u => { u with pendingClose := false }).routeOperator else s

/-- What CLU does at a cycle close before the operator claim's window: tracking, winners, the pending operator close, the
requests, the abort and the withdrawals (R119 to R129). -/
def State.cluActs (s : State) : State :=
  ((((((((s.cluTrack).cluWinners).cluOperator).cluDeadBus .one).cluDeadBus .two).cluWon).cluAbort).cluRestore).cluWithdrawals

/-- CLU at a cycle close (R119 to R129). -/
def State.cluClose (s : State) : State := s.cluActs.cluWindow

end Sys2Proof.Machine
end

