-- ==== Sys2Proof/Machine/Sync.lean ====
section
/-! DEFINITION. The Synchronising Unit (R131 to R142): the check record of a cycle close, the ending tests, the close
request of a pass and the supervision. -/

namespace Sys2Proof.Machine

/-- Both frequencies of a result set are valid (R133, R134). -/
def bothFrequencies (r : ResultSet) : Bool := r.fBus != 0 && r.fLine != 0

/-- The slip s = f_line − f_bus (R133). -/
def slipOf (r : ResultSet) : Option Int :=
  if bothFrequencies r then some ((r.fLine : Int) - (r.fBus : Int)) else none

/-- The voltage difference dV = |VL| − |VA| (R133). -/
def voltageDifference (r : ResultSet) : Int := (r.mag.vl : Int) - (r.mag.va : Int)

/-- The angle from a crossing difference and a period estimate (R134). -/
def angleFrom (diff : Int) (p : Nat) : Int := wrapAngle (divide (diff * 3600) p)

/-- The angle δ of a result set (R134). -/
def angleOf (r : ResultSet) : Option Int :=
  if bothFrequencies r then
    match r.tBus, r.tLine with
    | some b, some l => some (angleFrom (b - l).toInt r.periodBus)
    | _, _ => none
  else none

/-- The advance angle of a slip (R135). -/
def advanceAngle (c : Settings) (slip : Int) : Int := divide (slip * (c.tCloseMs.toNat : Int) * 36) 1000

/-- The predicted angle (R135). -/
def predictedAngle (angle adv : Int) : Int := wrapAngle (angle + adv)

/-- A slip lies in the permitted direction (R133). -/
def directionHolds (d : Option Direction) (slip : Option Int) : Bool :=
  match d, slip with
  | some .any, some _ => true
  | some .positive, some s => decide (0 < s)
  | some .negative, some s => decide (s < 0)
  | _, _ => false

/-- SIDES: both classifications LIVE with valid frequencies. -/
def sidesLive (r : ResultSet) : Bool := r.busClass == .live && r.clsL == .live && bothFrequencies r

/-- The seven conditions in their order (chapter 8, Conditions of the check). -/
def allConditions : List SyncCondition := [.meas, .sides, .permit, .slip, .direction, .voltage, .angle]

/-- The check record of a cycle close (R132 to R136). -/
def State.formCheck (s : State) : CheckRecord :=
  let r := s.currentSet
  let slip := slipOf r
  let angle := angleOf r
  let adv := slip.map (advanceAngle s.cfg)
  let pred := match angle, adv with
    | some d, some a => some (predictedAngle d a)
    | _, _ => none
  let results :=
    [ r.meas == .valid, sidesLive r, !s.cfg.isRole .incomer || s.fnActive .utilityPermit,
      slip.any fun x => decide (absInt x ≤ s.cfg.sMax.toNat), directionHolds s.cfg.direction slip,
      decide (absInt (voltageDifference r) ≤ s.cfg.dvMax.toNat),
      pred.any fun x => decide (absInt x ≤ s.cfg.window.toNat) ]
  { slip := slip, dv := some (voltageDifference r), angle := angle, advance := adv, predicted := pred, results := results,
    failing := ((allConditions.zip results).find? fun x => !x.2).map Prod.fst, cycle := some s.lkc.count }

/-- The check passes: all seven conditions hold (R136). -/
def CheckRecord.passes (c : CheckRecord) : Bool := c.results == List.replicate 7 true

/-- The supervision expires: SYNC_FAIL, and EXPIRED to the owner (R140). -/
def State.syncExpire (s : State) : State := (s.raise .syncFail).syuEnd .expired

/-- A failing check in CHECKING counts toward the supervision (R138, R140). -/
def State.syncTick (s : State) : State :=
  let t := s.withSyu fun y => { y with supervision := y.supervision + 1 }
  if s.cfg.tSyncMax.toNat ≤ s.syu.supervision + 1 then t.syncExpire else t

/-- A passing check in CHECKING makes the close request (R138, R139). -/
def State.syncPass (s : State) : State :=
  match s.closeRequest .syu with
  | (t, none) => t.withSyu fun y => { y with state := .closing, permit := true }
  | (t, some r) => t.syuEnd (.refusal r)

/-- A side of the closing set is DEAD (R141). -/
def sideDead (r : ResultSet) : Bool := r.busClass == .dead || r.clsL == .dead

/-- SYU at a cycle close, on the check record of that close (R138 to R141). Where the view is locked out and a side is DEAD
the reason is LOCKOUT, and the cycle close that starts an attempt does not end it: both are the model's choices (log 40).
At a cycle close at which a close has failed no further request is made (R114). -/
def State.syuClose (s : State) : State :=
  let t := s.withSyu fun y => { y with permit := false }
  if t.syu.state = .checking ∧ t.syu.startedNow = false then
    if t.dbu.lockout || t.top.ownLocked t.cfg then t.syuEnd .endLockout
    else if sideDead t.currentSet then t.syuEnd .sideDead
    else if t.syu.check.passes then (if t.bcu.endedNow then t else t.syncPass)
    else t.syncTick
  else t

end Sys2Proof.Machine
end

