-- ==== Sys2Proof/Machine/Generator.lean ====
section
/-! DEFINITION. The Generator Control Unit (R145 to R162): demand and notices, the unit states, the bias modes and the
bias arithmetic. In a station that is no generator it does nothing (R145). -/

namespace Sys2Proof.Machine

/-! ### What the island wants (R147) -/

/-- A usable record of an incomer of the own island (R147). -/
def State.islandIncomer (s : State) (k : Station) (p : BayRecord → Bool) : Bool :=
  s.usable k fun r => r.role == .incomer && r.inIsland s.top.map s.cfg.ownSec && p r

/-- Demand stands (R147). -/
def State.demandNow (s : State) : Bool :=
  s.tru.mode == .auto && allStations.any fun k => s.islandIncomer k fun r => r.startDemand

/-- A stop notice stands (R147). -/
def State.stopNow (s : State) : Bool :=
  allStations.any fun k => s.islandIncomer k fun r => r.openDemand || r.parallelTimeout

/-- The resync reference and offset of an incomer's role part, added (R147). -/
def referenceOf (r : BayRecord) : Int :=
  match r.part with
  | .incomer _ f o => clamp 0 65535 ((f.toNat : Int) + o.toInt)
  | _ => 0

/-- f_ref (R147). -/
def State.fRefNow (s : State) : Int :=
  match allStations.find? fun k => s.islandIncomer k fun r => r.transfer == .resync with
  | some k => ((s.usableRec k).map referenceOf).getD 0
  | none => (s.cfg.nominal : Int) * 100

/-- The engine is ready (R148). -/
def State.engineReady (s : State) : Bool := s.fnActive .engineReady

/-- ENGINE_RUN (R148). -/
def engineRun (u : UnitState) : Bool := u != .idle && u != .fail

/-- The own L of the closing cycle (R146). -/
def State.ownL (s : State) : Int := loadFraction s.currentSet.p s.cfg.pRated.toNat

/-- The own reactive fraction (R146). -/
def State.ownLq (s : State) : Int := loadFraction s.currentSet.q s.cfg.pRated.toNat

/-! ### Unit states (R149 to R156) -/

/-- A claim or attempt of GCU is cancelled. -/
def State.gcuCancel (s : State) : State := (s.cancelClaim .gcu).cancelAttempt .gcu

/-- GCU enters SYNC and hands SYU a start (R152). -/
def State.gcuEnterSync (s : State) : State := (s.gcuSet .sync).syuStart .gcu

/-- GCU enters DEADBUS and raises a DEAD_BUS claim (R151). -/
def State.gcuEnterDeadbus (s : State) : State := ((s.gcuSet .deadbus).cluRaise .gcu false s.cfg.ownSec).1

/-- A CLU close for GCU is in flight. -/
def State.gcuClaimClosing (s : State) : Bool := s.clu.inFlight.any fun f => f.origin == .gcu

/-- An attempt of GCU is in CLOSING. -/
def State.gcuAttemptClosing (s : State) : Bool := s.syu.state == .closing && s.syu.owner == some .gcu

/-- A close for GCU is in flight with the breaker CLOSING (R149). -/
def State.gcuCloseInFlight (s : State) : Bool :=
  s.bcu.state == .closing && (s.gcuClaimClosing || s.gcuAttemptClosing)

/-- A stop notice waits: a close for GCU is in flight with the breaker CLOSING, or one has ended at this same cycle close, and
then the notice is taken at the next (R149, log 62). -/
def State.gcuNoticeWaits (s : State) : Bool := s.gcuCloseInFlight || s.gcu.heardNow && s.bcu.endedNow

/-- An attempt of GCU stands (R152). -/
def State.gcuAttemptStands (s : State) : Bool := s.syu.state != .idle && s.syu.owner == some .gcu

/-- Units that join a breaker found CLOSED (R149). -/
def joinsClosed (u : UnitState) : Bool :=
  u == .idle || u == .starting || u == .deadbus || u == .sync || u == .syncWait || u == .cooldown

/-- Units in the course of coming on line (R149, R157). -/
def comingOn (u : UnitState) : Bool := u == .starting || u == .deadbus || u == .sync || u == .syncWait

/-- The common tests in their order; `none` when none applies (R149). -/
def State.gcuCommon (s : State) : Option State :=
  let u := s.gcu.unit
  let b := s.breakerAtClose
  let on := u == .online || u == .unload
  if b == .failedOpen && u != .fail then some (s.gcuFail .bf)
  else if b == .closed && joinsClosed u then some (s.gcuCancel.gcuSet .online)
  else if (b == .opened || b == .opening) && on then some (s.gcuSet .cooldown)
  else if s.gcu.stopNotice && on && !s.gcuNoticeWaits then some (s.tripRequest.gcuSet .cooldown)
  else if s.gcu.stopNotice && comingOn u && !s.gcuNoticeWaits then some (s.gcuCancel.gcuSet .cooldown)
  else none

/-- STARTING at a later cycle close (R150). -/
def State.gcuStarting (s : State) : State :=
  if !s.gcu.demand then s.gcuSet .cooldown
  else if s.engineReady then
    match s.currentSet.busClass with
    | .dead => s.gcuEnterDeadbus
    | .live => s.gcuEnterSync
    | .indeterminate => s
  else
    let t := s.withGcu fun g => { g with startCount := g.startCount + 1 }
    if s.cfg.tStart.toNat ≤ s.gcu.startCount + 1 then t.gcuFail .startFail else t

/-- DEADBUS at a later cycle close; after an outcome, a refusal or a withdrawal at this same cycle close the next one applies
the tests (R151). -/
def State.gcuDeadbus (s : State) : State :=
  if s.gcuClaimClosing || s.gcu.heardNow then s
  else if !s.gcu.demand then (s.cancelClaim .gcu).gcuSet .cooldown
  else if !s.engineReady then (s.cancelClaim .gcu).gcuSet .starting
  else if s.currentSet.busClass = .live then (s.cancelClaim .gcu).gcuEnterSync
  else if s.clu.claim.any (fun c => c.origin == .gcu && !c.restore) then s
  else (s.cluRaise .gcu false s.cfg.ownSec).1

/-- SYNC at a later cycle close; after an answer or an ending at this same cycle close the next one applies the tests (R152). -/
def State.gcuSync (s : State) : State :=
  if s.gcuAttemptClosing || s.gcu.heardNow then s
  else if !s.gcu.demand then (s.cancelAttempt .gcu).gcuSet .cooldown
  else if !s.engineReady then (s.cancelAttempt .gcu).gcuSet .starting
  else if s.gcuAttemptStands then s
  else if s.currentSet.busClass = .dead then s.gcuEnterDeadbus
  else s.syuStart .gcu

/-- SYNC_WAIT at a later cycle close (R152). -/
def State.gcuSyncWait (s : State) : State :=
  if !s.gcu.demand then s.gcuSet .cooldown
  else if !s.engineReady then s.gcuSet .starting
  else
    let t := s.withGcu fun g => { g with retryCount := g.retryCount + 1 }
    if s.cfg.tRetry.toNat ≤ s.gcu.retryCount + 1 then t.gcuEnterSync else t

/-- ONLINE at a cycle close (R153). -/
def State.gcuOnline (s : State) : State :=
  if s.tru.mode = .auto ∧ s.gcu.demand = false ∧ s.top.own = .grid then
    (s.gcuSet .unload).withGcu fun g => { g with ramp := s.ownL }
  else s

/-- UNLOAD at a cycle close (R154). -/
def State.gcuUnload (s : State) : State :=
  if s.gcu.demand || s.top.own != .grid then s.gcuSet .online
  else if s.ownL ≤ (s.cfg.lOff.toNat : Int) then s.tripRequest.gcuSet .cooldown
  else
    let t := s.withGcu fun g => { g with unloadCount := g.unloadCount + 1 }
    if s.cfg.tUnload.toNat ≤ s.gcu.unloadCount + 1 then t.tripRequest.gcuSet .cooldown
    else t.withGcu fun g => { g with ramp := max (s.cfg.lOff.toNat : Int) (g.ramp - (s.cfg.ramp.toNat : Int)) }

/-- COOLDOWN at a later cycle close (R155). -/
def State.gcuCooldown (s : State) : State :=
  if s.breakerAtClose = .opened then
    if s.gcu.demand && !s.gcu.stopNotice then s.gcuSet .starting
    else
      let t := s.withGcu fun g => { g with coolCount := g.coolCount + 1 }
      if s.cfg.tCool.toNat ≤ s.gcu.coolCount + 1 then t.gcuSet .idle else t
  else s

/-- FAIL at a cycle close: a set whose engine has been stopped is kept off a closed breaker (R156). -/
def State.gcuFailed (s : State) : State :=
  if s.breakerAtClose = .opened ∨ s.breakerAtClose = .failedOpen then s else s.tripRequest

/-- The tests of the unit state (R150 to R156). IDLE is left on demand alone, a stop notice standing too or not: the model's
choice between R147 and R150 (log 55). -/
def State.gcuState (s : State) : State :=
  match s.gcu.unit with
  | .idle => if s.gcu.demand then s.gcuSet .starting else s
  | .starting => s.gcuStarting
  | .deadbus => s.gcuDeadbus
  | .sync => s.gcuSync
  | .syncWait => s.gcuSyncWait
  | .online => s.gcuOnline
  | .unload => s.gcuUnload
  | .cooldown => s.gcuCooldown
  | .fail => s.gcuFailed

/-- The unit state at a cycle close; a state entered at it is not tested again (R149). -/
def State.gcuTests (s : State) : State :=
  if s.gcu.enteredNow then s
  else match s.gcuCommon with
    | some t => t
    | none => s.gcuState

/-! ### Droop and bias mode (R158, R159) -/

/-- A station's usable record shows a generator (R159). -/
def State.usableGenerator (s : State) (k : Station) (p : BayRecord → Bool) : Bool :=
  s.usable k fun r => r.role == .generator && p r

/-- The last seen summaries of a cycle close (R159). -/
def State.gcuSeen (s : State) : Vector (Option Summary) 16 :=
  Vector.ofFn fun k =>
    match s.usableRec k with
    | some r => if r.role = .generator then some r.summary else s.gcu.lastSeen.get k
    | none => s.gcu.lastSeen.get k

/-- A generator of the own island that was CLOSED when last seen has fallen LOST (R159). -/
def State.peerLost (s : State) (k : Station) : Bool :=
  s.gcu.lastSeen.get k == some .closed && s.status k == .lost
    && (s.heldRec k).any fun r => r.role == .generator && r.inIsland s.top.map s.cfg.ownSec

/-- A CLOSED generator of the own island whose usable record is not VALID (R159). -/
def State.peerNotValid (s : State) (k : Station) : Bool :=
  s.usableGenerator k fun r => r.inIsland s.top.map s.cfg.ownSec && r.summary == .closed && r.meas != .valid

/-- The droop condition with its cause, NONE when it does not hold (R159). -/
def State.droopNow (s : State) : DroopCause :=
  if s.top.map = .unknown then .mapUnknown
  else match allStations.find? s.peerLost with
    | some k => .peerLost k
    | none =>
      match allStations.find? s.peerNotValid with
      | some k => .peerNotValid k
      | none => .none

/-- The bias mode of a cycle close (R158). -/
def modeOf (u : UnitState) (droop : Bool) (own : IslandState) : BiasMode :=
  match u with
  | .sync => .sync
  | .syncWait => .sync
  | .online => if droop then .droop else if own = .grid then .base else if own = .unknown then .droop else .isoch
  | .unload => if droop then .droop else .unload
  | _ => .off

/-! ### The bias arithmetic (R160 to R162) -/

/-- The generators that enter the averages: usable, of the own island, CLOSED (R160). -/
def State.sharing (s : State) : List BayRecord :=
  allStations.filterMap fun k =>
    match s.usableRec k with
    | some r => if r.role = .generator ∧ r.inIsland s.top.map s.cfg.ownSec = true ∧ r.summary = .closed then some r else none
    | none => none

/-- A list's average, truncated toward zero; `own` when it is empty (R160, R161). -/
def average (xs : List Int) (own : Int) : Int := if xs.isEmpty then own else divide (sumInt xs) xs.length

/-- The published L of a record (R160). -/
def publishedL (r : BayRecord) : Int :=
  match r.part with
  | .generator l _ _ _ => l.toInt
  | _ => 0

/-- The reactive fraction of a record, formed by the reader (R146). -/
def publishedLq (r : BayRecord) : Int :=
  match r.part with
  | .generator _ rated _ _ => loadFraction r.q.toInt rated.toNat
  | _ => 0

/-- L_avg (R160). -/
def State.lAvgNow (s : State) : Int := average (s.sharing.map publishedL) s.ownL

/-- LQ_avg (R161). -/
def State.lqAvgNow (s : State) : Int := average (s.sharing.map publishedLq) s.ownLq

/-- A gain term: a difference times a gain, shifted right (R160, R161). -/
def term (d : Int) (gain : Word) (shift : Nat) : Int := shiftRight (d * (gain.toNat : Int)) shift

/-- ΔS (R160); none in OFF and DROOP. -/
def State.speedStep (s : State) (m : BiasMode) : Option Int :=
  let r := s.currentSet
  match m with
  | .sync =>
    some (match s.syu.check.slip with
      | some x => term (clamp (-500) 500 (s.cfg.sTarget.toInt - x)) s.cfg.gS 6
      | none => 0)
  | .isoch =>
    some (term (s.gcu.lAvg - s.ownL) s.cfg.gL 12
      + (if r.fBus = 0 then 0 else term (clamp (-500) 500 (s.gcu.fRef - (r.fBus : Int))) s.cfg.gF 8))
  | .base => some (term ((s.cfg.lBase.toNat : Int) - s.ownL) s.cfg.gL 12)
  | .unload => some (term (s.gcu.ramp - s.ownL) s.cfg.gL 12)
  | .off => none
  | .droop => none

/-- ΔV (R161); none in OFF and DROOP. -/
def State.voltStep (s : State) (m : BiasMode) : Option Int :=
  let r := s.currentSet
  match m with
  | .sync => some (term (clamp (-4096) 4096 ((r.mag.va : Int) - (r.mag.vl : Int))) s.cfg.gV 8)
  | .isoch =>
    some (term (s.gcu.lqAvg - s.ownLq) s.cfg.gQ 12 + term (clamp (-1638) 1638 (16384 - (r.vMin : Int))) s.cfg.gU 8)
  | .base => some (term (0 - s.ownLq) s.cfg.gQ 12)
  | .unload => some (term (0 - s.ownLq) s.cfg.gQ 12)
  | .off => none
  | .droop => none

/-- A bias code after a cycle close: OFF sets it to 0, DROOP holds it, a correction is added and clamped (R162). -/
def biasAfter (m : BiasMode) (b : Int) (step : Option Int) : Int :=
  match m with
  | .off => 0
  | _ => match step with
    | some d => clamp (-2048) 2047 (b + d)
    | none => b

/-- The mode and the codes of a cycle close, after the unit state (R158 to R162). -/
def State.gcuBias (s : State) : State :=
  let cause := s.droopNow
  let m := modeOf s.gcu.unit (cause != .none) s.top.own
  let t := if m = .droop ∧ s.gcu.mode ≠ .droop then s.raise .droop else s
  t.withGcu fun g =>
    { g with mode := m, droopCause := cause, speed := biasAfter m g.speed (s.speedStep m),
             volt := biasAfter m g.volt (s.voltStep m) }

/-- What GCU forms from the image at a cycle close (R147, R159 to R161). -/
def State.gcuView (s : State) : State :=
  s.withGcu fun g =>
    { g with demand := s.demandNow, stopNotice := s.stopNow, fRef := s.fRefNow, lAvg := s.lAvgNow, lqAvg := s.lqAvgNow,
             lastSeen := s.gcuSeen }

/-- GCU at a cycle close (R145, R147 to R162). -/
def State.gcuClose (s : State) : State :=
  if s.cfg.isRole .generator then s.gcuView.gcuTests.gcuBias else s

/-- GCU presents an open at this cycle close, foretold from the state before it (R106, R149, R154, R156). -/
def State.gcuWillOpen (s : State) : Bool :=
  s.cfg.isRole .generator
    && (s.gcu.unit == .fail && s.bcu.state != .opened && s.bcu.state != .failedOpen
      || (s.gcu.unit == .online || s.gcu.unit == .unload) && s.bcu.state != .opened && s.bcu.state != .opening && s.stopNow)

end Sys2Proof.Machine
end

