-- ==== Sys2Proof/Machine/Feeder.lean ====
section
/-! DEFINITION. The Feeder Control Unit (R163 to R172): last load, capacity and shed order, the four shed tests, the restore
conditions and the breaker found closed. In a station that is no feeder it does nothing (chapter 10). -/

namespace Sys2Proof.Machine

/-! ### Load and capacity (R164, R165) -/

/-- −P clamped to 0..32767 (R164, R165). -/
def loadOf (p : Int) : Nat := (clamp 0 32767 (-p)).toNat

/-- The last load of a cycle close (R164). -/
def State.lastLoadNow (s : State) : Nat :=
  match s.usableRec s.cfg.own with
  | some r =>
    if r.summary = .closed ∧ r.meas = .valid ∧ s.currentSet.busClass = .live then loadOf r.p.toInt else s.fcu.lastLoad
  | none => s.fcu.lastLoad

/-- The island capacity C (R165). -/
def State.capacity (s : State) : Nat :=
  sumNat (allStations.map fun k =>
    match s.usableRec k with
    | some r =>
      match r.part with
      | .generator _ rated _ _ =>
        if r.inIsland s.top.map s.cfg.ownSec = true ∧ r.summary = .closed then rated.toNat else 0
      | _ => 0
    | none => 0)

/-- The counted load of a feeder's record (R165). -/
def countedLoad (r : BayRecord) : Nat :=
  match r.part with
  | .feeder _ _ st => if st = .normal ∧ r.summary = .closed then loadOf r.p.toInt else 0
  | _ => 0

/-- A usable feeder record of the own island (R165). -/
def State.islandFeeder (s : State) (k : Station) : Option BayRecord :=
  match s.usableRec k with
  | some r => if r.role = .feeder ∧ r.inIsland s.top.map s.cfg.ownSec = true then some r else none
  | none => none

/-- A feeder stands before the own one in the shed order: a lower (priority, station) (R165). -/
def State.standsBefore (s : State) (k : Station) (r : BayRecord) : Bool :=
  decide (priorityOf r < s.cfg.priority.toNat) || priorityOf r == s.cfg.priority.toNat && decide (k < s.cfg.own)

/-- The feeders of the island before the own one. -/
def State.feedersBefore (s : State) : List BayRecord :=
  allStations.filterMap fun k =>
    match s.islandFeeder k with
    | some r => if k ≠ s.cfg.own ∧ s.standsBefore k r = true then some r else none
    | none => none

/-- The own counted load, from the own entry (R165). -/
def State.ownCounted (s : State) : Nat := ((s.islandFeeder s.cfg.own).map countedLoad).getD 0

/-- Capacity, limit, own cumulative load and own place, none while the map is UNKNOWN (R165). While the own entry is not usable
the own feeder is placed by its configured priority and number, with a counted load of 0: the model's choice (log 58). -/
def State.feederView (s : State) : Option FeederView :=
  if s.top.map = .unknown then none
  else some { capacity := s.capacity, limit := s.capacity * s.cfg.margin.toNat / 4096,
              cumulative := sumNat (s.feedersBefore.map countedLoad) + s.ownCounted,
              position := s.feedersBefore.length + 1 }

/-! ### Shed tests (R166 to R169) -/

/-- The shed tests act in NORMAL with the breaker CLOSED. -/
def State.shedActs (s : State) : Bool := s.fcu.state == .normal && s.bcu.state == .closed

/-- The own cumulative load exceeds the limit in a GENSET island (R166). -/
def State.overLimit (s : State) : Bool :=
  s.shedActs && s.top.own == .genset && s.fcu.view.any fun v => decide (v.limit < v.cumulative)

/-- f_bus is below a stage's pickup, for a stage at or below the own priority (R167). -/
def State.underStage (s : State) (st : Stage) : Bool :=
  decide ((s.cfg.stage st).threshold.toNat ≤ s.cfg.priority.toNat) && s.shedActs && s.currentSet.meas == .valid
    && s.currentSet.fBus != 0 && decide (s.currentSet.fBus < (s.cfg.stage st).pickup.toNat)

/-- The own island is DEAD, for a priority at or above P_dead (R168). -/
def State.deadIsland (s : State) : Bool :=
  decide (s.cfg.pDead.toNat ≤ s.cfg.priority.toNat) && s.shedActs && s.top.own == .dead

/-- The counts of a cycle close; the reshed guard holds the over count at 0 (R166 to R168). -/
def State.fcuCounts (s : State) : State :=
  s.withFcu fun f =>
    { f with
      overCount := if 0 < f.guard then 0 else if s.overLimit then satInc 2 f.overCount else 0,
      guard := f.guard - 1,
      stage1 := if s.underStage .one then f.stage1 + 1 else 0,
      stage2 := if s.underStage .two then f.stage2 + 1 else 0,
      dead := if s.deadIsland then satInc 2 f.dead else 0 }

/-- The reason of a shed that is due: the first of the four whose count has reached (R169). -/
def State.shedDue (s : State) : Option ShedReason :=
  if s.fcu.overCount = 2 then some .capacity
  else if s.cfg.stage1.delay.toNat ≤ s.fcu.stage1 ∧ s.fcu.stage1 ≠ 0 then some .underfreq1
  else if s.cfg.stage2.delay.toNat ≤ s.fcu.stage2 ∧ s.fcu.stage2 ≠ 0 then some .underfreq2
  else if s.fcu.dead = 2 then some .deadbus
  else none

/-- A shed (R169). -/
def State.shed (s : State) (r : ShedReason) : State :=
  (s.tripRequest.withFcu fun f =>
    { f with state := .shed, reason := r, held := f.lastLoad, overCount := 0, stage1 := 0, stage2 := 0, dead := 0 }).raise .shed

/-! ### Restoration (R170, R172) -/

/-- The stage of an under-frequency reason (R170). -/
def stageOf : ShedReason → Option Stage
  | .underfreq1 => some .one
  | .underfreq2 => some .two
  | _ => none

/-- The fourth restore condition (R170). -/
def State.frequencyBack (s : State) : Bool :=
  match stageOf s.fcu.reason with
  | none => true
  | some st =>
    s.currentSet.meas == .valid && s.currentSet.fBus != 0
      && decide ((s.cfg.stage st).pickup.toNat ≤ s.currentSet.fBus)

/-- The restore conditions (R170). Condition 2 reads the breaker as it stood before a close request accepted at this same cycle
close, be it CLU's restore request or SYU's for an operator: the model's choice (log 15). -/
def State.restoreConditions (s : State) : Bool :=
  s.tru.mode == .auto && s.breakerAtClose == .opened
    && (s.top.own == .grid
        || s.top.own == .genset && s.fcu.view.any fun v => decide (v.cumulative + s.fcu.held ≤ v.limit))
    && s.frequencyBack

/-- A restore close is in flight. -/
def State.restoreInFlight (s : State) : Bool := s.clu.inFlight.any fun f => f.kind == .restore

/-- A restore close is in flight from an earlier cycle close: one requested at this cycle close and the test of RESTORING act
alike whichever is taken first (R170). -/
def State.restoreTravels (s : State) : Bool := s.restoreInFlight && !s.bcu.acceptedNow

/-- SHED and RESTORING at a cycle close (R170); a SHED that an answer of this cycle close has made is tested at the next
(R171). -/
def State.fcuRestore (s : State) : State :=
  match s.fcu.state with
  | .shed =>
    if s.restoreConditions && !s.fcu.heardNow then
      match s.cluRaise .fcu true s.cfg.ownSec with
      | (t, .raised) => t.withFcu fun f => { f with state := .restoring }
      | (t, _) => t
    else s
  | .restoring =>
    if s.restoreTravels || s.restoreConditions then s
    else (s.cancelClaim .fcu).withFcu fun f => { f with state := .shed }
  | _ => s

/-- A breaker found CLOSED returns the feeder to NORMAL (R172). -/
def State.foundClosed (s : State) : Bool :=
  s.bcu.state == .closed
    && (s.fcu.state == .shed || s.fcu.state == .manualOpen || s.fcu.state == .restoring && !s.restoreInFlight)

/-- The operator open pending of a cycle close (R172). -/
def State.fcuOperator (s : State) : State :=
  if s.fcu.openPending then
    (s.cancelClaim .fcu).tripRequest.withFcu fun f => { f with openPending := false }
  else s

/-- FCU at a cycle close (R164 to R172). The counts read the state as it stands before a breaker found CLOSED returns it to
NORMAL, and a pending operator open trips before that test: the model's choice (log 56). -/
def State.fcuClose (s : State) : State :=
  if s.cfg.isRole .feeder then
    let t := s.withFcu fun f => { f with lastLoad := s.lastLoadNow, view := s.feederView }
    let u := t.fcuOperator.fcuCounts
    match u.shedDue with
    | some r => u.shed r
    | none =>
      if u.foundClosed then u.withFcu fun f => { f.toNormal with cause := .none }
      else u.fcuRestore
  else s

/-- The count of a stage (R167). -/
def Fcu.stageCount (f : Fcu) : Stage → Nat
  | .one => f.stage1
  | .two => f.stage2

end Sys2Proof.Machine
end

