-- ==== Sys2Proof/Machine/Transfer.lean ====
section
/-! DEFINITION. The Transfer Unit (R173 to R188): utility health, the incomer's states in AUTO, derivation, and the tie. In a
generator or a feeder it holds the mode alone (R173). -/

namespace Sys2Proof.Machine

/-! ### Utility health (R174) -/

/-- The health of a result set (R174). -/
def healthOf (c : Settings) (r : ResultSet) : Bool :=
  r.meas == .valid && decide (c.vULo.toNat ≤ r.mag.vl) && decide (r.mag.vl ≤ c.vUHi.toNat)
    && decide (c.fULo.toNat ≤ r.fLine) && decide (r.fLine ≤ c.fUHi.toNat)

/-- Health, whether it was judged, and the healthy run at a cycle close of an incomer (R174). -/
def State.truHealth (s : State) : State :=
  if s.cfg.isRole .incomer then
    let r := s.currentSet
    let ok := healthOf s.cfg r
    s.withTru fun t =>
      { t with healthy := ok, judged := r.meas == .valid, healthLine := r.fLine,
               run := if r.meas = .valid then (if ok then satInc 65535 t.run else 0) else t.run }
  else s

/-- Judged healthy (R174). -/
def State.utilityHealthy (s : State) : Bool := s.tru.judged && s.tru.healthy

/-- Judged unhealthy (R174). -/
def State.utilityUnhealthy (s : State) : Bool := s.tru.judged && !s.tru.healthy

/-! ### Claims and attempts of TRU (R176) -/

/-- A TRU claim stands. -/
def State.truClaims (s : State) : Bool := s.clu.claim.any fun c => c.origin == .tru

/-- A close of a TRU claim is in flight. -/
def State.truClosing (s : State) : Bool := s.clu.inFlight.any fun f => f.origin == .tru

/-- A TRU attempt stands. -/
def State.truAttempts (s : State) : Bool := s.syu.state != .idle && s.syu.owner == some .tru

/-- TRU raises a DEAD_BUS claim for a section (R119). -/
def State.truRaise (s : State) (x : Sec) : State := (s.cluRaise .tru false x).1

/-- A TRU claim is cancelled unless its close is in flight (R179, R183). -/
def State.truCancelUnlessClosing (s : State) : State := if s.truClosing then s else s.cancelClaim .tru

/-- RESYNC is entered and SYU handed a start (R181). -/
def State.truEnterResync (s : State) : State := (s.truLeave .resync).syuStart .tru

/-! ### The states of an incomer in AUTO (R177 to R183) -/

/-- NORMAL (R177). -/
def State.truNormal (s : State) : State :=
  if s.breakerAtClose = .opened then s.truLeave .deadWait
  else if s.utilityUnhealthy then s.truLeave .lossConfirm
  else s

/-- LOSS_CONFIRM (R177). -/
def State.truLossConfirm (s : State) : State :=
  if s.breakerAtClose = .opened then s.truLeave .deadWait
  else if s.utilityHealthy then s.truLeave .normal
  else if s.utilityUnhealthy then
    let t := s.withTru fun t => { t with lossCount := t.lossCount + 1 }
    if s.cfg.tLoss.toNat ≤ s.tru.lossCount + 1 then t.tripRequest.truLeave .isolating else t
  else s

/-- ISOLATING (R178). -/
def State.truIsolating (s : State) : State :=
  if s.breakerAtClose = .opened then s.truLeave .deadWait else s.tripRequest

/-- The fourth test of DEAD_WAIT (R179). -/
def State.truMayReturn (s : State) : Bool :=
  !s.truClaims && !s.tru.hold && decide (s.cfg.tReturnShort.toNat ≤ s.tru.run) && s.currentSet.busClass == .dead

/-- DEAD_WAIT (R179). -/
def State.truDeadWait (s : State) : State :=
  if s.top.own = .genset ∨ s.top.own = .grid then s.truLeave .onAlternate
  else if s.bcu.state = .closed then s.truLeave .normal
  else
    let t := if s.utilityUnhealthy then s.truCancelUnlessClosing else s
    if t.truMayReturn then t.truRaise s.cfg.ownSec else t

/-- ON_ALTERNATE (R180). -/
def State.truOnAlternate (s : State) : State :=
  if s.top.own = .dead then s.truLeave .deadWait
  else if s.bcu.state = .closed then s.truLeave .parallel
  else if s.utilityHealthy && !s.tru.hold then s.truLeave .returnWait
  else s

/-- RETURN_WAIT (R180); an unjudged cycle close leaves the return count standing. -/
def State.truReturnWait (s : State) : State :=
  if s.top.own = .dead then s.truLeave .deadWait
  else if s.bcu.state = .closed then s.truLeave .parallel
  else if s.utilityUnhealthy || s.tru.hold then s.truLeave .onAlternate
  else if s.tru.judged then
    let t := s.withTru fun t => { t with returnCount := t.returnCount + 1 }
    if s.cfg.tReturn.toNat ≤ s.tru.returnCount + 1 then t.truEnterResync else t
  else s

/-- The resync count has run out (R181). -/
def State.truResyncOut (s : State) : State :=
  if s.cfg.openTransition then s.truLeave .openReturn
  else (s.truLeave .onAlternate).withTru fun t => { t with hold := true }

/-- RESYNC (R181): the tests, then a start where no TRU attempt stands; after an ending at this same cycle close the start
follows at the next. -/
def State.truResync (s : State) : State :=
  if s.top.own = .dead then s.truLeave .deadWait
  else if s.bcu.state = .closed then s.truLeave .parallel
  else if s.utilityUnhealthy then s.truLeave .onAlternate
  else if s.syu.state = .closing ∧ s.syu.owner = some .tru then s
  else
    let t := s.withTru fun t => { t with resyncCount := t.resyncCount + 1 }
    if s.cfg.tResync.toNat ≤ s.tru.resyncCount + 1 then t.truResyncOut
    else if t.truAttempts || t.tru.heardNow then t else t.syuStart .tru

/-- A generator of the own island or the tie still shows a summary of the closed group (R182). While the tie identity is
CONFLICT every usable tie candidate counts as the tie: the model's choice (log 59). -/
def State.alternateClosed (s : State) : Bool :=
  s.anyUsable fun r =>
    closedGroup r.summary && (r.role == .generator && r.inIsland s.top.map s.cfg.ownSec || r.tieCandidate)

/-- The parallel count of a cycle close; at t_parallel_max the parallel-timeout flag is set (R182). -/
def State.truParallelTick (s : State) : State :=
  s.withTru fun t =>
    { t with parallelCount := min s.cfg.tParallelMax.toNat (t.parallelCount + 1),
             parallelTimeout := t.parallelTimeout || decide (s.cfg.tParallelMax.toNat ≤ t.parallelCount + 1) }

/-- PARALLEL (R182). -/
def State.truParallel (s : State) : State :=
  if s.bcu.state ≠ .closed then s.truLeave .onAlternate
  else if s.utilityUnhealthy then s.tripRequest.truLeave .onAlternate
  else if !s.alternateClosed then s.truLeave .normal
  else s.truParallelTick

/-- OPEN_RETURN (R183). -/
def State.truOpenReturn (s : State) : State :=
  if s.utilityUnhealthy then
    (if s.truClosing then s.truSet .deadWait else s.truLeave .deadWait)
  else if s.bcu.state = .closed then s.truLeave .normal
  else if !s.truClaims && s.top.own == .dead && s.currentSet.busClass == .dead then s.truRaise s.cfg.ownSec
  else s

/-- The tests of an incomer; lockout first, and then those of its state, unless it was entered at this cycle close (R176). -/
def State.truIncomerState (s : State) : State :=
  if s.tru.state = .manual ∨ s.tru.state = .halted then s
  else if s.dbu.lockout then s.truLeave .halted
  else if s.tru.enteredNow then s
  else match s.tru.state with
    | .normal => s.truNormal
    | .lossConfirm => s.truLossConfirm
    | .isolating => s.truIsolating
    | .deadWait => s.truDeadWait
    | .onAlternate => s.truOnAlternate
    | .returnWait => s.truReturnWait
    | .resync => s.truResync
    | .parallel => s.truParallel
    | .openReturn => s.truOpenReturn
    | _ => s

/-! ### Derivation (R184) -/

/-- The state an incomer derives, none while derivation stays pending (R184). -/
def State.derivedIncomer (s : State) : Option TransferState :=
  if s.dbu.lockout then some .halted
  else if s.currentSet.meas ≠ .valid then none
  else match s.bcu.state with
    | .closed => some (if s.tru.healthy then .normal else .lossConfirm)
    | .opened =>
      match s.top.own with
      | .grid => some .onAlternate
      | .genset => some .onAlternate
      | .dead => some .deadWait
      | .unknown => none
    | _ => none

/-- The state a tie derives (R184). -/
def State.derivedTie (s : State) : Option TransferState :=
  if s.cfg.tieTransfer && s.bcu.state == .opened && !s.dbu.lockout then some .tieOpen else none

/-- A pending derivation at a cycle close (R184). -/
def State.truDerive (s : State) : State :=
  match (if s.cfg.isRole .tie then s.derivedTie else s.derivedIncomer) with
  | some x => (s.truSet x).withTru fun t => { t with derive := false }
  | none => s

/-! ### The tie (R187, R188) -/

/-- A usable incomer record of section x carries a transfer state. -/
def State.incomerIn (s : State) (x : Sec) (st : TransferCode) : Bool :=
  s.anyUsable fun r => r.role == .incomer && r.sect == some x && r.transfer == st

/-- The entry conditions of TIE_CLAIM(x), the breaker's apart (R187). -/
def State.tieEntry (s : State) (x : Sec) : Bool :=
  !s.dbu.lockout && s.incomerIn x .deadWait && s.top.state x.other == .grid && s.incomerIn x.other .normal
    && !s.top.locked1 && !s.top.locked2

/-- TIE_OPEN (R187): the state stays where both sections meet the conditions. -/
def State.tieOpenTests (s : State) : State :=
  if s.bcu.state = .opened then
    match s.tieEntry .one, s.tieEntry .two with
    | true, false => (s.truLeave (.tieClaim .one)).truRaise .one
    | false, true => (s.truLeave (.tieClaim .two)).truRaise .two
    | _, _ => s
  else s

/-- TIE_CLAIM(x) (R187). After an outcome or a withdrawal at this same cycle close it is tested at the next. -/
def State.tieClaimTests (s : State) (x : Sec) : State :=
  if s.clu.inFlight.isSome || s.tru.heardNow then s
  else if !s.tieEntry x then s.truLeave .tieOpen
  else if s.truClaims then s
  else s.truRaise x

/-- The usable record of the incomer of a section (R188). -/
def State.incomerRec (s : State) (x : Sec) : Option BayRecord :=
  (allStations.filterMap s.usableRec).find? fun r => r.role == .incomer && r.sect == some x

/-- An incomer's record shows utility health HEALTHY. -/
def showsHealthy (r : BayRecord) : Bool :=
  match r.part with
  | .incomer h _ _ => h
  | _ => false

/-- The section's own utility has taken it back or asks for an open return, or the other source has failed (R188). -/
def State.tieShouldOpen (s : State) (x : Sec) : Bool :=
  ((s.incomerRec x).any fun r => r.transfer == .parallel || r.transfer == .normal || r.transfer == .openReturn)
    || !((s.incomerRec x.other).any fun r => showsHealthy r && r.transfer == .normal)

/-- TIE_FEEDING(x) (R188). -/
def State.tieFeedingTests (s : State) (x : Sec) : State :=
  if s.bcu.state ≠ .closed then s.truLeave .tieOpen
  else if s.tieShouldOpen x then s.tripRequest.truLeave .tieOpen
  else s

/-- The tests of a tie in AUTO whose transfer is enabled (R187, R188). -/
def State.truTieState (s : State) : State :=
  if s.cfg.tieTransfer then
    match s.tru.state with
    | .tieOpen => s.tieOpenTests
    | .tieClaim x => s.tieClaimTests x
    | .tieFeeding x => s.tieFeedingTests x
    | _ => s
  else s

/-! ### TRU at a cycle close -/

/-- The tests of the transfer state in AUTO; a state entered at a cycle close is not tested again (R176, R184, R187). -/
def State.truTests (s : State) : State :=
  if s.tru.mode = .auto then
    let t := if s.cfg.isRole .incomer then s.truIncomerState
      else if s.cfg.isRole .tie && !s.tru.enteredNow then s.truTieState
      else s
    if t.tru.derive then t.truDerive else t
  else s

/-- The resync reference of a cycle close in RESYNC or PARALLEL after the one that entered RESYNC. The cycle close that enters
PARALLEL takes it too, from RESYNC as from ON_ALTERNATE or RETURN_WAIT: the model's choice (R175, log 43). -/
def State.truReference (s : State) : State :=
  if resyncStands s.tru.state = true ∧ ¬(s.tru.state = .resync ∧ s.tru.enteredNow = true) ∧ s.currentSet.fLine ≠ 0 then
    s.withTru fun t => { t with reference := s.currentSet.fLine }
  else s

/-- TRU at a cycle close (R174 to R188). -/
def State.truClose (s : State) : State :=
  if s.cfg.isRole .incomer || s.cfg.isRole .tie then s.truTests.truReference.truReflag else s

/-- TRU presents a sequence open at this cycle close, foretold from the state before it (R106, R177, R178, R182, R188). -/
def State.truWillOpen (s : State) : Bool :=
  s.tru.mode == .auto && s.bcu.state != .opened
    && match s.tru.state with
      | .isolating => true
      | .lossConfirm => decide (s.cfg.tLoss.toNat ≤ s.tru.lossCount + 1) && s.utilityUnhealthy
      | .parallel => s.bcu.state == .closed && s.utilityUnhealthy
      | .tieFeeding x => s.bcu.state == .closed && s.cfg.tieTransfer && s.tieShouldOpen x
      | _ => false

end Sys2Proof.Machine
end

