-- ==== Sys2Proof/Machine/Close.lean ====
section
/-! DEFINITION. CYCLE_CLOSE (R26, R52): what every block reads is formed first from the image and the result set of the
closing cycle, then the blocks are taken in the order the command gives (log 2), then the next cycle begins. -/

namespace Sys2Proof.Machine

/-- TOP's results of this cycle close (R55 to R61), the lockout views with the own flag after its settings (R60). -/
def State.topClose (s : State) : State :=
  let t := { s with top := s.formTopology s.dbu.lockout }
  { t with top := t.formTopology t.lockoutAfter }

/-- A trip request is made at this cycle close by a block not yet taken (R106). -/
def State.willTrip (s : State) : Bool :=
  s.fnActive .extTrip || s.dbuWillTrip || s.gcuWillOpen || s.cfg.isRole .feeder && s.fcu.openPending || s.truWillOpen

/-- The marks of what happened at an earlier cycle close or since are cleared (log 9). -/
def State.clearMarks (s : State) : State :=
  (((((s.withBcu fun b => { b with acceptedNow := false, trippedNow := false, endedNow := false }).withClu fun u =>
    { u with raisedNow := false }).withSyu fun y =>
      { y with startedNow := false }).withGcu fun g =>
        { g with enteredNow := false, heardNow := false }).withFcu fun f => { f with heardNow := false }).withTru fun t =>
          { t with enteredNow := false, heardNow := false }

/-- The check record of this cycle close (R136). -/
def State.checkClose (s : State) : State := s.withSyu fun y => { y with check := s.formCheck }

/-- The trip requests of this cycle close are foretold for BCU's third condition (R106). -/
def State.foretell (s : State) : State := s.withBcu fun b => { b with trippedNow := s.willTrip }

/-- What the blocks of a cycle close read, formed before any of them acts: the link's lists and counts, ROCOF, TOP, the
check record, the utility health, and the trip requests to come. -/
def State.formClose (s : State) : State :=
  s.clearMarks.linkClose.msuClose.topClose.checkClose.truHealth.foretell

/-- One block of a cycle close; `s0` is the state the blocks start from, formed before any of them acts. -/
def State.closeBlock (s s0 : State) (b : CloseBlock) : State :=
  match b with
  | .pru => s.pruClose
  | .dbu => s.dbuClose s0
  | .bcuCounts => s.bcuCounts s0
  | .bcuDrop => s.bcuDrop s0
  | .bcuTrip => s.bcuExtTrip
  | .clu => s.cluClose
  | .syu => s.syuClose
  | .gcu => s.gcuClose
  | .fcu => s.fcuClose
  | .tru => s.truClose

/-- The blocks of a cycle close in an order. -/
def State.closeBlocks (s s0 : State) (o : List CloseBlock) : State :=
  (orderOver allBlocks o).foldl (fun t b => t.closeBlock s0 b) s

/-- A cycle close (R26). -/
def State.cycleClose (s : State) (o : List CloseBlock) : State :=
  (s.formClose.closeBlocks s.formClose o).withLkc Lkc.advance

/-- CYCLE_CLOSE (R26). The moment at which cycle 0 begins is no cycle close: the cycle begins, and nothing else happens. A relock
before it leaves that moment to come: the model's choice (log 26). -/
def execCycleClose (o : List CloseBlock) (s : State) : Host.Outcome State Fault Refusal :=
  .next
    (if s.running then
      if s.lkc.preCycle then s.withLkc Lkc.begin else s.cycleClose o
    else s)

end Sys2Proof.Machine
end

