-- ==== Sys2Proof/Machine/Expiry.lean ====
section
/-! DEFINITION. The rows that stand for the last tick of one count at a cycle close (log 11): each reads what its cycle close
forms (TOP's results, the check record, the utility health, the trip requests to come), makes what its rule says, and leaves
those results standing as the last CYCLE_CLOSE formed them (R61). -/

namespace Sys2Proof.Machine

/-! ### What a row reads -/

/-- The state as a cycle close forms it now, before any block acts: TOP from the image as it stands with the own lockout flag
after its settings (R60), the check record (R136), the utility health (R174) and the trip requests to come (R106). -/
def State.atClose (s : State) : State := s.clearMarks.topClose.checkClose.truHealth.foretell

/-- What the last CYCLE_CLOSE formed stands again: TOP's results (R61), the check record, the utility health with its run, and
the marks of a cycle close. -/
def State.standing (t s : State) : State :=
  { t with
    top := s.top,
    bcu := { t.bcu with
      acceptedNow := s.bcu.acceptedNow, trippedNow := s.bcu.trippedNow, endedNow := s.bcu.endedNow },
    clu := { t.clu with raisedNow := s.clu.raisedNow },
    syu := { t.syu with
      check := s.syu.check, startedNow := s.syu.startedNow },
    gcu := { t.gcu with enteredNow := s.gcu.enteredNow, heardNow := s.gcu.heardNow },
    fcu := { t.fcu with heardNow := s.fcu.heardNow },
    tru := { t.tru with
      enteredNow := s.tru.enteredNow, heardNow := s.tru.heardNow, healthy := s.tru.healthy, judged := s.tru.judged, healthLine := s.tru.healthLine,
      run := s.tru.run } }

/-! ### The differential (R89, R91) -/

/-- The trip of a section, its count and its last evaluation (R89). -/
def State.lastConfirm (s : State) (x : Sec) : State :=
  let n := confirmAfter (s.dbu.diff x).confirm (s.evaluateSection x)
  let t := s.withDbu fun d => d.setDiff x fun y => { y with confirm := n, last := s.evaluateSection x }
  let u := if (s.dbu.diff x).confirm = 0 then t.trigger .diff else t
  u.diffTrip x

/-- DIFFERENTIAL_TRIP (R89): the confirm count of section x reaches D. -/
def execDifferentialTrip (x : Sec) (s : State) : Host.Outcome State Fault Refusal :=
  .next
    (let t := s.atClose
     if s.running && s.cfg.belongs x && t.sectionTrips x then (t.lastConfirm x).standing s else s)

/-- ZONE_BLOCKED (R91): the zone-blocked count of section x reaches 3. -/
def execZoneBlocked (x : Sec) (s : State) : Host.Outcome State Fault Refusal :=
  .next
    (if s.running && s.cfg.belongs x && (s.dbu.diff x).blocked != 3
        && blockedAfter (s.dbu.diff x).blocked (s.atClose.evaluateSection x) s.lkc.link == 3 then
      (s.withDbu fun d => d.setDiff x fun y => { y with blocked := 3 }).raise .zoneBlocked
    else s)

/-! ### The operator claim (R126) -/

/-- OPERATOR_CLAIM_EXPIRY (R126): the operator claim's age reaches 4 at a cycle close that makes no close request for it and
withdraws it for nothing else (R120, R122). -/
def execOperatorClaimExpiry (s : State) : Host.Outcome State Fault Refusal :=
  .next
    (let t := s.atClose.cluActs
     if s.running && t.operatorClaim && !t.clu.raisedNow && t.clu.inFlight.isNone && decide (4 ≤ t.clu.age + 1) then
       (s.withClu fun u => { u with age := 4 }).cluWithdraw .expired
     else s)

/-! ### The restore delay (R128, R129) -/

/-- RESTORE_DELAY_EXPIRY (R128): where, with the feeder closes observed at this cycle close, the island's restore delay has run
out, the restore winner makes its request (R129). -/
def execRestoreDelayExpiry (s : State) : Host.Outcome State Fault Refusal :=
  .next
    (let t := s.atClose.cluTrack
     if s.running && t.restoreDelayOut s.cfg.ownSec then t.cluRestore.standing s else s)

/-! ### The supervision of an attempt (R140) -/

/-- The cycle close counts for the supervision: the attempt is in CHECKING, no ending test of the cycle close ends it first,
and the check fails (R138, R140, R141). -/
def State.syncTicks (s : State) : Bool :=
  s.running && s.syu.state == .checking && !(s.dbu.lockout || s.top.ownLocked s.cfg) && !sideDead s.currentSet
    && !s.syu.check.passes

/-- SYNC_SUPERVISION_EXPIRY (R140): the supervision count reaches t_sync_max at a cycle close whose check fails. -/
def execSyncSupervisionExpiry (s : State) : Host.Outcome State Fault Refusal :=
  .next
    (let t := s.atClose
     if t.syncTicks && decide (s.cfg.tSyncMax.toNat ≤ s.syu.supervision + 1) then
       ((t.withSyu fun y => { y with supervision := s.cfg.tSyncMax.toNat }).syncExpire).standing s
     else s)

/-! ### The unit states (R150 to R155) -/

/-- A unit's later cycle close in RUN: a generator in that state, for which no common test applies (R149). -/
def State.gcuTicks (s : State) (u : UnitState) : Bool :=
  s.running && s.cfg.isRole .generator && s.gcu.unit == u && s.gcuView.gcuCommon.isNone

/-- START_FAIL (R150): the start count reaches t_start with the engine not ready. -/
def execStartFail (s : State) : Host.Outcome State Fault Refusal :=
  .next
    (let t := s.atClose
     if t.gcuTicks .starting && t.demandNow && !s.engineReady && decide (s.cfg.tStart.toNat ≤ s.gcu.startCount + 1) then
       ((t.withGcu fun g => { g with startCount := s.cfg.tStart.toNat }).gcuFail .startFail).standing s
     else s)

/-- RETRY_EXPIRY (R152): the retry count reaches t_retry in SYNC_WAIT. -/
def execRetryExpiry (s : State) : Host.Outcome State Fault Refusal :=
  .next
    (let t := s.atClose
     if t.gcuTicks .syncWait && t.demandNow && s.engineReady && decide (s.cfg.tRetry.toNat ≤ s.gcu.retryCount + 1) then
       (t.withGcu fun g => { g with retryCount := s.cfg.tRetry.toNat }).gcuEnterSync.standing s
     else s)

/-- UNLOAD_EXPIRY (R154): the unload count reaches t_unload. -/
def execUnloadExpiry (s : State) : Host.Outcome State Fault Refusal :=
  .next
    (let t := s.atClose
     if t.gcuTicks .unload && !t.demandNow && t.top.own == .grid && decide ((s.cfg.lOff.toNat : Int) < s.ownL)
         && decide (s.cfg.tUnload.toNat ≤ s.gcu.unloadCount + 1) then
       ((t.withGcu fun g => { g with unloadCount := s.cfg.tUnload.toNat }).tripRequest.gcuSet .cooldown).standing s
     else s)

/-- COOL_EXPIRY (R155): the cool count reaches t_cool. -/
def execCoolExpiry (s : State) : Host.Outcome State Fault Refusal :=
  .next
    (let t := s.atClose
     if t.gcuTicks .cooldown && s.bcu.state == .opened && !(t.demandNow && !t.stopNow)
         && decide (s.cfg.tCool.toNat ≤ s.gcu.coolCount + 1) then
       ((t.withGcu fun g => { g with coolCount := s.cfg.tCool.toNat }).gcuSet .idle).standing s
     else s)

/-! ### The sheds (R166 to R169) -/

/-- The guard of the three shed commands: a feeder in RUN. -/
def State.feederRuns (s : State) : Bool := s.running && s.cfg.isRole .feeder

/-- The last load and the view of a cycle close (R164, R165). -/
def State.fcuView (s : State) : State := s.withFcu fun f => { f with lastLoad := s.lastLoadNow, view := s.feederView }

/-- The one shed of a cycle close, whose reason is the first of the four whose count reaches at it: that of the row that makes
it or an earlier one (R169). -/
def State.firstShed (s : State) : State :=
  match s.fcuCounts.shedDue with
  | some r => s.shed r
  | none => s

/-- CAPACITY_SHED (R166): the over count reaches 2. -/
def execCapacityShed (s : State) : Host.Outcome State Fault Refusal :=
  .next
    (let t := s.atClose.fcuView
     if t.feederRuns && s.fcu.guard == 0 && t.overLimit && decide (2 ≤ s.fcu.overCount + 1) then t.firstShed.standing s else s)

/-- UNDERFREQ_SHED (R167): the count of a stage reaches its delay. -/
def execUnderfreqShed (st : Stage) (s : State) : Host.Outcome State Fault Refusal :=
  .next
    (let t := s.atClose.fcuView
     if t.feederRuns && s.underStage st && decide ((s.cfg.stage st).delay.toNat ≤ s.fcu.stageCount st + 1) then
       t.firstShed.standing s
     else s)

/-- DEADBUS_SHED (R168): the dead count reaches 2. -/
def execDeadbusShed (s : State) : Host.Outcome State Fault Refusal :=
  .next
    (let t := s.atClose.fcuView
     if t.feederRuns && t.deadIsland && decide (2 ≤ s.fcu.dead + 1) then t.firstShed.standing s else s)

/-! ### The transfer of an incomer (R177 to R182) -/

/-- An incomer's later cycle close in RUN in AUTO, in a given state, with lockout clear (R176). -/
def State.truTicks (s : State) (x : TransferState) : Bool :=
  s.running && s.cfg.isRole .incomer && s.tru.mode == .auto && s.tru.state == x && !s.dbu.lockout

/-- LOSS_CONFIRM_EXPIRY (R177): the loss count reaches t_loss. -/
def execLossConfirmExpiry (s : State) : Host.Outcome State Fault Refusal :=
  .next
    (let t := s.atClose
     if t.truTicks .lossConfirm && s.bcu.state != .opened && t.utilityUnhealthy
         && decide (s.cfg.tLoss.toNat ≤ s.tru.lossCount + 1) then
       ((t.withTru fun u => { u with lossCount := s.cfg.tLoss.toNat }).tripRequest.truLeave .isolating).standing s
     else s)

/-- RETURN_SHORT_EXPIRY (R179): the healthy run, counted at this cycle close, reaches t_return_short in DEAD_WAIT. -/
def execReturnShortExpiry (s : State) : Host.Outcome State Fault Refusal :=
  .next
    (let t := s.atClose
     if t.truTicks .deadWait && t.top.own != .genset && t.top.own != .grid && s.bcu.state != .closed && t.utilityHealthy
         && t.truMayReturn then
       ((t.truRaise s.cfg.ownSec).standing s).withTru fun u => { u with run := t.tru.run }
     else s)

/-- RETURN_EXPIRY (R180): the return count reaches t_return. -/
def execReturnExpiry (s : State) : Host.Outcome State Fault Refusal :=
  .next
    (let t := s.atClose
     if t.truTicks .returnWait && t.top.own != .dead && s.bcu.state != .closed && t.utilityHealthy && !s.tru.hold
         && decide (s.cfg.tReturn.toNat ≤ s.tru.returnCount + 1) then
       (t.withTru fun u => { u with returnCount := s.cfg.tReturn.toNat }).truEnterResync.standing s
     else s)

/-- RESYNC_EXPIRY (R181): the resync count reaches t_resync. -/
def execResyncExpiry (s : State) : Host.Outcome State Fault Refusal :=
  .next
    (let t := s.atClose
     if t.truTicks .resync && t.top.own != .dead && s.bcu.state != .closed && !t.utilityUnhealthy
         && !(s.syu.state == .closing && s.syu.owner == some .tru)
         && decide (s.cfg.tResync.toNat ≤ s.tru.resyncCount + 1) then
       (t.withTru fun u => { u with resyncCount := s.cfg.tResync.toNat }).truResyncOut.standing s
     else s)

/-- PARALLEL_TIMEOUT (R182): the parallel count reaches t_parallel_max. -/
def execParallelTimeout (s : State) : Host.Outcome State Fault Refusal :=
  .next
    (let t := s.atClose
     if t.truTicks .parallel && s.bcu.state == .closed && !t.utilityUnhealthy && t.alternateClosed
         && decide (s.cfg.tParallelMax.toNat ≤ s.tru.parallelCount + 1) then t.truParallelTick.standing s
     else s)

end Sys2Proof.Machine
end

