-- ==== Sys2Proof/Machine/Port.lean ====
section
/-! DEFINITION. The Configuration Port and Run Control (chapter 12): resets, START and STOP in every block, the operator
commands, acknowledges and writes. -/

namespace Sys2Proof.Machine

/-! ### Resets (R194) -/

/-- The lines' pins, which are outside the part, keep their levels (log 8). -/
def keepPins (ls : Vector LineState 8) : Vector LineState 8 :=
  Vector.ofFn fun i => { LineState.reset with high := (ls.get i).high }

/-- Every block at its power-on values; the waiting commands, the pin levels and the codes the interface converters hold
are outside the part (R194, log 8). -/
def State.afterReset (s : State) : State :=
  { State.reset with
    pending := s.pending, bcu := { Bcu.reset with lines := keepPins s.bcu.lines },
    cvp := { Cvp.reset with speedSent := s.cvp.speedSent, voltSent := s.cvp.voltSent } }

/-! ### START in every block (R194) -/

/-- CVP at START (R2, R3, R5). -/
def Cvp.start (c : Cvp) : Cvp := { Cvp.reset with speedSent := c.speedSent, voltSent := c.voltSent }

/-- LKC at START: LISTEN, unlocked, the timer one sample period before cycle 0 plus the offset, and the first strobe owed as
the phasor instant of cycle 0 (R1, R26, R29). -/
def Lkc.start (l : Lkc) (c : Settings) : Lkc :=
  { Lkc.reset with
    link := .listen, unlocked := true, timer := gridPosition c 0, preCycle := true, phasorOwed := true, selfTimed := false,
    crcError := l.crcError, slotMismatch := l.slotMismatch, late := l.late, duplicateSeen := l.duplicateSeen,
    referenceMissing := l.referenceMissing }

/-- A Peer Image entry at START (R47). -/
def startEntry (c : Settings) (k : Station) : Entry :=
  { record := none, accepted := 0, expected := StationSet.has c.peerMask k, crcErrors := 0 }

/-- PRU at START and STOP: every element QUIET, trip active clear; groups and operation list kept (R63, R69, R70, R83). -/
def Pru.quiesce (p : Pru) : Pru := { p with elements := Eight.ofFn fun _ => .quiet, tripActive := false }

/-- DBU at START and STOP: counts, timer and notice cleared, lockout kept (R92, R93, R95, R96, R99). -/
def Dbu.quiesce (d : Dbu) : Dbu := { Dbu.reset with lockout := d.lockout, lockoutSource := d.lockoutSource }

/-- BCU at START and STOP, the lines and the alarm record apart (R103, R105, R117). -/
def Bcu.quiesce (b : Bcu) : Bcu :=
  { b with state := .unknown, trip := false, close := false, hold := 0, supervision := 0, acceptedNow := false,
           trippedNow := false, endedNow := false, discrepancy := none, reconfirm := none, owner := none }

/-- BCU at START (R101, R116, R117). -/
def Bcu.start (b : Bcu) : Bcu := { b.quiesce with lines := keepPins b.lines, alarms := .empty }

/-- GCU at START and STOP: FAIL is kept with its reason; in a station that is no generator the unit is IDLE (R145). A FAIL kept at
STOP goes on standing in CONFIG where the role is rewritten, until the next START: the model's choice (log 66). -/
def Gcu.quiesce (g : Gcu) (c : Settings) : Gcu :=
  if g.unit = .fail ∧ c.isRole .generator = true then { Gcu.reset with unit := .fail, failReason := g.failReason }
  else Gcu.reset

/-- FCU at START and STOP: state, reason, cause and held load are kept, but RESTORING becomes SHED (R163). That they are kept in a
station whose role is no longer FEEDER too is the model's choice (log 57). -/
def Fcu.quiesce (f : Fcu) : Fcu :=
  { Fcu.reset with state := if f.state = .restoring then .shed else f.state, reason := f.reason, cause := f.cause,
                   held := f.held }

/-- Stations whose TRU has an AUTO sequence: an incomer, and a tie whose transfer is enabled (R173, R184). -/
def hasSequence (c : Settings) : Bool := c.isRole .incomer || c.isRole .tie && c.tieTransfer

/-- TRU at START (R173). The hold is kept also where the role has been rewritten from INCOMER, although TRU holds the mode alone in
a generator or a feeder: the model's choice (log 71). -/
def Tru.start (t : Tru) (c : Settings) : Tru :=
  { Tru.reset with mode := c.startMode.getD .manual, derive := c.startMode == some .auto && hasSequence c, hold := t.hold }

/-- Every block takes the values of START (R194). -/
def State.started (s : State) : State :=
  { s with
    cvp := s.cvp.start, msu := .reset, cap := s.cap.start, lkc := s.lkc.start s.cfg,
    pim := Vector.ofFn (startEntry s.cfg), top := .reset, pru := s.pru.quiesce, dbu := s.dbu.quiesce, bcu := s.bcu.start,
    clu := .reset, syu := .reset, gcu := s.gcu.quiesce s.cfg, fcu := s.fcu.quiesce, tru := s.tru.start s.cfg,
    cfp := { s.cfp with run := .run } }

/-! ### STOP in every block (R194) -/

/-- CVP at STOP: the final transfer carries 0 and 0 (R6). -/
def Cvp.stop (c : Cvp) : Cvp := { c with inFlight := false, speedSent := 0, voltSent := 0 }

/-- LKC at STOP: OFF, a transmission in progress cut short; flags, counters, reference and alignment are kept (R26, R32). -/
def Lkc.stop (l : Lkc) : Lkc := { l with link := .off, sending := false, txCut := l.txCut || l.sending }

/-- A Peer Image entry at STOP (R47). -/
def stopEntry (e : Entry) : Entry := { e with record := none, accepted := 0 }

/-- CLU at STOP: winners, outcomes, the operator result and the abort record are kept (R118, R128). -/
def Clu.stop (u : Clu) : Clu :=
  { Clu.reset with winner1 := u.winner1, winner2 := u.winner2, restoreWinner1 := u.restoreWinner1,
                   restoreWinner2 := u.restoreWinner2, lastOutcome := u.lastOutcome, operatorResult := u.operatorResult,
                   abort := u.abort }

/-- GCU at STOP: as at START, but the droop cause and what the last cycle close formed are kept (R145, R162, log 29). -/
def Gcu.stop (g : Gcu) (c : Settings) : Gcu :=
  { g.quiesce c with
    droopCause := g.droopCause, demand := g.demand, stopNotice := g.stopNotice, fRef := g.fRef, lAvg := g.lAvg,
    lqAvg := g.lqAvg }

/-- FCU at STOP: as at START, but what the last cycle close formed is kept (R163, log 29). -/
def Fcu.stop (f : Fcu) : Fcu := { f.quiesce with view := f.view }

/-- TRU at STOP: MANUAL, flags, counts, reference and direction cleared, mode and hold kept (R173). -/
def Tru.stop (t : Tru) : Tru :=
  { t with state := .manual, enteredNow := false, heardNow := false, derive := false, startDemand := false, openDemand := false,
           parallelTimeout := false, reference := 0, lossCount := 0, returnCount := 0, resyncCount := 0,
           parallelCount := 0, direction := none }

/-- Every block takes the values of STOP; an attempt that stands ends with STOPPED first (R131, R194). Where TRU is its owner,
STOPPED becomes the last answer TRU received (R141), which STOP then keeps (R173): the model's choice between the two (log 67). -/
def State.stopped (s : State) : State :=
  let s := s.syuEnd .stopped
  { s with
    cvp := s.cvp.stop, cap := s.cap.stop, lkc := s.lkc.stop, pim := s.pim.map stopEntry, top := .reset,
    pru := s.pru.quiesce, dbu := s.dbu.quiesce, bcu := s.bcu.quiesce, clu := s.clu.stop,
    syu := { s.syu with permit := false, startedNow := false },
    gcu := s.gcu.stop s.cfg, fcu := s.fcu.stop, tru := s.tru.stop,
    cfp := { s.cfp with run := .config } }

/-- STOP is accepted with the breaker OPEN and neither output asserted (R117). -/
def State.stoppable (s : State) : Bool := s.bcu.state == .opened && !s.bcu.trip && !s.bcu.close

/-! ### Resets and run control -/

/-- POWER_ON_RESET (R194). -/
def execPowerOnReset (s : State) : Host.Outcome State Fault Refusal := .next s.afterReset

/-- RESET_N (R194): exactly as power-on reset. -/
def execResetN (s : State) : Host.Outcome State Fault Refusal := .next s.afterReset

/-- PORT_NOP (R190): nothing is taken. -/
def execPortNop (_b : Byte) (s : State) : Host.Outcome State Fault Refusal := .next s

/-- START (R194). -/
def execStart (s : State) : Host.Outcome State Fault Refusal :=
  .next
    (if s.running then s.answer .refusedState 1
     else if s.cfg.checkCode ≠ 0 then s.answer .refusedCheck 1 s.cfg.checkCode
     else s.started.answer .accepted 1)

/-- STOP (R194). -/
def execStop (s : State) : Host.Outcome State Fault Refusal :=
  .next (if s.running && s.stoppable then s.stopped.answer .accepted 2 else s.answer .refusedState 2)

/-- SOFT_RESET (R193, R194). -/
def execSoftReset (s : State) : Host.Outcome State Fault Refusal :=
  .next (if s.running then s.answer .refusedState 3 else s.afterReset.answer .accepted 3)

/-! ### OPEN (R109, R120, R125, R157, R172, R186, R188) -/

/-- FCU at an operator OPEN (R172). -/
def State.fcuOpen (s : State) : State :=
  if s.cfg.isRole .feeder then
    s.withFcu fun f =>
      { f with state := .manualOpen, cause := .operator, held := 0, reason := .none,
               openPending := f.openPending || f.state == .restoring }
  else s

/-- CLU at an operator OPEN: the pending close is cleared and an operator claim withdrawn (R120, R125). -/
def State.cluOpen (s : State) : State :=
  let t := s.withClu fun u => { u with pendingClose := false }
  if s.operatorClaim then t.cluWithdraw .operatorOpen else t

/-- An incomer in AUTO at an operator OPEN (R186). -/
def State.incomerOpen (s : State) : State :=
  let t := s.withTru fun t => { t with hold := true }
  match t.tru.state with
  | .normal => t.truLeave .deadWait
  | .lossConfirm => t.truLeave .deadWait
  | .returnWait => t.truLeave .onAlternate
  | .resync => t.truLeave .onAlternate
  | .parallel => t.truLeave .onAlternate
  | .deadWait => t.cancelClaim .tru
  | .openReturn => t.cancelClaim .tru
  | _ => t

/-- A tie in AUTO with transfer enabled is taken out of the transfer (R188). That a pending derivation is cleared with it is the
model's choice (log 60). -/
def State.tieOpenedByHand (s : State) : State :=
  ((s.setMode .manual).cancelClaim .tru).truLeave .manual |>.withTru fun t => { t with derive := false }

/-- TRU at an operator OPEN (R186, R188). -/
def State.truOpen (s : State) : State :=
  if s.tru.mode = .auto then
    if s.cfg.isRole .incomer then s.incomerOpen
    else if s.cfg.isRole .tie && s.cfg.tieTransfer then s.tieOpenedByHand
    else s
  else s

/-- OPEN (R109). -/
def execOpenBreaker (s : State) : Host.Outcome State Fault Refusal :=
  .next
    (if s.running then (s.fcuOpen.cluOpen.tripRequest.truOpen).answer .accepted 4
     else s.answer .refusedState 4)

/-! ### CLOSE (R125, R157, R186, R188) -/

/-- CLOSE as an incomer in AUTO takes it (R186). -/
def State.incomerClose (s : State) : State :=
  let t := s.withTru fun t => { t with hold := false }
  let move := (t.truLeave (if s.tru.healthy then .resync else .onAlternate)).answer .accepted 5
  if s.dbu.lockout then s.answer .refusedLockout 5
  else match s.tru.state with
    | .onAlternate => move
    | .returnWait => move
    | .deadWait => t.answer .accepted 5
    | _ => s.answer .refusedMode 5

/-- CLOSE as CLU takes it (R125). -/
def State.operatorClose (s : State) : State :=
  if s.dbu.lockout || s.top.ownLocked s.cfg then s.answer .refusedLockout 5
  else if s.bcu.state ≠ .opened then s.answer .refusedState 5
  else if s.clu.pendingClose || s.clu.claim.isSome || s.clu.inFlight.isSome then s.answer .refusedState 5
  else (s.withClu fun u => { u with pendingClose := true }).answer .accepted 5

/-- CLOSE (R125). -/
def execCloseBreaker (s : State) : Host.Outcome State Fault Refusal :=
  .next
    (if !s.running then s.answer .refusedState 5
     else if s.tru.mode = .auto then
       if s.cfg.isRole .generator then s.answer .refusedMode 5
       else if s.cfg.isRole .incomer then s.incomerClose
       else if s.cfg.isRole .tie && s.cfg.tieTransfer then s.answer .refusedMode 5
       else s.operatorClose
     else s.operatorClose)

/-! ### Mode and transfer commands (R157, R185, R186) -/

/-- SET_AUTO (R185). -/
def execSetAuto (s : State) : Host.Outcome State Fault Refusal :=
  .next
    (if s.running then
      let t := if s.tru.mode = .manual then
          (s.setMode .auto).withTru fun t => { t with derive := t.derive || hasSequence s.cfg }
        else s
      t.answer .accepted 6
    else s.answer .refusedState 6)

/-- TRU of an incomer or a tie whose mode becomes MANUAL (R185). -/
def State.truManual (s : State) : State :=
  if s.cfg.isRole .incomer || s.cfg.isRole .tie then
    (((s.cancelClaim .tru).cancelAttempt .tru).truSet .manual).withTru fun t =>
      { t with derive := false, lossCount := 0, returnCount := 0, resyncCount := 0, parallelCount := 0,
               startDemand := false, openDemand := false, parallelTimeout := false, direction := none }
  else s

/-- GCU of a generator whose mode becomes MANUAL (R157). -/
def State.gcuManual (s : State) : State :=
  if s.cfg.isRole .generator then
    if comingOn s.gcu.unit then s.gcuCancel.gcuSet .cooldown
    else if s.gcu.unit = .unload then s.gcuSet .online
    else s
  else s

/-- SET_MANUAL (R185). -/
def execSetManual (s : State) : Host.Outcome State Fault Refusal :=
  .next
    (if s.running then
      let t := if s.tru.mode = .auto then (s.setMode .manual).truManual.gcuManual else s
      t.answer .accepted 7
    else s.answer .refusedState 7)

/-- RETRANSFER_NOW (R186). The resync reference is the f_line of the last cycle close, judged or not: the model's choice
(R175, log 43). -/
def execRetransferNow (s : State) : Host.Outcome State Fault Refusal :=
  .next
    (if !s.running then s.answer .refusedState 8
     else if s.cfg.isRole .incomer ∧ s.tru.mode = .manual then s.answer .refusedMode 8
     else if s.cfg.isRole .incomer ∧ s.tru.state = .returnWait then (s.truLeave .resync).answer .accepted 8
     else s.answer .refusedState 8)

/-! ### RESET_LATCH (R98, R156, R184) -/

/-- What holds a lockout: EXT_LOCKOUT active, the own BF notice, or a usable record with a notice that concerns the
station, the own entry included (R98). -/
def State.latchHeld (s : State) : Bool :=
  s.fnActive .extLockout || s.dbu.notice || s.anyUsable fun r => r.bfNotice && concerns s.cfg r

/-- The effects of an accepted RESET_LATCH (R98, R156, R184). -/
def State.unlatch (s : State) : State :=
  let t := s.withDbu fun d => { d with lockout := false }
  let u := if s.cfg.isRole .generator ∧ s.gcu.unit = .fail then
      (t.gcuSet .idle).withGcu fun g => { g with failReason := .none }
    else t
  if s.cfg.isRole .incomer ∧ s.tru.state = .halted then u.withTru fun t => { t with derive := true } else u

/-- RESET_LATCH (R98). -/
def execResetLatch (s : State) : Host.Outcome State Fault Refusal :=
  .next
    (if !s.running then s.answer .refusedState 9
     else if s.latchHeld then s.answer .refusedLockout 9
     else s.unlatch.answer .accepted 9)

/-! ### Capture and attention commands -/

/-- RELEASE_CAPTURE (R23). -/
def execReleaseCapture (s : State) : Host.Outcome State Fault Refusal :=
  .next
    (match s.cap.heldBank with
     | some b => (s.withCap fun c => c.setBank b (c.bank b).release).answer .accepted 10
     | none => s.answer .refusedState 10)

/-- TRIGGER_CAPTURE (R20). -/
def execTriggerCapture (s : State) : Host.Outcome State Fault Refusal :=
  .next
    (if !s.running then s.answer .refusedState 11
     else if !s.cfg.triggers.has .command then s.answer .refusedMode 11
     else (s.takeTrigger .command).answer .accepted 11)

/-- ACK_ATTENTION (R195). -/
def execAckAttention (mask : Word) (s : State) : Host.Outcome State Fault Refusal :=
  .next ((s.acknowledge mask).answer .accepted 12)

/-- UNKNOWN_COMMAND (R193): nothing is performed. -/
def execUnknownCommand (n : Word) (s : State) : Host.Outcome State Fault Refusal := .next (s.answer .unknownCommand n)

/-- ATTENTION_ACKNOWLEDGE_WRITE (R195): as an EXEC of ACK_ATTENTION, LAST_RESULT included. -/
def execAttentionAcknowledgeWrite (w : Word) (s : State) : Host.Outcome State Fault Refusal :=
  .next ((s.acknowledge w).answer .accepted 12)

/-- The attention enable mask written (R195). -/
def State.setEnable (s : State) (w : Word) : State := s.withCfp fun c => { c with enable := w }

/-- ATTENTION_ENABLE_WRITE (R195). -/
def execAttentionEnableWrite (w : Word) (s : State) : Host.Outcome State Fault Refusal := .next (s.setEnable w)

/-! ### Writes (R192) -/

/-- GROUP_ACCESS written: the low bit selects the instance (R192). -/
def State.setGroupAccess (s : State) (w : Word) : State := s.withCfp fun c => { c with groupAccess := w.getLsbD 0 }

/-- GROUP_ACCESS_WRITE (R192). -/
def execGroupAccessWrite (w : Word) (s : State) : Host.Outcome State Fault Refusal := .next (s.setGroupAccess w)

/-- A broadcast trim word: applied in CONFIG, discarded in RUN with WRITE_REFUSED (R192). -/
def State.writeTrim (s : State) (t : Triple) (w : Word) : State :=
  if s.running then s.raise .writeRefused else s.withCfg fun c => c.broadcast t w

/-- BROADCAST_TRIM_WRITE (R192). -/
def execBroadcastTrimWrite (t : Triple) (w : Word) (s : State) : Host.Outcome State Fault Refusal :=
  .next (s.writeTrim t w)

/-- A word written to the store, or discarded with WRITE_REFUSED (R192). -/
def State.writeStore (s : State) (c : ConfigWrite) : State :=
  match s.cfg.write s.cfp.groupAccess c with
  | some g => if s.running then s.raise .writeRefused else s.withCfg fun _ => g
  | none => s.raise .writeRefused

/-- A word written at an address that is none of the store's: one with a row of its own does what that row does, any
other is discarded with WRITE_REFUSED (R192, R195). -/
def State.writeOther (s : State) (a w : Word) : State :=
  if a = 0x0081#16 then s.setEnable w
  else if a = 0x0082#16 then s.setGroupAccess w
  else if a = 0x0083#16 then (s.acknowledge w).answer .accepted 12
  else if a = 0x0500#16 then s.writeTrim .current w
  else if a = 0x0501#16 then s.writeTrim .voltage w
  else s.raise .writeRefused

/-- CONFIGURATION_WRITE (R192). -/
def execConfigurationWrite (c : ConfigWrite) (s : State) : Host.Outcome State Fault Refusal :=
  .next
    (match c with
     | .other a w => s.writeOther a w
     | c => s.writeStore c)

/-- PEER_IMAGE_BLOCK_READ (R54): the entry, with age and status as they stand now, is copied into the read buffer, and the
transfer's words of the block are taken from it. -/
def execPeerImageBlockRead (k : Station) (n : Nat) (s : State) : Host.Outcome State Fault Refusal :=
  .next (s.withCfp fun c => { c with readBuffer := s.blockWords k, dataOut := (s.blockWords k).take n })

end Sys2Proof.Machine
end

