-- ==== Sys2Proof/Machine/Strobe.lean ====
section
/-! DEFINITION. The sample strobe and the phasor instant (R1 to R6, R18, R101, R103), with the expiries that fall at one. -/

namespace Sys2Proof.Machine

/-! ### Taking in a set (R2 to R4, R7, R8, R14, R15, R19) -/

/-- CVP takes in the reply; the entry to FAIL sets MEAS_FAIL (R2 to R4). -/
def State.takeReply (s : State) (r : Reply) : State :=
  let c := s.cvp.take r
  let t := s.withCvp fun _ => { c with sets := s.cvp.sets + 1 }
  if c.meas = .fail ∧ s.cvp.meas ≠ .fail then t.raise .measFail else t

/-- MSU and CAP take the trimmed set handed on (R7, R8, R14, R15, R19). -/
def State.handOn (s : State) : State :=
  let x := trimSet s.cfg s.cvp.lastGood
  (s.withMsu fun m => m.takeSet s.cvp.sets x).capWrite x

/-- The first strobe of a RUN takes in no set (R2). -/
def State.firstStrobe (s : State) : State :=
  (s.withCvp fun c => { c with inFlight := true }).withMsu fun m => { m with bus := m.bus.tick, line := m.line.tick }

/-- The set of the strobe before, if there is one (R2). -/
def State.takeIn (s : State) (r : Reply) : State :=
  if s.cvp.inFlight then (s.takeReply r).handOn else s.firstStrobe

/-- The results of a phasor instant and the evaluation of PRU (R5, R18, R64). -/
def State.phasorResults (s : State) (label : Count) : State :=
  let t := s.withCvp Cvp.warmUp
  let r := formSet t.cfg t.msu t.cvp.meas label
  (t.withMsu fun m => { m with newest := r, older := m.newest }).pruEvaluate r

/-! ### The strobe -/

/-- LKC at a strobe: the timer's position. Before cycle 0, a strobe after the first that does not lie ahead of it says that
cycle 0 has begun (R1, R26, log 26). -/
def Lkc.atStrobe (l : Lkc) (c : Settings) (g : Fin 8) : Lkc :=
  let l := if l.preCycle && l.phasorMade && decide (gridPosition c g ≤ l.timer) then l.begin else l
  l.reach c (gridPosition c g)

/-- A strobe is a phasor instant: one still owed to the cycle in progress or to one before it, or that of the next cycle,
which is made once, at grid point 0 or where it is owed (R1, R26, R27). -/
def Lkc.phasorAt (l : Lkc) (g : Fin 8) : Bool := l.phasorLate != 0 || (!l.phasorMade && (l.phasorOwed || g == 0))

/-- The cycle a phasor instant belongs to: the earliest that one is owed to, the cycle in progress being the last of them;
else the next one, and cycle 0 before cycle 0 has begun (R1, R26, R27). -/
def Lkc.phasorLabel (l : Lkc) : Count :=
  if l.phasorLate ≠ 0 then l.count + 1 - BitVec.ofNat 32 l.phasorLate else if l.preCycle then l.count else l.count + 1

/-- The phasor instant of a strobe has been made. One made for an earlier cycle at grid point 0 leaves the next cycle's owed,
so that every cycle has exactly one (R27). -/
def Lkc.madePhasor (l : Lkc) (g : Fin 8) : Lkc :=
  if l.phasorLate ≠ 0 then
    { l with phasorLate := l.phasorLate - 1, phasorOwed := l.phasorOwed || (g == 0 && !l.phasorMade) }
  else if l.phasorAt g then { l with phasorMade := true, phasorOwed := false }
  else l

/-- The pending re-confirmation at a strobe: its count of quiet strobes, restarted by a change of a contact line's read level
(R103). -/
def reconfirmAfter (r : Option Nat) (changed : Bool) : Option Nat := r.map fun n => if changed then 0 else n + 1

/-- The pending re-confirmation has had its N quiet strobes (R103). -/
def reconfirmDue (c : Settings) (r : Option Nat) : Bool := r.any fun n => decide (c.debounce.toNat ≤ n)

/-- The lines are sampled and their counts advance (R101, R103). -/
def State.sampleLines (s : State) (l : Levels) : State :=
  let after := strobeLines s.cfg s.bcu.lines l
  let changed := contactChanged s.cfg s.bcu.lines after
  s.withBcu fun b => { b with lines := after, reconfirm := reconfirmAfter b.reconfirm changed }

/-- What the lines bring at this strobe (R102, R103). -/
def State.strobeNews (s : State) (l : Levels) : ContactNews := newsOf s.cfg s.bcu.lines (strobeLines s.cfg s.bcu.lines l)

/-- The pair event of a strobe: that of a re-confirmation with its N quiet strobes, which is then no longer pending, or that of
a contact event. A TRIP asserted earlier at the strobe has restarted the re-confirmation (R103). -/
def State.strobePair (s : State) (n : ContactNews) : State :=
  if reconfirmDue s.cfg s.bcu.reconfirm then (s.withBcu fun b => { b with reconfirm := none }).pairEvent
  else s.takeNews n .pair

/-- The transfer of grid point 2 carries the two bias codes, each as a 12-bit two's-complement number, the speed code first
(R6). -/
def State.sendBias (s : State) (g : Fin 8) : State :=
  if g = 2 then s.withCvp fun c => { c with speedSent := biasWord s.gcu.speed, voltSent := biasWord s.gcu.volt }
  else s

/-- The measurement of a strobe: the set taken in, and at a phasor instant its results (R2, R18). -/
def State.measureAt (s : State) (r : Reply) (phasor : Bool) (label : Count) : State :=
  let t := s.takeIn r
  if phasor then t.phasorResults label else t

/-- One task of a strobe. -/
def State.strobeTask (s : State) (r : Reply) (phasor : Bool) (label : Count) (n : ContactNews) (t : StrobeTask) : State :=
  match t with
  | .measure => s.measureAt r phasor label
  | .pair => s.strobePair n
  | .extTrip => s.takeNews n .extTrip
  | .extBlock => s.takeNews n .extBlock
  | .extLockout => s.takeNews n .extLockout

/-- The pins stand at given levels (R101). -/
def State.setPins (s : State) (l : Levels) : State :=
  s.withBcu fun b => { b with lines := Vector.ofFn fun i => { b.lines.get i with high := l.get i } }

/-- A strobe at a grid point, its tasks in an order (log 3). In CONFIG there is no strobe, and the levels are those the pins
stand at, readable in either run state (R1, R101). -/
def State.strobeAt (s : State) (g : Fin 8) (r : Reply) (l : Levels) (o : List StrobeTask) : State :=
  if s.running then
    let k := s.lkc.atStrobe s.cfg g
    let t := ((s.sampleLines l).withLkc fun _ => k.madePhasor g).sendBias g
    (orderOver allTasks o).foldl (fun u x => u.strobeTask r (k.phasorAt g) k.phasorLabel (s.strobeNews l) x) t
  else s.setPins l

/-! ### The commands -/

/-- SAMPLE_STROBE (R2). -/
def execSampleStrobe (g : Fin 8) (r : Reply) (l : Levels) (o : List StrobeTask) (s : State) :
    Host.Outcome State Fault Refusal := .next (s.strobeAt g r l o)

/-- PHASOR_INSTANT (R18): the strobe of grid point 0. -/
def execPhasorInstant (r : Reply) (l : Levels) (o : List StrobeTask) (s : State) : Host.Outcome State Fault Refusal :=
  .next (s.strobeAt 0 r l o)

/-- MEASUREMENT_FAIL (R4): the second consecutive missing or bad set. -/
def execMeasurementFail (s : State) : Host.Outcome State Fault Refusal :=
  .next
    (if s.running && s.cvp.meas != .fail && decide (2 ≤ s.cvp.bad + 1) then
      (s.withCvp fun c => { c with bad := 2, goodRun := 0, meas := .fail }).raise .measFail
    else s)

/-- GOOD_RUN_COMPLETE (R4): the 32nd consecutive good set in FAIL. -/
def execGoodRunComplete (s : State) : Host.Outcome State Fault Refusal :=
  .next
    (if s.running && s.cvp.meas == .fail && decide (32 ≤ s.cvp.goodRun + 1) then
      s.withCvp fun c => { c with bad := 0, goodRun := 32, meas := .warmup, warm := 0 }
    else s)

/-- A crossing list whose count of strobes reaches 64 is emptied (R15). -/
def Crossings.timeout (x : Crossings) : Crossings := if 64 ≤ x.since + 1 then { times := [], since := 0 } else x

/-- CROSSING_LIST_TIMEOUT (R15): 64 strobes of a channel without a crossing. -/
def execCrossingListTimeout (c : CrossChannel) (s : State) : Host.Outcome State Fault Refusal :=
  .next
    (if s.running then
      match c with
      | .bus => s.withMsu fun m => { m with bus := m.bus.timeout }
      | .line => s.withMsu fun m => { m with line := m.line.timeout }
    else s)

/-- WARMUP_COMPLETE (R5): the phasor instant that finds the warm-up count at 4. -/
def execWarmupComplete (s : State) : Host.Outcome State Fault Refusal :=
  .next
    (if s.running && s.cvp.meas == .warmup && decide (4 ≤ s.cvp.warm) then s.withCvp fun c => { c with meas := .valid }
    else s)

/-- CAPTURE_HELD (R22): the post count reaches POST. -/
def execCaptureHeld (s : State) : Host.Outcome State Fault Refusal :=
  .next
    (match s.cap.current with
     | none => s
     | some b =>
       if s.running && (s.cap.bank b).state == .post && decide (s.cfg.post ≤ (s.cap.bank b).post + 1) then
         (s.withCap fun c => (c.setBank b { c.bank b with post := s.cfg.post }).hold s.cfg b).raise .captureHeld
       else s)

end Sys2Proof.Machine
end

