-- ==== Sys2Proof/Machine/Dispatch.lean ====
section
/-! DEFINITION. The dispatch of a command to its meaning: one arm per row of the opcode table. -/

namespace Sys2Proof.Machine

/-- The effect of a command on everything but the queue. -/
def exec (i : Instr) (s : State) : Host.Outcome State Fault Refusal :=
  match i with
  | .powerOnReset => Sys2Proof.Machine.execPowerOnReset s
  | .resetN => Sys2Proof.Machine.execResetN s
  | .sampleStrobe g r l o => Sys2Proof.Machine.execSampleStrobe g r l o s
  | .measurementFail => Sys2Proof.Machine.execMeasurementFail s
  | .goodRunComplete => Sys2Proof.Machine.execGoodRunComplete s
  | .crossingListTimeout c => Sys2Proof.Machine.execCrossingListTimeout c s
  | .phasorInstant r l o => Sys2Proof.Machine.execPhasorInstant r l o s
  | .warmupComplete => Sys2Proof.Machine.execWarmupComplete s
  | .elementOperate e => Sys2Proof.Machine.execElementOperate e s
  | .captureHeld => Sys2Proof.Machine.execCaptureHeld s
  | .ownSlot => Sys2Proof.Machine.execOwnSlot s
  | .readBack h => Sys2Proof.Machine.execReadBack h s
  | .recordArrival f => Sys2Proof.Machine.execRecordArrival f s
  | .cycleClose o => Sys2Proof.Machine.execCycleClose o s
  | .listenComplete => Sys2Proof.Machine.execListenComplete s
  | .silentSlotExpiry => Sys2Proof.Machine.execSilentSlotExpiry s
  | .selfTimed => Sys2Proof.Machine.execSelfTimed s
  | .differentialTrip x => Sys2Proof.Machine.execDifferentialTrip x s
  | .zoneBlocked x => Sys2Proof.Machine.execZoneBlocked x s
  | .bfExpiry => Sys2Proof.Machine.execBfExpiry s
  | .contactEvent k h => Sys2Proof.Machine.execContactEvent k h s
  | .reconfirmation => Sys2Proof.Machine.execReconfirmation s
  | .closeSupervisionExpiry => Sys2Proof.Machine.execCloseSupervisionExpiry s
  | .tripRelease => Sys2Proof.Machine.execTripRelease s
  | .discrepancyExpiry => Sys2Proof.Machine.execDiscrepancyExpiry s
  | .operatorClaimExpiry => Sys2Proof.Machine.execOperatorClaimExpiry s
  | .restoreDelayExpiry => Sys2Proof.Machine.execRestoreDelayExpiry s
  | .syncSupervisionExpiry => Sys2Proof.Machine.execSyncSupervisionExpiry s
  | .startFail => Sys2Proof.Machine.execStartFail s
  | .retryExpiry => Sys2Proof.Machine.execRetryExpiry s
  | .unloadExpiry => Sys2Proof.Machine.execUnloadExpiry s
  | .coolExpiry => Sys2Proof.Machine.execCoolExpiry s
  | .capacityShed => Sys2Proof.Machine.execCapacityShed s
  | .underfreqShed st => Sys2Proof.Machine.execUnderfreqShed st s
  | .deadbusShed => Sys2Proof.Machine.execDeadbusShed s
  | .lossConfirmExpiry => Sys2Proof.Machine.execLossConfirmExpiry s
  | .returnShortExpiry => Sys2Proof.Machine.execReturnShortExpiry s
  | .returnExpiry => Sys2Proof.Machine.execReturnExpiry s
  | .resyncExpiry => Sys2Proof.Machine.execResyncExpiry s
  | .parallelTimeout => Sys2Proof.Machine.execParallelTimeout s
  | .portNop b => Sys2Proof.Machine.execPortNop b s
  | .start => Sys2Proof.Machine.execStart s
  | .stop => Sys2Proof.Machine.execStop s
  | .softReset => Sys2Proof.Machine.execSoftReset s
  | .openBreaker => Sys2Proof.Machine.execOpenBreaker s
  | .closeBreaker => Sys2Proof.Machine.execCloseBreaker s
  | .setAuto => Sys2Proof.Machine.execSetAuto s
  | .setManual => Sys2Proof.Machine.execSetManual s
  | .retransferNow => Sys2Proof.Machine.execRetransferNow s
  | .resetLatch => Sys2Proof.Machine.execResetLatch s
  | .releaseCapture => Sys2Proof.Machine.execReleaseCapture s
  | .triggerCapture => Sys2Proof.Machine.execTriggerCapture s
  | .ackAttention m => Sys2Proof.Machine.execAckAttention m s
  | .unknownCommand n => Sys2Proof.Machine.execUnknownCommand n s
  | .attentionAcknowledgeWrite w => Sys2Proof.Machine.execAttentionAcknowledgeWrite w s
  | .attentionEnableWrite w => Sys2Proof.Machine.execAttentionEnableWrite w s
  | .groupAccessWrite w => Sys2Proof.Machine.execGroupAccessWrite w s
  | .broadcastTrimWrite t w => Sys2Proof.Machine.execBroadcastTrimWrite t w s
  | .configurationWrite c => Sys2Proof.Machine.execConfigurationWrite c s
  | .peerImageBlockRead k n => Sys2Proof.Machine.execPeerImageBlockRead k n s

end Sys2Proof.Machine
end

