-- ==== Sys2Proof/Machine/Status.lean ====
section
/-! DEFINITION. What the status of every block reads (R46, R61, R84, R92, R99, R116, R130, R162, R163, R189), the live
measurement snapshot (R18) and the capture records (R24), each as a value; Readout gives the words. A read changes none of
them. -/

namespace Sys2Proof.Machine

/-- What a status word reads: none (or invalid, or empty), a number, or the n-th value of an enumeration. -/
inductive StatusValue
  | none
  | number (n : Int)
  | code (n : Nat)
deriving DecidableEq, Repr

/-! ### Values -/

/-- A flag: clear is its value 0, set its value 1. -/
def flagValue (b : Bool) : StatusValue := .code (if b then 1 else 0)

/-- A count or a quantity without sign. -/
def natValue (n : Nat) : StatusValue := .number n

/-- One half of a quantity that does not fit one port word: two words, high word first (R92). -/
def halfOfNat (n : Nat) (high : Bool) : StatusValue := .number (if high then (n / 65536 : Nat) else (n % 65536 : Nat))

/-- One half of a 32-bit count. -/
def halfOfCount (c : Count) (high : Bool) : StatusValue := halfOfNat c.toNat high

/-- A signed number that does not fit one word, by its halves: its 32-bit two's complement (R17, R133, R135, log 6). -/
def halfOfInt (n : Int) (high : Bool) : StatusValue := halfOfCount (BitVec.ofInt 32 n) high

/-- An item that may be absent. -/
def optValue {α : Type} (x : Option α) (f : α → StatusValue) : StatusValue := (x.map f).getD .none

/-- The place of a value among those of its enumeration. -/
def codeIn {α : Type} [DecidableEq α] (all : List α) (x : α) : StatusValue := .code (all.idxOf x)

/-- A set of phases, numbered. -/
def phasesValue (p : Phases) : StatusValue :=
  .code ((if p.a then 1 else 0) + (if p.b then 2 else 0) + (if p.c then 4 else 0))

/-- A set of trigger sources, numbered. -/
def sourcesValue (m : Sources) : StatusValue :=
  .code ((if m.trip then 1 else 0) + (if m.diff then 2 else 0) + (if m.bf then 4 else 0) + (if m.command then 8 else 0))

/-- A station number. -/
def stationValue (k : Station) : StatusValue := natValue k.val

/-- A section number. -/
def secValue : Sec → StatusValue
  | .one => .number 1
  | .two => .number 2

/-- A summary. -/
def summaryValue (x : Summary) : StatusValue := codeIn [.opened, .closing, .closed, .opening, .faulty] x

/-- An island state. -/
def islandValue (x : IslandState) : StatusValue := codeIn [.grid, .genset, .dead, .unknown] x

/-- A classification. -/
def classValue (x : VClass) : StatusValue := codeIn [.live, .dead, .indeterminate] x

/-- A measurement state. -/
def measValue (x : MeasState) : StatusValue := codeIn [.valid, .warmup, .fail] x

/-- An outcome of a close. -/
def CloseOutcome.number : CloseOutcome → Nat
  | .completed => 0
  | .failed => 1
  | .discrepant => 2
  | .dropped => 3
  | .tripped => 4

/-- A refusal of a close. -/
def CloseRefusal.number : CloseRefusal → Nat
  | .notOpen => 0
  | .lockout => 1
  | .tripStanding => 2
  | .blocked => 3
  | .unhealthy => 4
  | .liveLive => 5

/-- A reason of a withdrawal. -/
def WithdrawReason.number : WithdrawReason → Nat
  | .breakerClosed => 0
  | .lockout => 1
  | .targetLive => 2
  | .operatorOpen => 3
  | .expired => 4

/-- An answer, outcome, refusal or ending. -/
def Answer.number : Answer → Nat
  | .raised => 0
  | .taken => 1
  | .refusedLockout => 2
  | .refusedLive => 3
  | .withdrawn w => 4 + w.number
  | .outcome o => 9 + o.number
  | .refusal r => 14 + r.number
  | .started => 20
  | .standing => 21
  | .busy => 22
  | .startLockout => 23
  | .startNotOpen => 24
  | .expired => 25
  | .endLockout => 26
  | .endTrip => 27
  | .sideDead => 28
  | .breakerMoved => 29
  | .cancelled => 30
  | .stopped => 31

/-- A result of an operator close. -/
def OperatorResult.number : OperatorResult → Nat
  | .toSync => 0
  | .claimed => 1
  | .claimedDeadDead => 2
  | .deadDeadOff => 3
  | .sidesUndecided => 4
  | .answer a => 5 + a.number

/-- A transfer state; those of a tie carry their section in the direction and the claim. -/
def TransferState.number : TransferState → Nat
  | .manual => 0
  | .normal => 1
  | .lossConfirm => 2
  | .isolating => 3
  | .deadWait => 4
  | .onAlternate => 5
  | .returnWait => 6
  | .resync => 7
  | .parallel => 8
  | .openReturn => 9
  | .halted => 10
  | .tieOpen => 11
  | .tieClaim _ => 12
  | .tieFeeding _ => 13

/-! ### The ALARM contributions (R67, R84, R91, R113, R156) -/

/-- PRU contributes: an element whose action is ALARM is in OPERATE (R67). -/
def State.pruAlarm (s : State) : Bool :=
  allElements.any fun e => (s.pru.elements.get e).state == .operate && elementAction s.cfg s.pru e == some .alarm

/-- DBU contributes: a section is ZONE_BLOCKED (R91). -/
def State.dbuAlarm (s : State) : Bool := s.dbu.s1.blocked == 3 || s.dbu.s2.blocked == 3

/-- BCU contributes in DISCREPANT (R113). -/
def State.bcuAlarm (s : State) : Bool := s.bcu.state == .discrepant

/-- GCU contributes in FAIL (R156). -/
def State.gcuAlarm (s : State) : Bool := s.gcu.unit == .fail

/-- The ALARM source: any contribution. -/
def State.alarmSource (s : State) : Bool := s.pruAlarm || s.dbuAlarm || s.bcuAlarm || s.gcuAlarm

/-! ### Output lines (R104) -/

/-- The logical level of an output source (chapter 6, Output sources); LOCKOUT is inactive in CONFIG, where the flag may stand
(R99). -/
def State.sourceLevel (s : State) : OutSrc → Bool
  | .none => false
  | .trip => s.bcu.trip
  | .close => s.bcu.close
  | .bfTrip => s.dbu.notice
  | .engineRun => s.cfg.isRole .generator && engineRun s.gcu.unit
  | .lockout => s.running && s.dbu.lockout
  | .alarm => s.alarmSource
  | .syncPermit => s.syu.permit
  | .onGrid => s.top.own == .grid
  | .startDemand => s.cfg.isRole .incomer && s.tru.startDemand

/-- The logical level of an output line: its source's in RUN, inactive in CONFIG (R104). -/
def State.lineLevel (s : State) (i : Fin 8) : Bool :=
  s.running && ((s.cfg.outputs.get i).src.map s.sourceLevel).getD false

/-- The physical level of an output line, true for high (R104). -/
def State.outputPin (s : State) (i : Fin 8) : Bool := s.lineLevel i != (s.cfg.outputs.get i).low

/-- The raw physical level of an input line, in either run state (R101). -/
def State.rawLevel (s : State) (i : Fin 8) : Bool := (s.bcu.lines.get i).high

/-! ### The differential as it reads (R92) -/

/-- The sums of a phase: zero quantities for an evaluation that has formed none (R92; for BLOCKED log 45). -/
def Evaluation.sum (e : Evaluation) (p : Fin 3) : PhaseSum :=
  match e with
  | .complete a b c => match p with | 0 => a | 1 => b | 2 => c
  | _ => { iop := 0, ires := 0, operates := false }

/-- The block reason of an evaluation. -/
def Evaluation.reason : Evaluation → Option BlockReason
  | .blocked r _ => some r
  | _ => none

/-- The station named with the block reason. -/
def Evaluation.station : Evaluation → Option Station
  | .blocked _ k => k
  | _ => none

/-- The operating phases of an evaluation. -/
def Evaluation.phases (e : Evaluation) : Phases :=
  { a := (e.sum 0).operates, b := (e.sum 1).operates, c := (e.sum 2).operates }

/-! ### The status words -/

/-- One word of an entry of the operation list; an empty place reads none (R70). -/
def Operation.value (o : Operation) : OperationField → StatusValue
  | .element => codeIn allElements o.element
  | .half => codeIn [.fault, .source] o.half
  | .group => flagValue o.group
  | .action => codeIn [.off, .alarm, .trip] o.action
  | .phases => phasesValue o.phases
  | .cycle h => halfOfCount o.cycle h

/-- The active group of a half. -/
def Pru.groupOf (p : Pru) : Half → Bool
  | .fault => p.faultGroup
  | .source => p.sourceGroup

/-- The group mode of a half. -/
def Settings.modeOfHalf (c : Settings) : Half → Option GroupMode
  | .fault => c.faultMode
  | .source => c.sourceMode

/-- Status of CVP, LKC, PIM and TOP. -/
def State.boardStatus (s : State) : StatusItem → Option StatusValue
  | .missing => some (natValue s.cvp.missing)
  | .measState => some (measValue s.cvp.meas)
  | .link => some (codeIn [.off, .listen, .publish, .duplicate] s.lkc.link)
  | .crcError => some (flagValue s.lkc.crcError)
  | .slotMismatch => some (flagValue s.lkc.slotMismatch)
  | .late => some (flagValue s.lkc.late)
  | .duplicateSeen => some (flagValue s.lkc.duplicateSeen)
  | .referenceMissing => some (flagValue s.lkc.referenceMissing)
  | .mismatches => some (natValue s.lkc.mismatches)
  | .lates => some (natValue s.lkc.lates)
  | .relocks => some (natValue s.lkc.relocks)
  | .crcErrors k => some (natValue (s.entry k).crcErrors)
  | .reference => some (optValue s.lkc.reference stationValue)
  | .alignment => some (codeIn [.aligned, .selfTimed] s.lkc.alignState)
  | .relockCycle h => some (optValue s.lkc.relockCycle (halfOfCount · h))
  | .silence => some (natValue s.lkc.silence)
  | .silentCount => some (natValue s.lkc.silentCount)
  | .tieIdentity => some (match s.top.tie with | .none => .none | .station k => stationValue k | .conflict => .code 0)
  | .expected x => some (optValue (s.top.expected x) fun m => natValue m.toNat)
  | .islandMap => some (codeIn [.joined, .apart, .unknown] s.top.map)
  | .islandState x => some (islandValue (s.top.state x))
  | .ownIsland => some (islandValue s.top.own)
  | .lockoutView x => some (flagValue (s.top.locked x))
  | _ => none

/-- The count of the BF timer. An idle timer reads 0, as the resets, START and STOP leave it; that it reads so after a contact
event or an expiry too is the model's choice (R93, R95, log 52). -/
def BfTimer.count : BfTimer → Nat
  | .idle => 0
  | .running n => n

/-- Status of PRU and DBU (R84, R92, R95, R99). -/
def State.protectionStatus (s : State) : StatusItem → Option StatusValue
  | .elementState e => some (codeIn [.quiet, .pickup, .operate] (s.pru.elements.get e).state)
  | .elementCount e => some (natValue (s.pru.elements.get e).count)
  | .elementPhases e => some (phasesValue (s.pru.elements.get e).phases)
  | .elementDelay e => some (natValue (elementDelay s.cfg s.pru e))
  | .tripActive => some (flagValue s.pru.tripActive)
  | .tripRequest => some (flagValue s.pruStands)
  | .pruAlarm => some (flagValue s.pruAlarm)
  | .group h => some (flagValue (s.pru.groupOf h))
  | .groupMode h => some (optValue (s.cfg.modeOfHalf h) (codeIn [.auto, .fix0, .fix1]))
  | .operation n f => some (optValue s.pru.operations[n.val]? fun o => o.value f)
  | .evaluation x =>
    some (match (s.dbu.diff x).last with | .notEvaluated => .code 0 | .blocked _ _ => .code 1 | .complete _ _ _ => .code 2)
  | .blockReason x =>
    some (optValue (s.dbu.diff x).last.reason (codeIn [.setUnknown, .notFresh, .relocked, .notValid, .groupMismatch]))
  | .blockStation x => some (optValue (s.dbu.diff x).last.station stationValue)
  | .iop x p h => some (halfOfNat ((s.dbu.diff x).last.sum p).iop h)
  | .ires x p h => some (halfOfNat ((s.dbu.diff x).last.sum p).ires h)
  | .operating x => some (phasesValue (s.dbu.diff x).last.phases)
  | .confirm x => some (natValue (s.dbu.diff x).confirm)
  | .blockedCount x => some (natValue (s.dbu.diff x).blocked)
  | .zoneBlocked x => some (flagValue ((s.dbu.diff x).blocked == 3))
  | .bfTimer => some (match s.dbu.timer with | .idle => .code 0 | .running _ => .code 1)
  | .bfCount => some (natValue s.dbu.timer.count)
  | .bfNotice => some (flagValue s.dbu.notice)
  | .lockout => some (flagValue s.dbu.lockout)
  | .lockoutSource => some (codeIn [.none, .diff, .highI, .bf, .peerBf, .extLockout] s.dbu.lockoutSource)
  | _ => none

/-- The discrepancy count. An idle count reads 0, as the resets, START and STOP leave it; that it reads so where a pair event
or an expiry has made it idle too is the model's choice (R113, R117, log 52). -/
def Bcu.discrepancyCount (b : Bcu) : Nat := b.discrepancy.getD 0

/-- Status of BCU (R101, R102, R104, R114, R116). -/
def State.breakerStatus (s : State) : StatusItem → Option StatusValue
  | .rawLevel i => some (flagValue (s.rawLevel i))
  | .function f => some (codeIn [.inactive, .active, .unsettled] (s.fnLevel f))
  | .source o => some (flagValue (s.sourceLevel o))
  | .outputLevel i => some (flagValue (s.outputPin i))
  | .breaker => some (codeIn [.unknown, .opened, .closing, .closed, .opening, .failedOpen, .discrepant] s.bcu.state)
  | .contactPair =>
    some (.code ((if s.fnActive .brkClosed then 2 else 0) + if s.fnActive .brkOpen then 1 else 0))
  | .pairJudged => some (flagValue (s.pair != .unjudged))
  | .trip => some (flagValue s.bcu.trip)
  | .close => some (flagValue s.bcu.close)
  | .hold => some (natValue s.bcu.hold)
  | .supervision => some (natValue s.bcu.supervision)
  | .discrepancy => some (natValue s.bcu.discrepancyCount)
  | .reconfirmation => some (flagValue s.bcu.reconfirm.isSome)
  | .closeOwner => some (optValue s.bcu.owner (codeIn [.clu, .syu]))
  | .closeOutcome => some (optValue s.bcu.lastOutcome fun o => .code o.1.number)
  | .closeOutcomeCycle h => some (optValue s.bcu.lastOutcome fun o => halfOfCount o.2 h)
  | .closeRefusal => some (optValue s.bcu.lastRefusal fun r => .code r.1.number)
  | .closeRefusalUnit => some (optValue s.bcu.lastRefusal fun r => codeIn [.clu, .syu] r.2.1)
  | .closeRefusalCycle h => some (optValue s.bcu.lastRefusal fun r => halfOfCount r.2.2 h)
  | .closeFail h => some (optValue s.bcu.alarms.closeFail (halfOfCount · h))
  | .uncommandedClose h => some (optValue s.bcu.alarms.uncommandedClose (halfOfCount · h))
  | .uncommandedOpen h => some (optValue s.bcu.alarms.uncommandedOpen (halfOfCount · h))
  | .discrepant h => some (optValue s.bcu.alarms.discrepant (halfOfCount · h))
  | _ => none

/-- The last winner of a section, of a dead-bus contest or of a restore contest. -/
def Clu.winner (u : Clu) (restore : Bool) : Sec → Option Station
  | .one => if restore then u.restoreWinner1 else u.winner1
  | .two => if restore then u.restoreWinner2 else u.winner2

/-- The last feeder close count of a section. -/
def Clu.lastClose (u : Clu) : Sec → Count
  | .one => u.lastClose1
  | .two => u.lastClose2

/-- Status of CLU (R130). -/
def State.claimStatus (s : State) : StatusItem → Option StatusValue
  | .claimType => some (codeIn [.none, .deadBus, .restore] (claimTypeOf s.clu.claim))
  | .claimTarget => some (optValue s.clu.claim fun c => secValue c.target)
  | .claimRank => some (optValue s.clu.claim fun c => natValue c.rank.val)
  | .claimOrigin => some (optValue s.clu.claim fun c => codeIn [.tru, .gcu, .fcu, .operator] c.origin)
  | .won x => some (flagValue (s.clu.won x))
  | .deadBusWinner x => some (optValue (s.clu.winner false x) stationValue)
  | .restoreWinner x => some (optValue (s.clu.winner true x) stationValue)
  | .inFlightKind => some (optValue s.clu.inFlight fun f => codeIn [.deadBus, .deadDead, .restore] f.kind)
  | .inFlightTarget => some (optValue s.clu.inFlight fun f => secValue f.target)
  | .claimOutcome => some (optValue s.clu.lastOutcome fun a => .code a.number)
  | .operatorResult => some (optValue s.clu.operatorResult fun r => .code r.1.number)
  | .operatorResultCycle h => some (optValue s.clu.operatorResult fun r => halfOfCount r.2 h)
  | .claimAge => some (natValue s.clu.age)
  | .feederClose x h => some (halfOfCount (s.clu.lastClose x) h)
  | .sinceFeederClose x h => some (halfOfCount (s.lkc.count - s.clu.lastClose x) h)
  | .abortCycle h => some (optValue s.clu.abort (halfOfCount · h))
  | _ => none

/-- The owners of an attempt. -/
def ownerValue (o : Option SyncOwner) : StatusValue := optValue o (codeIn [.gcu, .tru, .operator])

/-- Status of SYU (R131). -/
def State.syncStatus (s : State) : StatusItem → Option StatusValue
  | .syncState => some (codeIn [.idle, .checking, .closing] s.syu.state)
  | .syncOwner => some (ownerValue s.syu.owner)
  | .syncSupervision => some (natValue s.syu.supervision)
  | .syncPermit => some (flagValue s.syu.permit)
  | .slip => some (optValue s.syu.check.slip .number)
  | .dv h => some (optValue s.syu.check.dv (halfOfInt · h))
  | .angle => some (optValue s.syu.check.angle .number)
  | .advance h => some (optValue s.syu.check.advance (halfOfInt · h))
  | .predicted => some (optValue s.syu.check.predicted .number)
  | .condition n => some (optValue s.syu.check.results[n.val]? flagValue)
  | .failing => some (optValue s.syu.check.failing (codeIn allConditions))
  | .checkCycle h => some (optValue s.syu.check.cycle (halfOfCount · h))
  | .syncEnding => some (optValue s.syu.lastEnding fun e => .code e.1.number)
  | .syncEndingOwner => some (optValue s.syu.lastEnding fun e => ownerValue e.2.1)
  | .syncEndingCycle h => some (optValue s.syu.lastEnding fun e => halfOfCount e.2.2 h)
  | _ => none

/-- Status of GCU (R162). -/
def State.unitStatus (s : State) : StatusItem → Option StatusValue
  | .unitState =>
    some (codeIn [.idle, .starting, .deadbus, .sync, .syncWait, .online, .unload, .cooldown, .fail] s.gcu.unit)
  | .biasMode => some (codeIn [.off, .sync, .isoch, .base, .unload, .droop] s.gcu.mode)
  | .speedBias => some (.number s.gcu.speed)
  | .voltBias => some (.number s.gcu.volt)
  | .rampTarget => some (.number s.gcu.ramp)
  | .startCount => some (natValue s.gcu.startCount)
  | .retryCount => some (natValue s.gcu.retryCount)
  | .unloadCount => some (natValue s.gcu.unloadCount)
  | .coolCount => some (natValue s.gcu.coolCount)
  | .failReason => some (codeIn [.none, .startFail, .closeFail, .bf] s.gcu.failReason)
  | .droopCause =>
    some (match s.gcu.droopCause with | .none => .code 0 | .mapUnknown => .code 1 | .peerLost _ => .code 2 | _ => .code 3)
  | .droopStation =>
    some (match s.gcu.droopCause with | .peerLost k => stationValue k | .peerNotValid k => stationValue k | _ => .none)
  | .demand => some (flagValue s.gcu.demand)
  | .stopNotice => some (flagValue s.gcu.stopNotice)
  | .fRef => some (.number s.gcu.fRef)
  | .lAvg => some (.number s.gcu.lAvg)
  | .lqAvg => some (.number s.gcu.lqAvg)
  | .unitLastSeen k => some (optValue (s.gcu.lastSeen.get k) summaryValue)
  | _ => none

/-- Status of FCU (R163). -/
def State.feederStatus (s : State) : StatusItem → Option StatusValue
  | .shedState => some (codeIn [.normal, .shed, .restoring, .manualOpen] s.fcu.state)
  | .shedReason => some (codeIn [.none, .capacity, .underfreq1, .underfreq2, .deadbus] s.fcu.reason)
  | .manualCause => some (codeIn [.none, .operator, .closeFail, .feederLive] s.fcu.cause)
  | .heldLoad => some (natValue s.fcu.held)
  | .lastLoad => some (natValue s.fcu.lastLoad)
  | .overCount => some (natValue s.fcu.overCount)
  | .stageCount st => some (natValue (s.fcu.stageCount st))
  | .deadCount => some (natValue s.fcu.dead)
  | .guard => some (natValue s.fcu.guard)
  | .openPending => some (flagValue s.fcu.openPending)
  | .limit h => some (optValue s.fcu.view fun v => halfOfNat v.limit h)
  | .capacity h => some (optValue s.fcu.view fun v => halfOfNat v.capacity h)
  | .cumulative h => some (optValue s.fcu.view fun v => halfOfNat v.cumulative h)
  | .position => some (optValue s.fcu.view fun v => natValue v.position)
  | _ => none

/-- The transfer direction as its number: 0 where the tie feeds no section (R173). -/
def directionNumber : Option Sec → Nat
  | none => 0
  | some .one => 1
  | some .two => 2

/-- Status of TRU (R189). -/
def State.transferStatus (s : State) : StatusItem → Option StatusValue
  | .mode => some (codeIn [.auto, .manual] s.tru.mode)
  | .transferState => some (.code s.tru.state.number)
  | .derive => some (flagValue s.tru.derive)
  | .holdFlag => some (flagValue s.tru.hold)
  | .startDemand => some (flagValue s.tru.startDemand)
  | .openDemand => some (flagValue s.tru.openDemand)
  | .parallelTimeout => some (flagValue s.tru.parallelTimeout)
  | .healthy => some (flagValue s.tru.healthy)
  | .judged => some (flagValue s.tru.judged)
  | .healthyRun => some (natValue s.tru.run)
  | .lossCount => some (natValue s.tru.lossCount)
  | .returnCount => some (natValue s.tru.returnCount)
  | .resyncCount => some (natValue s.tru.resyncCount)
  | .parallelCount => some (natValue s.tru.parallelCount)
  | .resyncReference => some (natValue s.tru.reference)
  | .resyncOffset => some (.number (if resyncStands s.tru.state then s.cfg.resyncOffset.toInt else 0))
  | .direction => some (natValue (directionNumber s.tru.direction))
  | .lastAnswer => some (optValue s.tru.lastAnswer fun a => .code a.1.number)
  | .lastAnswerCycle h => some (optValue s.tru.lastAnswer fun a => halfOfCount a.2 h)
  | _ => none

/-- What a status word reads: the block that holds the item gives it. -/
def State.statusValue (s : State) (i : StatusItem) : StatusValue :=
  ((s.boardStatus i).or ((s.protectionStatus i).or ((s.breakerStatus i).or ((s.claimStatus i).or
    ((s.syncStatus i).or ((s.unitStatus i).or ((s.feederStatus i).or (s.transferStatus i)))))))).getD .none

/-! ### The snapshot and the capture records -/

/-- What a word of the live measurement snapshot reads: the newest set, with ROCOF as it stood at the last cycle close
(R18). -/
def State.snapshotValue (s : State) (i : SnapshotItem) : StatusValue :=
  let r := s.msu.newest
  match i with
  | .label h => optValue r.label (halfOfCount · h)
  | .re c => .number (r.phasor.get c).re
  | .im c => .number (r.phasor.get c).im
  | .magnitude c => natValue (r.mag.get c)
  | .vMin => natValue r.vMin
  | .vMax => natValue r.vMax
  | .clipped c => flagValue (r.clipped.get c)
  | .p => .number r.p
  | .q => .number r.q
  | .phaseClass .va => classValue r.clsA
  | .phaseClass .vb => classValue r.clsB
  | .phaseClass .vc => classValue r.clsC
  | .phaseClass .vl => classValue r.clsL
  | .phaseClass _ => .none
  | .busClass => classValue r.busClass
  | .fBus => natValue r.fBus
  | .fLine => natValue r.fLine
  | .periodBus => natValue r.periodBus
  | .periodLine => natValue r.periodLine
  | .tBus h => optValue r.tBus (halfOfCount · h)
  | .tLine h => optValue r.tLine (halfOfCount · h)
  | .meas => measValue r.meas
  | .rocof h => optValue s.msu.rocof (halfOfInt · h)

/-- A field of a capture record (R21). -/
def CaptureRecord.value (r : CaptureRecord) : CaptureItem → StatusValue
  | .sources => sourcesValue r.sources
  | .cycle h => halfOfCount r.cycle h
  | .trigger => natValue r.trigger
  | .start => natValue r.start
  | .pre => natValue r.pre
  | .retriggered => flagValue r.retriggered
  | .lost => .none

/-- What a word of the capture records reads; with no bank HELD every word of the record reads 0 (R24). -/
def State.captureValue (s : State) (i : CaptureItem) : StatusValue :=
  match s.cap.heldBank, i with
  | _, .lost => natValue s.cap.lost
  | none, _ => .number 0
  | some b, i => (s.cap.bank b).record.value i

end Sys2Proof.Machine
end

