-- ==== Sys2Proof/Machine/Readout.lean ====
section
/-! DEFINITION. What the outside reads: the capture read window (R24), the word at every port address (chapter 12, Item space)
and the bytes on data out over a transfer (R190, R191). -/

namespace Sys2Proof.Machine

/-! ### Capture reads (R24) -/

/-- A read of offset k on a channel: the sample at (start + k) mod L of the HELD bank, or the marker 8000 hex. L is that of the
store as it stands: which L a HELD capture is read with after L has been rewritten in CONFIG is the model's choice (log 46). -/
def State.captureRead (s : State) (ch : Channel) (k : Nat) : Word :=
  match s.cap.heldBank with
  | some b =>
    if k < s.cfg.length then
      readSample (s.cap.bank b).samples (samplePlace ch (((s.cap.bank b).record.start + k) % s.cfg.length))
    else 0x8000#16
  | none => 0x8000#16

/-! ### Port items with an address (R54, R190 to R195) -/

/-- The result codes of LAST_RESULT (wire formats). -/
def ResultCode.word : ResultCode → Word
  | .accepted => 0
  | .refusedState => 1
  | .refusedLockout => 2
  | .refusedMode => 3
  | .refusedCheck => 4
  | .unknownCommand => 5

/-- An identity word; their order among 0000 to 000F is not given (log 6). -/
def identityWord (a : Word) : Word :=
  match Config.identityPlace a with
  | some 0 => 0x0B16#16
  | some 1 => 0x2416#16
  | some 2 => Config.logicRevision
  | some 3 => Config.capabilityWord
  | none => 0

/-- The halves of a status item of two words: for one half, whether it is the high one, and the other (R92). -/
def StatusItem.twin : StatusItem → Option (Bool × StatusItem)
  | .relockCycle h => some (h, .relockCycle !h)
  | .operation n (.cycle h) => some (h, .operation n (.cycle !h))
  | .iop x p h => some (h, .iop x p !h)
  | .ires x p h => some (h, .ires x p !h)
  | .closeOutcomeCycle h => some (h, .closeOutcomeCycle !h)
  | .closeRefusalCycle h => some (h, .closeRefusalCycle !h)
  | .closeFail h => some (h, .closeFail !h)
  | .uncommandedClose h => some (h, .uncommandedClose !h)
  | .uncommandedOpen h => some (h, .uncommandedOpen !h)
  | .discrepant h => some (h, .discrepant !h)
  | .operatorResultCycle h => some (h, .operatorResultCycle !h)
  | .feederClose x h => some (h, .feederClose x !h)
  | .sinceFeederClose x h => some (h, .sinceFeederClose x !h)
  | .abortCycle h => some (h, .abortCycle !h)
  | .dv h => some (h, .dv !h)
  | .advance h => some (h, .advance !h)
  | .checkCycle h => some (h, .checkCycle !h)
  | .syncEndingCycle h => some (h, .syncEndingCycle !h)
  | .limit h => some (h, .limit !h)
  | .capacity h => some (h, .capacity !h)
  | .cumulative h => some (h, .cumulative !h)
  | .lastAnswerCycle h => some (h, .lastAnswerCycle !h)
  | _ => none

/-- The halves of a snapshot item of two words: the 32-bit label and crossing times, and ROCOF, which has no clamp (R17); every
other number fits one word. Which numbers take two is the model's choice (log 6). -/
def SnapshotItem.twin : SnapshotItem → Option (Bool × SnapshotItem)
  | .label h => some (h, .label !h)
  | .tBus h => some (h, .tBus !h)
  | .tLine h => some (h, .tLine !h)
  | .rocof h => some (h, .rocof !h)
  | _ => none

/-- The halves of a capture item of two words. -/
def CaptureItem.twin : CaptureItem → Option (Bool × CaptureItem)
  | .cycle h => some (h, .cycle !h)
  | _ => none

/-- The item at an address `a` of a range from `lo` to `hi`. A quantity of two words lies with its high word first: a half
whose other half does not lie at the address beside it, inside the range, is no item there (R92, log 6). -/
def placedAt {α : Type} [DecidableEq α] (place : Word → Option α) (twin : α → Option (Bool × α)) (lo hi a : Word) : Option α :=
  if lo.toNat ≤ a.toNat ∧ a.toNat ≤ hi.toNat then
    (place a).filter fun i =>
      match twin i with
      | none => true
      | some (true, low) => a != hi && place (a + 1) == some low
      | some (false, high) => a != lo && place (a - 1) == some high
  else none

/-- The status item at an address of 0800 to 0FFF (log 6). -/
def statusItemAt (a : Word) : Option StatusItem := placedAt Config.statusAt StatusItem.twin 0x0800 0x0FFF a

/-- The word of the snapshot at an address of 1000 to 103F (log 6). -/
def snapshotItemAt (a : Word) : Option SnapshotItem := placedAt Config.snapshotAt SnapshotItem.twin 0x1000 0x103F a

/-- The word of the capture records at an address of 1300 to 131F (log 6). -/
def captureItemAt (a : Word) : Option CaptureItem := placedAt Config.captureAt CaptureItem.twin 0x1300 0x131F a

/-- The word a status value reads as at its address. -/
def StatusValue.word (a : Word) : StatusValue → Word
  | .none => Config.statusNone a
  | .number n => toWord n
  | .code n => Config.statusCode a n

/-- The word at an address; one that holds no item reads 0 (R191). The store reads in the instance GROUP_ACCESS selects (R84,
R192). -/
def State.portRead (s : State) (a : Word) : Word :=
  let n := a.toNat
  if n < 0x10 then identityWord a
  else if n = 0x80 then s.cfp.attention
  else if n = 0x81 then s.cfp.enable
  else if n = 0x82 then (if s.cfp.groupAccess then 1 else 0)
  else if n = 0x83 then 0
  else if n = 0x90 then s.cfp.result.code.word
  else if n = 0x91 then s.cfp.result.command
  else if n = 0x92 then BitVec.ofNat 16 s.cfp.result.check
  else if 0x100 ≤ n ∧ n < 0x500 then ((storeItemAt a).map (s.cfg.read s.cfp.groupAccess)).getD 0
  else if n = 0x500 then s.cfg.gain.ia
  else if n = 0x501 then s.cfg.gain.va
  else if 0x800 ≤ n ∧ n < 0x1000 then ((statusItemAt a).map fun i => (s.statusValue i).word a).getD 0
  else if 0x1000 ≤ n ∧ n < 0x1040 then ((snapshotItemAt a).map fun i => (s.snapshotValue i).word a).getD 0
  else if 0x1100 ≤ n ∧ n < 0x1300 then
    ((allStations[(n - 0x1100) / 0x20]?).map fun k => (s.blockWords k).getD ((n - 0x1100) % 0x20) 0).getD 0
  else if 0x1300 ≤ n ∧ n < 0x1320 then ((captureItemAt a).map fun i => (s.captureValue i).word a).getD 0
  else if 0x2000 ≤ n ∧ n < 0x3C00 then
    ((allChannels[(n - 0x2000) / 0x400]?).map fun ch => s.captureRead ch ((n - 0x2000) % 0x400)).getD 0
  else 0

/-! ### Data out of a transfer (R54, R190, R191) -/

/-- The words a READ takes from an address, each from the state at its own moment. A word of a Peer Image block whose first
word the transfer has taken comes from the read buffer, which that word filled (R54, R191). -/
def readWords (inBlock : Bool) (a : Word) : List State → List Word
  | [] => []
  | s :: later =>
    let buffered := inBlock && decide (0x1100 ≤ a.toNat ∧ a.toNat < 0x1300) && (blockAt a).isNone
    (if buffered then s.cfp.readBuffer.getD ((a.toNat - 0x1100) % 0x20) 0 else s.portRead a)
      :: readWords (buffered || (blockAt a).isSome) (a + 1) later

/-- The bytes on data out over a transfer, `moments` being the state at the falling edge of each data word: 0 while the command
and the two address bytes are clocked, then the words of a READ, and 0 for words beyond a nonzero count (R190). That data out is
0 too while a WRITE, an EXEC or a NOP is clocked further is the model's choice (log 69). -/
def transferOut (bytes : List Byte) (moments : List State) : List Byte :=
  let words :=
    match bytes with
    | b :: hi :: lo :: _ =>
      if portKind b = PortKind.read then (readWords false (portWord hi lo) (takeCounted (portCount b) moments)).flatMap wordBytes
      else []
    | _ => []
  (List.replicate 3 0 ++ words ++ List.replicate bytes.length 0).take bytes.length

end Sys2Proof.Machine
end

