-- ==== Sys2Proof/Safety.lean ====
section
/-! DEFINITION. What counts as a safe station: the conditions every command keeps, in the terms claims use. Each is a
condition on one state; that a step keeps it is a claim of its own. -/

namespace Sys2Proof.Machine

/-! ### The breaker's two outputs (R106 to R111, R117) -/

/-- CLOSE is asserted in CLOSING alone. -/
def State.closeOnlyClosing (s : State) : Prop := s.bcu.close = true → s.bcu.state = .closing

/-- TRIP is asserted exactly in OPENING and FAILED_OPEN. -/
def State.tripExactly (s : State) : Prop := s.bcu.trip = true ↔ s.bcu.state = .opening ∨ s.bcu.state = .failedOpen

/-- A close has an owner exactly while the breaker is CLOSING (R106, R114). -/
def State.ownedExactly (s : State) : Prop := s.bcu.owner.isSome = true ↔ s.bcu.state = .closing

/-- The two breaker outputs stand as their states have them. -/
def State.OutputsOk (s : State) : Prop := s.closeOnlyClosing ∧ s.tripExactly ∧ s.ownedExactly

/-- CLOSE is never asserted by a station that is locked out (R97, R106, R108). -/
def State.CloseUnlocked (s : State) : Prop := s.OutputsOk ∧ (s.bcu.close = true → s.dbu.lockout = false)

/-! ### The capture banks (R19 to R25) -/

/-- The states two banks can stand in during RUN: one of them is ACTIVE or in POST, and only an ACTIVE bank stands beside a
HELD one (R19, R21, R22). -/
def banksRun (x y : BankState) : Bool :=
  (x == .active && (y == .free || y == .held)) || (x == .post && y == .free)

/-- The states two banks can stand in during CONFIG: none records, and at most one is HELD (R25). -/
def banksConfig (x y : BankState) : Bool := x == .free && (y == .free || y == .held)

/-- The two banks stand as the run state lets them. -/
def State.BanksOk (s : State) : Prop :=
  if s.cfp.run = .run then (banksRun s.cap.a.state s.cap.b.state || banksRun s.cap.b.state s.cap.a.state) = true
  else (banksConfig s.cap.a.state s.cap.b.state || banksConfig s.cap.b.state s.cap.a.state) = true

/-- The sample memory of both banks is in its canonical form. -/
def State.SamplesOk (s : State) : Prop := Memory.wf s.cap.a.samples = true ∧ Memory.wf s.cap.b.samples = true

/-! ### The bias codes (R6, R145, R162) -/

/-- A code of the 12-bit bias interface. -/
def biasCode (x : Int) : Prop := -2048 ≤ x ∧ x ≤ 2047

/-- The bias codes are within their range, and 0 in CONFIG and in a station that is no generator; so are the codes the
interface converters hold. -/
def State.BiasOk (s : State) : Prop :=
  (biasCode s.gcu.speed ∧ biasCode s.gcu.volt) ∧ (biasCode s.cvp.speedSent.toInt ∧ biasCode s.cvp.voltSent.toInt) ∧
    ((s.cfp.run = .config ∨ s.cfg.isRole .generator = false) → s.gcu.speed = 0 ∧ s.gcu.volt = 0)

/-! ### Run control and the counts -/

/-- A station in RUN has a store that passes every check (R194). -/
def State.CheckedOk (s : State) : Prop := s.cfp.run = .run → s.cfg.checkCode = 0

/-- The link is OFF exactly in CONFIG (R26, R32). -/
def State.LinkOk (s : State) : Prop := s.lkc.link = .off ↔ s.cfp.run = .config

/-- The counts that saturate stand at or below their tops (R3, R21, R33 to R36, R40, R41, R89, R91, R110). -/
def State.CountsOk (s : State) : Prop :=
  (s.cvp.missing ≤ 255 ∧ s.cvp.bad ≤ 2) ∧ s.cap.lost ≤ 255
    ∧ (s.lkc.silence ≤ 3 ∧ s.lkc.mismatches ≤ 255 ∧ s.lkc.lates ≤ 255 ∧ s.lkc.relocks ≤ 255)
    ∧ ((s.dbu.s1.confirm ≤ 4 ∧ s.dbu.s1.blocked ≤ 3) ∧ s.dbu.s2.confirm ≤ 4 ∧ s.dbu.s2.blocked ≤ 3)
    ∧ s.bcu.hold ≤ 2 ∧ s.pru.operations.length ≤ 8

/-- A synchronising attempt has an owner exactly while it stands, and SYNC_PERMIT is active in CLOSING alone
(R131, R137, R139, R141). -/
def State.AttemptOk (s : State) : Prop :=
  (s.syu.owner.isSome = true ↔ s.syu.state ≠ .idle) ∧ (s.syu.permit = true → s.syu.state = .closing)

/-! ### What an event brings in the other blocks -/

/-- Everything but the blocks an event's consequences reach is as it was: BCU, DBU, CLU, SYU, GCU, FCU, TRU and the pending
attention bits may have changed, and no bit has been cleared. -/
structure State.Consequence (s t : State) : Prop where
  rest : t = { s with
    bcu := t.bcu, dbu := t.dbu, clu := t.clu, syu := t.syu, gcu := t.gcu, fcu := t.fcu, tru := t.tru,
    cfp := { s.cfp with attention := t.cfp.attention } }
  bits : s.cfp.attention &&& t.cfp.attention = s.cfp.attention

end Sys2Proof.Machine
end

