-- ==== Sys2Proof/Certificates/Slice0/Obligations.lean ====
section
/-! DEFINITION. The statements for the provers. -/

section StatementsOfSliceZero

open Sys2Proof Sys2Proof.Machine

/-! ### The queue and the resets -/

/-- A step takes the command at the front of the queue and performs it on the state with the queue's rest; on an empty
queue the part idles (log 4: the model's choice). -/
def Obligations.StepTakesTheFrontCommand : Prop :=
  (∀ (c : Instr) (rest : List Instr) (s : State), step (s.withPending (c :: rest)) = exec c (s.withPending rest)) ∧
  ∀ s : State, step (s.withPending []) = .next (s.withPending [])

/-- What power-on reset leaves, as chapters 1 to 12 give it: CONFIG with the default store, no attention bit pending or
enabled, LAST_RESULT ACCEPTED with number 0, link OFF, breaker UNKNOWN with neither output, lockout clear, and every unit
at rest in MANUAL. -/
def Obligations.ResetLeavesThePowerOnValues : Prop :=
  (State.reset.cfp.run = .config ∧ State.reset.cfg = Settings.default ∧ State.reset.cfg.checkCode = 0) ∧
  (State.reset.cfp.attention = 0 ∧ State.reset.cfp.enable = 0 ∧ State.reset.cfp.groupAccess = false) ∧
  State.reset.cfp.result = { code := .accepted, command := 0, check := 0 } ∧
  (State.reset.cvp.meas = .warmup ∧ State.reset.msu.newest = .empty ∧ State.reset.msu.rocof = none) ∧
  (State.reset.cap.a.state = .free ∧ State.reset.cap.b.state = .free ∧ State.reset.cap.lost = 0) ∧
  (State.reset.lkc.link = .off ∧ State.reset.lkc.number = 0 ∧ State.reset.lkc.count = 0) ∧
  (∀ k : Station, State.reset.pim.get k = { record := none, accepted := 0, expected := false, crcErrors := 0 }) ∧
  (State.reset.top.map = .unknown ∧ State.reset.top.locked1 = false ∧ State.reset.top.locked2 = false) ∧
  ((∀ e : Element, (State.reset.pru.elements.get e).state = .quiet) ∧ State.reset.pru.operations = []) ∧
  (State.reset.dbu.lockout = false ∧ State.reset.dbu.timer = .idle ∧ State.reset.dbu.notice = false) ∧
  (State.reset.bcu.state = .unknown ∧ State.reset.bcu.trip = false ∧ State.reset.bcu.close = false) ∧
  (State.reset.clu.claim = none ∧ State.reset.syu.state = .idle) ∧
  (State.reset.gcu.unit = .idle ∧ State.reset.gcu.mode = .off ∧ State.reset.gcu.speed = 0 ∧ State.reset.gcu.volt = 0) ∧
  (State.reset.fcu.state = .normal ∧ State.reset.fcu.reason = .none ∧ State.reset.fcu.cause = .none) ∧
  (State.reset.tru.mode = .manual ∧ State.reset.tru.state = .manual ∧ State.reset.tru.hold = false)

/-- POWER_ON_RESET and RESET_N leave the same state: every block at its power-on values. The waiting commands, the levels
on the input pins and the codes the interface converters hold lie outside the part and stand (log 8: the model's
choice). SOFT_RESET in CONFIG leaves what power-on reset leaves, and then its own ACCEPTED in LAST_RESULT; in RUN it
is refused and changes nothing else. -/
def Obligations.ResetsRestoreEveryBlock : Prop :=
  (∀ s : State, ∃ t, exec .powerOnReset s = .next t ∧ exec .resetN s = .next t ∧
    t = { State.reset with
      pending := s.pending, bcu := { State.reset.bcu with lines := t.bcu.lines },
      cvp := { State.reset.cvp with speedSent := s.cvp.speedSent, voltSent := s.cvp.voltSent } } ∧
    ∀ i : Fin 8, t.bcu.lines.get i = { high := (s.bcu.lines.get i).high, read := none, level := none, hold := 0 }) ∧
  ∀ s : State,
    (s.cfp.run = .config → ∃ t, exec .powerOnReset s = .next t ∧
      exec .softReset s = .next
        { t with cfp := { t.cfp with result := { code := .accepted, command := 3, check := 0 } } }) ∧
    (s.cfp.run = .run → exec .softReset s = .next
      { s with cfp := { s.cfp with result := { code := .refusedState, command := 3, check := 0 } } })

/-- Every command completes in every state and leaves the queue of waiting commands as it is; that the queue stands over a
reset is log 8's choice, and that a timed command completes in CONFIG with no effect is log 14's (DEDUCED). What only
some commands can do: lockout is cleared by a reset and by RESET_LATCH alone; in RUN the store is changed by
POWER_ON_RESET and RESET_N alone; and the run state is changed by START, STOP and those two alone. -/
def Obligations.CommandsCompleteAndKeepTheirBounds : Prop :=
  ∀ (c : Instr) (s : State), ∃ t, exec c s = .next t ∧ t.pending = s.pending ∧
    (s.dbu.lockout = true → t.dbu.lockout = false →
      c = .powerOnReset ∨ c = .resetN ∨ c = .softReset ∨ c = .resetLatch) ∧
    (s.cfp.run = .run → t.cfg ≠ s.cfg → c = .powerOnReset ∨ c = .resetN) ∧
    (t.cfp.run ≠ s.cfp.run → c = .powerOnReset ∨ c = .resetN ∨ c = .start ∨ c = .stop)

/-! ### Run control -/

/-- The check code is the number of the first check of R194's table that the store fails, and 0 when it passes all
eighteen; and what each of the eighteen checks tests, with the ranges of the chapters. A range that the table does not
name is not tested (V_u_hi against 46339, f_u_lo against 1): log 13, the model's choice. That the polarity −1 is the
word FFFF hex, read in two's complement, is log 47, the model's choice. -/
def Obligations.CheckCodeIsTheFirstFailure : Prop :=
  ∀ c : Settings,
    ((c.checkCode = 0 ↔ ∀ b ∈ c.checks, b = true) ∧ c.checks.length = 18 ∧
      ∀ n : Nat, c.checkCode = n + 1 ↔ c.checks[n]? = some false ∧ ∀ m < n, c.checks[m]? = some true) ∧
    (c.checks[0]? = some true ↔ c.station.toNat ≤ 15) ∧
    (c.checks[1]? = some true ↔ c.role ≠ none ∧ c.sect.toNat ≤ 2 ∧ (c.sect = 0#16 ↔ c.role = some .tie)) ∧
    (c.checks[2]? = some true ↔ c.station.toNat ≤ 15 ∧ c.peerMask.getLsbD c.station.toNat = true) ∧
    (c.checks[3]? = some true ↔ (c.fNom.toNat = 50 ∨ c.fNom.toNat = 60) ∧ c.strobeOffset.toNat ≤ 15) ∧
    (c.checks[4]? = some true ↔ (∀ ch : Channel, (c.gain.get ch).toNat ≤ 32767) ∧
      (∀ w ∈ [c.rI, c.rVB, c.rVL], 1 ≤ w.toNat ∧ w.toNat ≤ 32767) ∧ (c.polarity.toInt = 1 ∨ c.polarity.toInt = -1)) ∧
    (c.checks[5]? = some true ↔ c.vDead.toNat < c.vLive.toNat ∧ c.vLive.toNat ≤ 46339) ∧
    (c.checks[6]? = some true ↔ (c.capLen.toNat = 256 ∨ c.capLen.toNat = 512 ∨ c.capLen.toNat = 1024) ∧
      32 ≤ c.pre.toNat ∧ c.pre.toNat ≤ c.capLen.toNat - 32 ∧ 8 ∣ c.pre.toNat) ∧
    (c.checks[7]? = some true ↔ ∀ i : Fin 8, (c.inputs.get i).fn ≠ none ∧ (c.outputs.get i).src ≠ none) ∧
    (c.checks[8]? = some true ↔ (∃ i : Fin 8, ∀ j : Fin 8, (c.inputs.get j).fn = some .brkClosed ↔ j = i) ∧
      ∃ i : Fin 8, ∀ j : Fin 8, (c.inputs.get j).fn = some .brkOpen ↔ j = i) ∧
    (c.checks[9]? = some true ↔ (∃ i : Fin 8, ∀ j : Fin 8, (c.outputs.get j).src = some .trip ↔ j = i) ∧
      ∃ i : Fin 8, ∀ j : Fin 8, (c.outputs.get j).src = some .close ↔ j = i) ∧
    (c.checks[10]? = some true ↔ (c.role = some .generator → ∃ i : Fin 8, (c.inputs.get i).fn = some .engineReady)) ∧
    (c.checks[11]? = some true ↔ (1 ≤ c.debounce.toNat ∧ c.debounce.toNat ≤ 16) ∧
      (2 ≤ c.tCloseMax.toNat ∧ c.tCloseMax.toNat ≤ 400) ∧ 2 ≤ c.tDisc.toNat ∧ c.tDisc.toNat ≤ 1000) ∧
    (c.checks[12]? = some true ↔ c.faultMode ≠ none ∧ c.sourceMode ≠ none ∧
      (∀ g ∈ [c.fault0, c.fault1], g.overIAction ≠ none ∧ g.highIAction ≠ none ∧
        (1 ≤ g.overIPickup.toNat ∧ g.overIPickup.toNat ≤ 46339) ∧ (1 ≤ g.highIPickup.toNat ∧ g.highIPickup.toNat ≤ 46339) ∧
        1 ≤ g.overIDelay.toNat) ∧
      ∀ g ∈ [c.source0, c.source1],
        (∀ w ∈ [g.underV, g.overV, g.underF, g.overF, g.rocof, g.revPower], w.action ≠ none ∧ 1 ≤ w.delay.toNat) ∧
        (∀ w ∈ [g.underV, g.overV], w.pickup.toNat ≤ 46339) ∧
        (∀ w ∈ [g.underF, g.overF, g.rocof], 1 ≤ w.pickup.toNat) ∧
        1 ≤ g.revPower.pickup.toNat ∧ g.revPower.pickup.toNat ≤ 32767) ∧
    (c.checks[13]? = some true ↔ (∀ g ∈ [c.fault0, c.fault1], g.diffAction ≠ none ∧ 1 ≤ g.ipu.toNat ∧
        (8 ≤ g.slope.toNat ∧ g.slope.toNat ≤ 56) ∧ 1 ≤ g.confirm.toNat ∧ g.confirm.toNat ≤ 4) ∧
      2 ≤ c.tBf.toNat ∧ c.tBf.toNat ≤ 100) ∧
    (c.checks[14]? = some true ↔ 1 ≤ c.tRestore.toNat ∧ (1 ≤ c.sMax.toNat ∧ c.sMax.toNat ≤ 500) ∧ c.direction ≠ none ∧
      c.dvMax.toNat ≤ 16384 ∧ (1 ≤ c.window.toNat ∧ c.window.toNat ≤ 900) ∧
      (20 ≤ c.tCloseMs.toNat ∧ c.tCloseMs.toNat ≤ 250) ∧ 1 ≤ c.tSyncMax.toNat) ∧
    (c.checks[15]? = some true ↔ (1 ≤ c.pRated.toNat ∧ c.pRated.toNat ≤ 32767) ∧
      (∀ w ∈ [c.tStart, c.tRetry, c.tUnload, c.tCool], 1 ≤ w.toNat) ∧ c.lBase.toNat ≤ 8191 ∧ c.lOff.toNat ≤ 4096 ∧
      (1 ≤ c.ramp.toNat ∧ c.ramp.toNat ≤ 4096) ∧ (-50 ≤ c.sTarget.toInt ∧ c.sTarget.toInt ≤ 50) ∧
      (∀ w ∈ [c.gS, c.gV, c.gF, c.gU], w.toNat ≤ 255) ∧ c.gL.toNat ≤ 4095 ∧ c.gQ.toNat ≤ 4095) ∧
    (c.checks[16]? = some true ↔ (1 ≤ c.priority.toNat ∧ c.priority.toNat ≤ 15) ∧ c.margin.toNat ≤ 4096 ∧
      (∀ x ∈ [c.stage1, c.stage2], 1 ≤ x.delay.toNat ∧ 1 ≤ x.threshold.toNat ∧ x.threshold.toNat ≤ 16) ∧
      1 ≤ c.pDead.toNat ∧ c.pDead.toNat ≤ 16) ∧
    (c.checks[17]? = some true ↔ c.startMode ≠ none ∧ c.vULo.toNat < c.vUHi.toNat ∧ c.fULo.toNat < c.fUHi.toNat ∧
      (∀ w ∈ [c.tLoss, c.tReturnShort, c.tReturn, c.tResync, c.tParallelMax], 1 ≤ w.toNat) ∧
      -50 ≤ c.resyncOffset.toInt ∧ c.resyncOffset.toInt ≤ 50)

/-- START that is refused changes LAST_RESULT alone: REFUSED_STATE in RUN, REFUSED_CHECK with the check code in CONFIG
when a check fails. START that is accepted: RUN with the store kept; the link in LISTEN with number and count 0; an
empty image whose expected flags are the peer mask; elements QUIET; lockout kept; the breaker UNKNOWN with no
debounced level; no claim and no attempt; a generator's FAIL, SHED, MANUAL_OPEN and the hold kept; bank A recording
when it is FREE and else bank B; the mode of the store, with a derivation pending in AUTO. Rests on the log where the
rules are silent: what a cycle close forms is cleared and the last outcome and refusal are kept (29), the values of
items without one (32), the pins and the queue stand (8), no attention bit is set (36), a feeder's state is kept in
another role too (57). -/
def Obligations.StartEntersRun : Prop :=
  (∀ s : State,
    (s.cfp.run = .run → exec .start s = .next
      { s with cfp := { s.cfp with result := { code := .refusedState, command := 1, check := 0 } } }) ∧
    (s.cfp.run = .config → s.cfg.checkCode ≠ 0 → exec .start s = .next
      { s with cfp := { s.cfp with result := { code := .refusedCheck, command := 1, check := s.cfg.checkCode } } })) ∧
  ∀ s : State, s.cfp.run = .config → s.cfg.checkCode = 0 → ∃ t, exec .start s = .next t ∧
    (t.cfg = s.cfg ∧ t.pending = s.pending ∧
      t.cfp = { s.cfp with run := .run, result := { code := .accepted, command := 1, check := 0 } }) ∧
    (t.cvp.meas = .warmup ∧ t.cvp.sets = 0 ∧ t.cvp.inFlight = false ∧ t.msu = State.reset.msu) ∧
    ((s.cap.a.state = .free → t.cap = { s.cap with
        lost := 0, a := { s.cap.a with state := .active, index := 0, written := 0, post := 0 } }) ∧
      (s.cap.a.state ≠ .free → t.cap = { s.cap with
        lost := 0, b := { s.cap.b with state := .active, index := 0, written := 0, post := 0 } })) ∧
    (t.lkc.link = .listen ∧ t.lkc.unlocked = true ∧ t.lkc.number = 0 ∧ t.lkc.count = 0 ∧ t.lkc.preCycle = true ∧
      t.lkc.reference = none ∧ t.lkc.silence = 0 ∧ t.lkc.alignment = .aligned ∧ t.lkc.mismatches = 0 ∧ t.lkc.lates = 0 ∧
      t.lkc.relocks = 0 ∧ t.lkc.crcError = s.lkc.crcError ∧ t.lkc.slotMismatch = s.lkc.slotMismatch ∧
      t.lkc.late = s.lkc.late ∧ t.lkc.duplicateSeen = s.lkc.duplicateSeen ∧
      t.lkc.referenceMissing = s.lkc.referenceMissing) ∧
    (∀ k : Station, t.pim.get k =
      { record := none, accepted := 0, expected := s.cfg.peerMask.getLsbD k.val, crcErrors := 0 }) ∧
    (t.top = State.reset.top ∧ t.clu = State.reset.clu ∧ t.syu = State.reset.syu) ∧
    (t.pru = { s.pru with elements := t.pru.elements, tripActive := false } ∧
      ∀ e : Element, t.pru.elements.get e = { state := .quiet, count := 0, phases := { a := false, b := false, c := false } }) ∧
    t.dbu = { State.reset.dbu with lockout := s.dbu.lockout, lockoutSource := s.dbu.lockoutSource } ∧
    (t.bcu = { State.reset.bcu with
        lines := t.bcu.lines, lastOutcome := s.bcu.lastOutcome, lastRefusal := s.bcu.lastRefusal } ∧
      ∀ i : Fin 8, t.bcu.lines.get i = { high := (s.bcu.lines.get i).high, read := none, level := none, hold := 0 }) ∧
    t.gcu = (if s.gcu.unit = .fail ∧ s.cfg.role = some .generator then { State.reset.gcu with unit := .fail, failReason := s.gcu.failReason }
      else State.reset.gcu) ∧
    t.fcu = { State.reset.fcu with
      state := if s.fcu.state = .restoring then .shed else s.fcu.state, reason := s.fcu.reason, cause := s.fcu.cause,
      held := s.fcu.held } ∧
    t.tru = { State.reset.tru with
      mode := if s.cfg.startMode = some .auto then .auto else .manual, hold := s.tru.hold,
      derive := decide (s.cfg.startMode = some .auto ∧
        (s.cfg.role = some .incomer ∨ (s.cfg.role = some .tie ∧ s.cfg.tieTransfer = true))) }

/-- STOP is accepted in RUN with the breaker OPEN and neither output asserted, and refused otherwise with nothing else
changed. Accepted, it enters CONFIG: link OFF, the image without records, elements QUIET, the BF timer idle, the
breaker UNKNOWN, no claim, no attempt, the final bias transfer 0 and 0, the transfer state MANUAL; the store, the
pending bits already set, the operation list, the alarm record, lockout, mode and hold are kept. A transmission in
progress is cut short. Items that no rule names at STOP, such as the listen and silent-slot counts, are kept: log 29.
That a shed or open feeder keeps its state whatever its role becomes is log 57, the model's choice. -/
def Obligations.StopEntersConfigWithAnOpenBreaker : Prop :=
  ∀ s : State,
    ((s.cfp.run = .run ∧ s.bcu.state = .opened ∧ s.bcu.trip = false ∧ s.bcu.close = false) → ∃ t, exec .stop s = .next t ∧
      (t.cfg = s.cfg ∧ t.pending = s.pending ∧ t.cfp.run = .config ∧
        t.cfp.result = { code := .accepted, command := 2, check := 0 } ∧
        s.cfp.attention &&& t.cfp.attention = s.cfp.attention ∧ t.cfp.enable = s.cfp.enable) ∧
      (t.cvp.speedSent = 0 ∧ t.cvp.voltSent = 0 ∧ t.msu = s.msu) ∧
      (t.cap.a.state = (if s.cap.a.state = .held then .held else .free) ∧
        t.cap.b.state = (if s.cap.b.state = .held then .held else .free)) ∧
      t.lkc = { s.lkc with link := .off, sending := false, txCut := s.lkc.txCut || s.lkc.sending } ∧
      (∀ k : Station, t.pim.get k = { s.pim.get k with record := none, accepted := 0 }) ∧
      (t.pru = { s.pru with elements := t.pru.elements, tripActive := false } ∧
        ∀ e : Element, (t.pru.elements.get e).state = .quiet) ∧
      t.dbu = { State.reset.dbu with lockout := s.dbu.lockout, lockoutSource := s.dbu.lockoutSource } ∧
      (t.bcu.state = .unknown ∧ t.bcu.trip = false ∧ t.bcu.close = false ∧ t.bcu.reconfirm = none ∧
        t.bcu.owner = none ∧ t.bcu.lines = s.bcu.lines ∧ t.bcu.alarms = s.bcu.alarms) ∧
      (t.clu.claim = none ∧ t.clu.inFlight = none ∧ t.clu.pendingClose = false) ∧
      (t.syu.state = .idle ∧ t.syu.permit = false) ∧
      (t.gcu.speed = 0 ∧ t.gcu.volt = 0 ∧ 
        t.gcu.unit = (if s.gcu.unit = .fail ∧ s.cfg.role = some .generator then .fail else .idle)) ∧
      t.fcu.state = (if s.fcu.state = .restoring then .shed else s.fcu.state) ∧
      (t.tru.state = .manual ∧ t.tru.startDemand = false ∧ t.tru.openDemand = false ∧ t.tru.parallelTimeout = false ∧
        t.tru.derive = false ∧ t.tru.mode = s.tru.mode ∧ t.tru.hold = s.tru.hold)) ∧
    (¬(s.cfp.run = .run ∧ s.bcu.state = .opened ∧ s.bcu.trip = false ∧ s.bcu.close = false) → exec .stop s = .next
      { s with cfp := { s.cfp with result := { code := .refusedState, command := 2, check := 0 } } })

/-- In CONFIG the commands that need RUN are refused with REFUSED_STATE, and only LAST_RESULT changes. -/
def Obligations.CommandsOfRunAreRefusedInConfig : Prop :=
  ∀ s : State, s.cfp.run = .config →
    ∀ p ∈ [(Instr.stop, (2 : Word)), (.openBreaker, 4), (.closeBreaker, 5), (.setAuto, 6), (.setManual, 7),
        (.retransferNow, 8), (.resetLatch, 9), (.triggerCapture, 11)],
      exec p.1 s = .next { s with cfp := { s.cfp with result := { code := .refusedState, command := p.2, check := 0 } } }

/-! ### Operator commands -/

/-- OPEN in RUN is ACCEPTED in every breaker state. TRIP is asserted from UNKNOWN, CLOSED, DISCREPANT and CLOSING, the
last with CLOSE released and TRIPPED handed to the close owner; OPEN, OPENING and FAILED_OPEN stay as they are. The BF
timer starts when idle unless the breaker is OPEN or FAILED_OPEN. Nothing changes outside BCU, DBU, CLU, SYU, GCU,
FCU, TRU and the pending bits. OPEN in RUN also takes the station out of what it was about to do: a feeder stands in
MANUAL_OPEN for OPERATOR with no held load; the pending operator close is cleared and an operator claim withdrawn; an
incomer in AUTO holds, leaving NORMAL and LOSS_CONFIRM for DEAD_WAIT and RETURN_WAIT, RESYNC and PARALLEL for
ON_ALTERNATE; a tie in AUTO whose transfer is enabled stands in MANUAL. -/
def Obligations.OpenActsOnTheStateItFinds : Prop :=
  (∀ s : State, s.cfp.run = .run → ∃ t, exec .openBreaker s = .next t ∧
    State.Consequence { s with cfp := { s.cfp with result := { code := .accepted, command := 4, check := 0 } } } t ∧
    t.dbu = (if s.dbu.timer = .idle ∧ s.bcu.state ≠ .opened ∧ s.bcu.state ≠ .failedOpen
      then { s.dbu with timer := .running 0 } else s.dbu) ∧
    t.bcu = match s.bcu.state with
      | .opened => { s.bcu with trippedNow := true }
      | .opening => { s.bcu with trippedNow := true }
      | .failedOpen => { s.bcu with trippedNow := true }
      | .closing => { s.bcu with
          state := .opening, close := false, trip := true, hold := 0, reconfirm := some 0, supervision := 0,
          discrepancy := none, owner := none, lastOutcome := some (.tripped, s.lkc.count), endedNow := true,
          trippedNow := true }
      | _ => { s.bcu with
          state := .opening, close := false, trip := true, hold := 0, reconfirm := some 0, supervision := 0,
          discrepancy := none, trippedNow := true }) ∧
  ∀ s : State, s.cfp.run = .run → ∃ t, exec .openBreaker s = .next t ∧
    (s.cfg.role = some .feeder → t.fcu = { s.fcu with
      state := .manualOpen, reason := .none, cause := .operator, held := 0,
      openPending := s.fcu.openPending || s.fcu.state == .restoring }) ∧
    (t.clu.pendingClose = false ∧ ∀ c, t.clu.claim = some c → c.origin ≠ .operator) ∧
    (s.cfg.role = some .incomer → s.tru.mode = .auto → t.tru.hold = true ∧ t.tru.mode = .auto ∧
      match s.tru.state with
      | .normal => t.tru.state = .deadWait
      | .lossConfirm => t.tru.state = .deadWait
      | .returnWait => t.tru.state = .onAlternate
      | .resync => t.tru.state = .onAlternate
      | .parallel => t.tru.state = .onAlternate
      | .openReturn => t.tru.state = .openReturn ∨ t.tru.state = .deadWait
      | x => t.tru.state = x) ∧
    (s.cfg.role = some .tie → s.cfg.tieTransfer = true → s.tru.mode = .auto →
      t.tru.mode = .manual ∧ t.tru.state = .manual)

/-- CLOSE in RUN as the Claim Unit takes it (in MANUAL, or in AUTO in a feeder or a tie whose transfer is disabled):
refused with REFUSED_LOCKOUT under a lockout or its view, with REFUSED_STATE when the breaker is not OPEN or a close,
a claim or a close in flight stands; otherwise ACCEPTED, and the operator close is pending. Nothing else changes.
CLOSE in AUTO is refused with REFUSED_MODE in a generator and in a tie whose transfer is enabled. An incomer refuses
it under its own lockout; it takes it in ON_ALTERNATE and RETURN_WAIT, to RESYNC when the last health was HEALTHY and
else to ON_ALTERNATE, and in DEAD_WAIT, which stands, each time with the hold cleared; in every other state it refuses
it with REFUSED_MODE. -/
def Obligations.CloseIsJudgedByTheClaimUnit : Prop :=
  (∀ s : State, s.cfp.run = .run →
    (s.tru.mode = .manual ∨ s.cfg.role = some .feeder ∨ (s.cfg.role = some .tie ∧ s.cfg.tieTransfer = false)) →
    exec .closeBreaker s = .next
      (if s.dbu.lockout = true ∨ s.top.ownLocked s.cfg = true then
        { s with cfp := { s.cfp with result := { code := .refusedLockout, command := 5, check := 0 } } }
      else if s.bcu.state ≠ .opened ∨ s.clu.pendingClose = true ∨ s.clu.claim ≠ none ∨ s.clu.inFlight ≠ none then
        { s with cfp := { s.cfp with result := { code := .refusedState, command := 5, check := 0 } } }
      else { s with
        clu := { s.clu with pendingClose := true },
        cfp := { s.cfp with result := { code := .accepted, command := 5, check := 0 } } })) ∧
  ∀ s : State, s.cfp.run = .run → s.tru.mode = .auto →
    ((s.cfg.role = some .generator ∨ (s.cfg.role = some .tie ∧ s.cfg.tieTransfer = true)) → exec .closeBreaker s = .next
      { s with cfp := { s.cfp with result := { code := .refusedMode, command := 5, check := 0 } } }) ∧
    (s.cfg.role = some .incomer → s.dbu.lockout = true → exec .closeBreaker s = .next
      { s with cfp := { s.cfp with result := { code := .refusedLockout, command := 5, check := 0 } } }) ∧
    (s.cfg.role = some .incomer → s.dbu.lockout = false →
      ((s.tru.state = .onAlternate ∨ s.tru.state = .returnWait) → ∃ t, exec .closeBreaker s = .next t ∧
        State.Consequence { s with cfp := { s.cfp with result := { code := .accepted, command := 5, check := 0 } } } t ∧
        t.tru.hold = false ∧
        t.tru.state = (if s.tru.healthy then .resync else .onAlternate) ∧
        (s.tru.healthy = true → t.tru.reference = s.tru.healthLine) ∧
        t.bcu = s.bcu ∧ t.dbu = s.dbu ∧ t.gcu = s.gcu ∧ t.fcu = s.fcu) ∧
      (s.tru.state = .deadWait → exec .closeBreaker s = .next
        { s with tru := { s.tru with hold := false },
                 cfp := { s.cfp with result := { code := .accepted, command := 5, check := 0 } } }) ∧
      ((s.tru.state ≠ .onAlternate ∧ s.tru.state ≠ .returnWait ∧ s.tru.state ≠ .deadWait) → exec .closeBreaker s = .next
        { s with cfp := { s.cfp with result := { code := .refusedMode, command := 5, check := 0 } } }))

/-- SET_AUTO in RUN is ACCEPTED. From MANUAL the mode becomes AUTO with TRANSFER_CHANGE, and an incomer, or a tie whose
transfer is enabled, has a derivation pending; in AUTO only LAST_RESULT changes. RETRANSFER_NOW in RUN moves an
incomer in AUTO from RETURN_WAIT to RESYNC; it is refused with REFUSED_MODE in an incomer in MANUAL, and with
REFUSED_STATE in every other state and role. -/
def Obligations.SetAutoAsksForADerivation : Prop :=
  (∀ s : State, s.cfp.run = .run →
    (s.tru.mode = .auto → exec .setAuto s = .next
      { s with cfp := { s.cfp with result := { code := .accepted, command := 6, check := 0 } } }) ∧
    (s.tru.mode = .manual → exec .setAuto s = .next
      { s with
        tru := { s.tru with
          mode := .auto,
          derive := s.tru.derive || decide (s.cfg.role = some .incomer) ||
            (decide (s.cfg.role = some .tie) && s.cfg.tieTransfer) },
        cfp := { s.cfp with
          attention := s.cfp.attention ||| 0x0040#16,
          result := { code := .accepted, command := 6, check := 0 } } })) ∧
  ∀ s : State, s.cfp.run = .run →
    (s.cfg.role = some .incomer → s.tru.mode = .auto → s.tru.state = .returnWait → ∃ t, exec .retransferNow s = .next t ∧
      State.Consequence { s with cfp := { s.cfp with result := { code := .accepted, command := 8, check := 0 } } } t ∧
      t.tru.state = .resync ∧ t.tru.resyncCount = 0 ∧
      t.tru.reference = s.tru.healthLine ∧ t.tru.hold = s.tru.hold ∧ t.bcu = s.bcu ∧ t.dbu = s.dbu ∧ t.gcu = s.gcu ∧
      t.fcu = s.fcu) ∧
    (s.cfg.role = some .incomer → s.tru.mode = .manual → exec .retransferNow s = .next
      { s with cfp := { s.cfp with result := { code := .refusedMode, command := 8, check := 0 } } }) ∧
    ((s.cfg.role ≠ some .incomer ∨ (s.tru.mode = .auto ∧ s.tru.state ≠ .returnWait)) → exec .retransferNow s = .next
      { s with cfp := { s.cfp with result := { code := .refusedState, command := 8, check := 0 } } })

/-- SET_MANUAL in RUN is ACCEPTED; in MANUAL only LAST_RESULT changes. From AUTO the mode becomes MANUAL with
TRANSFER_CHANGE; an incomer or a tie stands in MANUAL with flags, counts and direction cleared, the hold kept and neither a
claim of TRU nor an attempt of TRU in CHECKING; a generator coming on line goes to COOLDOWN with neither a claim of GCU nor
an attempt of GCU in CHECKING, one unloading to ONLINE, and every other unit state stands. BCU, DBU, FCU, the link and the image are as they were. -/
def Obligations.SetManualEndsTheSequence : Prop :=
  ∀ s : State, s.cfp.run = .run →
    (s.tru.mode = .manual → exec .setManual s = .next
      { s with cfp := { s.cfp with result := { code := .accepted, command := 7, check := 0 } } }) ∧
    (s.tru.mode = .auto → ∃ t, exec .setManual s = .next t ∧
      t = { s with clu := t.clu, syu := t.syu, gcu := t.gcu, tru := t.tru, cfp := t.cfp } ∧
      t.cfp = { s.cfp with
        attention := s.cfp.attention ||| 0x0040#16, result := { code := .accepted, command := 7, check := 0 } } ∧
      t.tru.mode = .manual ∧
      ((s.cfg.role = some .incomer ∨ s.cfg.role = some .tie) →
        t.tru.state = .manual ∧ t.tru.derive = false ∧ t.tru.hold = s.tru.hold ∧ t.tru.startDemand = false ∧
        t.tru.openDemand = false ∧ t.tru.parallelTimeout = false ∧ t.tru.direction = none ∧
        t.tru.lossCount = 0 ∧ t.tru.returnCount = 0 ∧ t.tru.resyncCount = 0 ∧ t.tru.parallelCount = 0 ∧
        t.gcu = s.gcu ∧ (∀ c, t.clu.claim = some c → c.origin ≠ .tru) ∧
        ¬(t.syu.state = .checking ∧ t.syu.owner = some .tru)) ∧
      (s.cfg.role = some .generator → t.tru = { s.tru with mode := .manual } ∧
        t.gcu.unit = (match s.gcu.unit with
          | .starting => .cooldown
          | .deadbus => .cooldown
          | .sync => .cooldown
          | .syncWait => .cooldown
          | .unload => .online
          | u => u) ∧
        ((s.gcu.unit = .starting ∨ s.gcu.unit = .deadbus ∨ s.gcu.unit = .sync ∨ s.gcu.unit = .syncWait) →
          (∀ c, t.clu.claim = some c → c.origin ≠ .gcu) ∧ ¬(t.syu.state = .checking ∧ t.syu.owner = some .gcu))) ∧
      (s.cfg.role = some .feeder → t.tru = { s.tru with mode := .manual } ∧ t.gcu = s.gcu ∧ t.clu = s.clu ∧ t.syu = s.syu))

/-- RESET_LATCH in RUN is refused with REFUSED_LOCKOUT while EXT_LOCKOUT is active, while the own BF notice is set, and
while a usable record that concerns the station carries a notice. Otherwise it is ACCEPTED and clears lockout; a generator
in FAIL goes to IDLE, and an incomer in HALTED has a derivation pending. -/
def Obligations.ResetLatchClearsLockout : Prop :=
  ∀ s : State, s.cfp.run = .run →
    ((s.fnActive .extLockout = true ∨ s.dbu.notice = true ∨ ∃ k : Station, ∃ r : BayRecord,
        s.usableRec k = some r ∧ r.bfNotice = true ∧ concerns s.cfg r = true) → exec .resetLatch s = .next
      { s with cfp := { s.cfp with result := { code := .refusedLockout, command := 9, check := 0 } } }) ∧
    ((s.fnActive .extLockout = false ∧ s.dbu.notice = false ∧ ∀ (k : Station) (r : BayRecord),
        s.usableRec k = some r → r.bfNotice = true → concerns s.cfg r = false) → ∃ t, exec .resetLatch s = .next t ∧
      t = { s with
        dbu := { s.dbu with lockout := false }, gcu := t.gcu,
        tru := (if s.cfg.role = some .incomer ∧ s.tru.state = .halted then { s.tru with derive := true } else s.tru),
        cfp := { s.cfp with
          attention := t.cfp.attention, result := { code := .accepted, command := 9, check := 0 } } } ∧
      (if s.cfg.role = some .generator ∧ s.gcu.unit = .fail then
        t.gcu = { s.gcu with unit := .idle, failReason := .none, enteredNow := true } ∧
          t.cfp.attention = s.cfp.attention ||| 0x0040#16
      else t.gcu = s.gcu ∧ t.cfp.attention = s.cfp.attention))

/-! ### Capture, attention and the port -/

/-- RELEASE_CAPTURE makes the HELD bank FREE with its record cleared and its samples left, and is ACCEPTED; with no bank
HELD it is refused with REFUSED_STATE and nothing else changes. It is taken in CONFIG and in RUN. -/
def Obligations.ReleaseCaptureFreesTheHeldBank : Prop :=
  ∀ s : State,
    (s.cap.a.state = .held → exec .releaseCapture s = .next
      { s with cap := { s.cap with a := { s.cap.a with state := .free, record := CaptureRecord.empty } },
               cfp := { s.cfp with result := { code := .accepted, command := 10, check := 0 } } }) ∧
    (s.cap.a.state ≠ .held → s.cap.b.state = .held → exec .releaseCapture s = .next
      { s with cap := { s.cap with b := { s.cap.b with state := .free, record := CaptureRecord.empty } },
               cfp := { s.cfp with result := { code := .accepted, command := 10, check := 0 } } }) ∧
    (s.cap.a.state ≠ .held → s.cap.b.state ≠ .held → exec .releaseCapture s = .next
      { s with cfp := { s.cfp with result := { code := .refusedState, command := 10, check := 0 } } })

/-- TRIGGER_CAPTURE in RUN is refused with REFUSED_MODE when COMMAND is outside the trigger mask. Otherwise it is ACCEPTED
and CAP takes the trigger: an ACTIVE bank beside a FREE one begins its capture, beside a HELD one the trigger is lost
and counted with CAPTURE_LOST, a bank in POST takes the further source, and with neither recording nothing else
changes. CAPTURE_HELD in RUN completes a capture whose post count is one short of POST (that the row is that count's
last tick is log 11's choice): the bank is HELD with its start index at (trigger index − PRE) mod L, a FREE other bank
becomes ACTIVE with its write index at 0, and CAPTURE_HELD is pending. By R21 a bank in POST never stands beside a
HELD one; both commands are stated for such a state too. -/
def Obligations.TriggerCaptureIsTakenByTheRecordingBank : Prop :=
  (∀ s : State, s.cfp.run = .run →
    (s.cfg.triggers.command = false → exec .triggerCapture s = .next
      { s with cfp := { s.cfp with result := { code := .refusedMode, command := 11, check := 0 } } }) ∧
    (s.cfg.triggers.command = true →
      (∀ x : Bool, (s.cap.bank x).state = .active → (s.cap.bank (!x)).state = .free → exec .triggerCapture s = .next
        { s with
          cap := s.cap.setBank x { s.cap.bank x with
            state := .post, post := 0,
            record := { sources := { trip := false, diff := false, bf := false, command := true }, cycle := s.lkc.count,
                        trigger := (s.cap.bank x).index, start := 0, pre := (s.cap.bank x).written,
                        retriggered := false } },
          cfp := { s.cfp with result := { code := .accepted, command := 11, check := 0 } } }) ∧
      (∀ x : Bool, (s.cap.bank x).state = .active → (s.cap.bank (!x)).state = .held → exec .triggerCapture s = .next
        { s with
          cap := { s.cap with lost := min 255 (s.cap.lost + 1) },
          cfp := { s.cfp with
            attention := s.cfp.attention ||| 0x0800#16,
            result := { code := .accepted, command := 11, check := 0 } } }) ∧
      (∀ x : Bool, (s.cap.bank x).state = .post → (s.cap.bank (!x)).state ≠ .active → (s.cap.bank (!x)).state ≠ .post →
        exec .triggerCapture s = .next
        { s with
          cap := s.cap.setBank x { s.cap.bank x with record := { (s.cap.bank x).record with
            sources := { (s.cap.bank x).record.sources with command := true }, retriggered := true } },
          cfp := { s.cfp with result := { code := .accepted, command := 11, check := 0 } } }) ∧
      ((∀ x : Bool, (s.cap.bank x).state ≠ .active ∧ (s.cap.bank x).state ≠ .post) → exec .triggerCapture s = .next
        { s with cfp := { s.cfp with result := { code := .accepted, command := 11, check := 0 } } }))) ∧
  ∀ (x : Bool) (s : State), s.cfp.run = .run → s.cfg.checkCode = 0 →
    (s.cap.bank x).state = .post → (s.cap.bank (!x)).state ≠ .active → (s.cap.bank (!x)).state ≠ .post →
    (s.cap.bank x).post + 1 = s.cfg.capLen.toNat - s.cfg.pre.toNat → (s.cap.bank x).record.trigger < s.cfg.capLen.toNat →
    ∃ t, exec .captureHeld s = .next t ∧
      t = { s with cap := t.cap, cfp := { s.cfp with attention := s.cfp.attention ||| 0x0400#16 } } ∧
      t.cap.lost = s.cap.lost ∧
      t.cap.bank x = { s.cap.bank x with
        state := .held, post := s.cfg.capLen.toNat - s.cfg.pre.toNat,
        record := { (s.cap.bank x).record with
          start := (((s.cap.bank x).record.trigger : Int) - (s.cfg.pre.toNat : Int)).emod s.cfg.capLen.toNat |>.toNat } } ∧
      t.cap.bank (!x) = (if (s.cap.bank (!x)).state = .free then
          { s.cap.bank (!x) with state := .active, index := 0, written := 0, post := 0 }
        else s.cap.bank (!x))

/-- A read of the capture window: with a bank HELD, offset k below L on a channel reads the sample of that channel at bank
position (start index + k) mod L, in every record and for every channel; an offset at or above L, and any offset with
no bank HELD, reads 8000 hex (L as the store has it now: log 46). A set written into a bank: the seven samples read
back at that position, every other position of every channel reads as before, and the canonical form is kept. A set
taken in at a strobe is written at the write index of the bank that records, and the index advances by one modulo L:
an ACTIVE bank counts up to PRE, a bank in POST counts on and is HELD, with the other bank following, when the count
reaches POST; the other bank's samples stand, and with neither recording nothing is written. -/
def Obligations.CaptureWindowReadsTheHeldBank : Prop :=
  ((∀ (s : State) (ch : Channel) (k : Nat),
    (∀ x : Bool, (s.cap.bank x).state = .held → (s.cap.bank (!x)).state ≠ .held → s.captureRead ch k =
      if k < s.cfg.capLen.toNat then
        readSample (s.cap.bank x).samples
          (samplePlace ch (((s.cap.bank x).record.start + k) % s.cfg.capLen.toNat))
      else 0x8000#16) ∧
    ((∀ x : Bool, (s.cap.bank x).state ≠ .held) → s.captureRead ch k = 0x8000#16)) ∧
  ∀ (m : SampleMem) (p q : Nat) (x : Seven Cell) (ch : Channel), Memory.wf m = true → p < 1024 → q < 1024 →
    Memory.wf (writeSet m p x) = true ∧
    readSample (writeSet m p x) (samplePlace ch q) =
      if q = p then BitVec.ofInt 16 (x.get ch).value else readSample m (samplePlace ch q)) ∧
  ∀ (s : State) (x : Seven Cell) (i : Bool), (s.cap.bank (!i)).state ≠ .active → (s.cap.bank (!i)).state ≠ .post →
    ((s.cap.bank i).state = .active → s.capWrite x = { s with cap := s.cap.setBank i { s.cap.bank i with
      samples := writeSet (s.cap.bank i).samples (s.cap.bank i).index x,
      index := ((s.cap.bank i).index + 1) % s.cfg.capLen.toNat,
      written := min s.cfg.pre.toNat ((s.cap.bank i).written + 1) } }) ∧
    ((s.cap.bank i).state = .post → (s.cap.bank i).post + 1 < s.cfg.capLen.toNat - s.cfg.pre.toNat →
      s.capWrite x = { s with cap := s.cap.setBank i { s.cap.bank i with
        samples := writeSet (s.cap.bank i).samples (s.cap.bank i).index x,
        index := ((s.cap.bank i).index + 1) % s.cfg.capLen.toNat, post := (s.cap.bank i).post + 1 } }) ∧
    ((s.cap.bank i).state = .post → s.cfg.capLen.toNat - s.cfg.pre.toNat ≤ (s.cap.bank i).post + 1 →
      ((s.capWrite x).cap.bank i).state = .held ∧
      ((s.capWrite x).cap.bank i).samples = writeSet (s.cap.bank i).samples (s.cap.bank i).index x ∧
      ((s.capWrite x).cap.bank (!i)).state = (if (s.cap.bank (!i)).state = .free then .active else (s.cap.bank (!i)).state) ∧
      ((s.capWrite x).cap.bank (!i)).samples = (s.cap.bank (!i)).samples ∧ (s.capWrite x).pendingBit .captureHeld = true) ∧
    ((s.cap.bank i).state ≠ .active → (s.cap.bank i).state ≠ .post → s.capWrite x = s)

/-- ACK_ATTENTION and a write to the attention acknowledge address do the same in both run states: the pending bits named
in the word are cleared, with LINK_ALARM among them the five link exception flags too, and LAST_RESULT reads ACCEPTED with
number 12. Nothing else changes. -/
def Obligations.AcknowledgeClearsTheNamedBits : Prop :=
  ∀ (w : Word) (s : State), ∃ t, exec (.ackAttention w) s = .next t ∧ exec (.attentionAcknowledgeWrite w) s = .next t ∧
    t = { s with
      lkc := (if w.getLsbD 4 then { s.lkc with
          crcError := false, slotMismatch := false, late := false, duplicateSeen := false, referenceMissing := false }
        else s.lkc),
      cfp := { s.cfp with
        attention := s.cfp.attention &&& ~~~w, result := { code := .accepted, command := 12, check := 0 } } }

/-- The commands that change one item of the port alone: a write of the enable mask, a write of GROUP_ACCESS, of which the
low bit counts, a command of an unknown number, which writes UNKNOWN_COMMAND, and a NOP, which changes nothing. A
broadcast trim write stores its word in the three gains of its triple in CONFIG, the gain of VL apart; in RUN it is
discarded with WRITE_REFUSED. -/
def Obligations.PortItemsTakeTheirOwnWrites : Prop :=
  (∀ (w : Word) (s : State),
    exec (.attentionEnableWrite w) s = .next { s with cfp := { s.cfp with enable := w } } ∧
    exec (.groupAccessWrite w) s = .next { s with cfp := { s.cfp with groupAccess := w.getLsbD 0 } } ∧
    exec (.unknownCommand w) s = .next
      { s with cfp := { s.cfp with result := { code := .unknownCommand, command := w, check := 0 } } } ∧
    ∀ b : Byte, exec (.portNop b) s = .next s) ∧
  ∀ (w : Word) (s : State),
    (s.cfp.run = .config →
      exec (.broadcastTrimWrite .current w) s = .next
        { s with cfg := { s.cfg with gain := { s.cfg.gain with ia := w, ib := w, ic := w } } } ∧
      exec (.broadcastTrimWrite .voltage w) s = .next
        { s with cfg := { s.cfg with gain := { s.cfg.gain with va := w, vb := w, vc := w } } }) ∧
    (s.cfp.run = .run → ∀ x : Triple, exec (.broadcastTrimWrite x w) s = .next
      { s with cfp := { s.cfp with attention := s.cfp.attention ||| 0x8000#16 } })

/-- A well-formed word written to the store is applied in CONFIG and changes the store alone: its item, of the instance
GROUP_ACCESS selects where it lies in the group window, reads the word as written, every other item of that instance
and every item of the other instance reads as before, and the value that the word codes is in force while every other
value stands. In RUN it is discarded with WRITE_REFUSED. A word written where no item can be written is discarded in
both run states. That a word comes with the item and the value it codes is the model's choice: logs 6 and 7. -/
def Obligations.StoreWritesAreAppliedInConfigAlone : Prop :=
  ∀ (c : ConfigWrite) (s : State), c.wf = true →
    (∀ i, c.item = some i → s.cfp.run = .config → ∃ g, exec (.configurationWrite c) s = .next { s with cfg := g } ∧
      (g.read s.cfp.groupAccess i = c.word ∧
        (∀ j : StoreItem, j.wf = true → j ≠ i → g.read s.cfp.groupAccess j = s.cfg.read s.cfp.groupAccess j) ∧
        ∀ x, g.getGroupNumber (!s.cfp.groupAccess) x = s.cfg.getGroupNumber (!s.cfp.groupAccess) x) ∧
      (∀ y, g.read (!s.cfp.groupAccess) (.groupCoded y) = s.cfg.read (!s.cfp.groupAccess) (.groupCoded y)) ∧
      (g.role = (match c with | .role v _ => v | _ => s.cfg.role) ∧
        g.triggers = (match c with | .triggers v _ => v | _ => s.cfg.triggers) ∧
        g.faultMode = (match c with | .groupMode .fault v _ => v | _ => s.cfg.faultMode) ∧
        g.sourceMode = (match c with | .groupMode .source v _ => v | _ => s.cfg.sourceMode) ∧
        g.deadDead = (match c with | .deadDead v _ => v | _ => s.cfg.deadDead) ∧
        g.direction = (match c with | .direction v _ => v | _ => s.cfg.direction) ∧
        g.startMode = (match c with | .startMode v _ => v | _ => s.cfg.startMode) ∧
        g.openTransition = (match c with | .openTransition v _ => v | _ => s.cfg.openTransition) ∧
        g.tieTransfer = (match c with | .tieTransfer v _ => v | _ => s.cfg.tieTransfer)) ∧
      (∀ n : Fin 8,
        g.inputs.get n = (match c with
          | .inputLine m f low _ => if n = m then { fn := f, low := low } else s.cfg.inputs.get n
          | _ => s.cfg.inputs.get n) ∧
        g.outputs.get n = (match c with
          | .outputLine m f low _ => if n = m then { src := f, low := low } else s.cfg.outputs.get n
          | _ => s.cfg.outputs.get n)) ∧
      ∀ b : Bool,
        (g.fault b).overIAction = (match c with
          | .action .overI v _ => if b = s.cfp.groupAccess then v else (s.cfg.fault b).overIAction
          | _ => (s.cfg.fault b).overIAction) ∧
        (g.fault b).highIAction = (match c with
          | .action .highI v _ => if b = s.cfp.groupAccess then v else (s.cfg.fault b).highIAction
          | _ => (s.cfg.fault b).highIAction) ∧
        (g.fault b).highILockout = (match c with
          | .highILockout v _ => if b = s.cfp.groupAccess then v else (s.cfg.fault b).highILockout
          | _ => (s.cfg.fault b).highILockout) ∧
        (g.fault b).diffAction = (match c with
          | .diffAction v _ => if b = s.cfp.groupAccess then v else (s.cfg.fault b).diffAction
          | _ => (s.cfg.fault b).diffAction) ∧
        ∀ e ∈ [Element.underV, .overV, .underF, .overF, .rocof, .revPower],
          ((g.source b).words e).action = (match c with
            | .action f v _ => if f = e ∧ b = s.cfp.groupAccess then v else ((s.cfg.source b).words e).action
            | _ => ((s.cfg.source b).words e).action)) ∧
    (∀ i, c.item = some i → s.cfp.run = .run → exec (.configurationWrite c) s = .next
      { s with cfp := { s.cfp with attention := s.cfp.attention ||| 0x8000#16 } }) ∧
    (c.item = none → exec (.configurationWrite c) s = .next
      { s with cfp := { s.cfp with attention := s.cfp.attention ||| 0x8000#16 } })

/-- A READ that takes the first word of block k copies the entry, with its age and status as they stand, into the read
buffer, and its words come from that copy: 32 words, the record's 19 first, then the acceptance count, status with age, and
the expected flag with the CRC error counter. Nothing else changes. -/
def Obligations.BlockReadCopiesTheEntry : Prop :=
  ∀ (k : Station) (n : Nat) (s : State), ∃ ws : List Word, ws.length = 32 ∧
    exec (.peerImageBlockRead k n) s = .next { s with cfp := { s.cfp with readBuffer := ws, dataOut := ws.take n } } ∧
    (ws.take 19 = match (s.pim.get k).record with
      | some r => pairWords (encodeRecord r)
      | none => List.replicate 19 0) ∧
    ws[19]? = some ((s.pim.get k).accepted.extractLsb' 16 16) ∧ ws[20]? = some ((s.pim.get k).accepted.extractLsb' 0 16) ∧
    ws[21]? = some ((s.status k).code ++ BitVec.ofNat 8 ((s.pim.get k).age s.lkc.count)) ∧
    ws[22]? = some ((if (s.pim.get k).expected then 1#8 else 0#8) ++ BitVec.ofNat 8 (s.pim.get k).crcErrors) ∧
    ws.drop 23 = List.replicate 9 0

/-! ### Strobes and measurement -/

/-- A strobe in RUN completes in every order of its tasks (log 3: the order is an operand), and every input line is
sampled once. CVP takes in exactly one set where a strobe came before: the running strobe count advances by one, and
MSU writes that set into its windows; the first strobe of a RUN takes in none. The transfer of grid point 2 carries
the two bias codes, each as a 12-bit two's-complement number. The store, the image, TOP, DBU's differentials and the
link's number, count and state stand. In CONFIG there is no strobe: the pins alone stand at their levels (log 14). A
strobe is a phasor instant at grid point 0, or where the instant is still owed after a move of the timer, once per
cycle: it forms exactly one result set from the windows and crossing lists after its own set, labelled with the next
cycle (an instant still owed to the cycle in progress or an earlier one with that cycle, the earliest first, and at
grid point 0 the next cycle's is then owed; the first of a RUN with cycle 0), and keeps the set before it. That
instants owed are made the earliest first, one a strobe, and that one made late at grid point 0 leaves the next
cycle's owed, is log 44, the model's choice; R27 gives one per cycle. Once the instant of the next cycle has been
made, a strobe forms no result set. PHASOR_INSTANT is the strobe of grid point 0. The marks of the timer's moves are
the model's own fields (log 9), and when cycle 0 begins is log 26. -/
def Obligations.StrobeTakesInOneSet : Prop :=
  (∀ (g : Fin 8) (r : Reply) (l : Levels) (o : List StrobeTask) (s : State), s.cfp.run = .run →
    ∃ t, exec (.sampleStrobe g r l o) s = .next t ∧
      (s.cvp.inFlight = true →
        (t.cvp.sets = s.cvp.sets + 1 ∧ t.cvp.lastGood = (s.cvp.take r).lastGood ∧
          t.cvp.missing = (s.cvp.take r).missing ∧ t.cvp.bad = (s.cvp.take r).bad ∧ t.cvp.held = (s.cvp.take r).held) ∧
        t.msu.index = s.msu.index + 1 ∧
        t.msu.window = s.msu.window.set s.msu.index.val (trimSet s.cfg (s.cvp.take r).lastGood) s.msu.index.isLt) ∧
      (s.cvp.inFlight = false →
        (t.cvp.inFlight = true ∧ t.cvp.sets = s.cvp.sets ∧ t.cvp.lastGood = s.cvp.lastGood) ∧
        t.msu.index = s.msu.index ∧ t.msu.window = s.msu.window) ∧
      (∀ i : Fin 8, t.bcu.lines.get i =
        (s.bcu.lines.get i).strobe s.cfg.debounce.toNat (l.get i) (l.get i != (s.cfg.inputs.get i).low)) ∧
      (g = 2 → t.cvp.speedSent = BitVec.ofInt 12 s.gcu.speed ∧ t.cvp.voltSent = BitVec.ofInt 12 s.gcu.volt) ∧
      (g ≠ 2 → t.cvp.speedSent = s.cvp.speedSent ∧ t.cvp.voltSent = s.cvp.voltSent) ∧
      (t.cfg = s.cfg ∧ t.pim = s.pim ∧ t.top = s.top ∧ t.dbu.s1 = s.dbu.s1 ∧ t.dbu.s2 = s.dbu.s2) ∧
      (t.lkc.number = s.lkc.number ∧ t.lkc.count = s.lkc.count ∧ t.lkc.link = s.lkc.link)) ∧
  (∀ (g : Fin 8) (r : Reply) (l : Levels) (o : List StrobeTask) (s : State), s.cfp.run = .config →
    ∃ t, exec (.sampleStrobe g r l o) s = .next t ∧ t = { s with bcu := { s.bcu with lines := t.bcu.lines } } ∧
      ∀ i : Fin 8, t.bcu.lines.get i = { s.bcu.lines.get i with high := l.get i }) ∧
  (∀ (g : Fin 8) (r : Reply) (l : Levels) (o : List StrobeTask) (s : State), s.cfp.run = .run → s.lkc.preCycle = false →
    ((s.lkc.phasorLate ≠ 0 ∨ (s.lkc.phasorMade = false ∧ (s.lkc.phasorOwed = true ∨ g = 0))) →
      ∃ t, exec (.sampleStrobe g r l o) s = .next t ∧ t.msu.older = s.msu.newest ∧
        t.msu.newest = formSet s.cfg t.msu t.cvp.meas (s.lkc.count + 1 - BitVec.ofNat 32 s.lkc.phasorLate) ∧
        t.cvp.meas = (if s.cvp.inFlight then s.cvp.take r else s.cvp).warmUp.meas ∧
        t.lkc.phasorLate = s.lkc.phasorLate - 1 ∧
        (s.lkc.phasorLate = 0 → t.lkc.phasorMade = true ∧ t.lkc.phasorOwed = false) ∧
        (s.lkc.phasorLate ≠ 0 → t.lkc.phasorMade = s.lkc.phasorMade ∧
          (t.lkc.phasorOwed = true ↔ s.lkc.phasorOwed = true ∨ (g = 0 ∧ s.lkc.phasorMade = false)))) ∧
    ((s.lkc.phasorLate = 0 ∧ (s.lkc.phasorMade = true ∨ (s.lkc.phasorOwed = false ∧ g ≠ 0))) →
      ∃ t, exec (.sampleStrobe g r l o) s = .next t ∧ t.msu.older = s.msu.older ∧ t.msu.newest = s.msu.newest ∧
        t.pru = s.pru ∧ t.lkc.phasorMade = s.lkc.phasorMade)) ∧
  ∀ (r : Reply) (l : Levels) (o : List StrobeTask) (s : State),
    exec (.phasorInstant r l o) s = exec (.sampleStrobe 0 r l o) s ∧
    (s.cfp.run = .run → (s.lkc.preCycle = false ∨ s.lkc.timer ≤ gridPosition s.cfg 0) → s.lkc.phasorLate = 0 →
      s.lkc.phasorMade = false → ∃ t, exec (.phasorInstant r l o) s = .next t ∧ t.msu.older = s.msu.newest ∧
      t.msu.newest = formSet s.cfg t.msu t.cvp.meas (if s.lkc.preCycle then s.lkc.count else s.lkc.count + 1) ∧
      t.cvp = (if s.cvp.inFlight then { s.cvp.take r with sets := s.cvp.sets + 1 }
        else { s.cvp with inFlight := true }).warmUp ∧
      t.lkc.phasorMade = true ∧ t.lkc.preCycle = s.lkc.preCycle ∧
      (t.cfg = s.cfg ∧ t.pim = s.pim ∧ t.top = s.top ∧ t.lkc.count = s.lkc.count))

/-- A missing or bad set repeats the last good one and is counted; the second in a row makes the measurement state FAIL. A
good set becomes the last good one and clears the consecutive count; in FAIL the thirty-second good set in a row
returns the state to WARMUP with its count at 0. The four measurement events as commands of their own. In RUN each
makes the move of its rule when its count is one short of its end, and changes nothing else (that each row is the
count's last tick is the model's choice: log 11; that the good-run count is left at 32 is log 28). -/
def Obligations.MeasurementStateAndItsEvents : Prop :=
  (∀ (c : Cvp) (r : Reply),
    (goodSet r = none → (c.take r).lastGood = c.lastGood ∧ (c.take r).held = true ∧ (c.take r).goodRun = 0 ∧
      (c.take r).missing = min 255 (c.missing + 1) ∧ (c.take r).bad = min 2 (c.bad + 1) ∧
      (c.take r).meas = (if 2 ≤ c.bad + 1 then .fail else c.meas)) ∧
    ∀ x : Seven Word, goodSet r = some x → (c.take r).lastGood = x ∧ (c.take r).held = false ∧ (c.take r).bad = 0 ∧
      (c.take r).missing = c.missing ∧
      (c.meas ≠ .fail → (c.take r).meas = c.meas) ∧
      (c.meas = .fail → c.goodRun < 31 → (c.take r).meas = .fail ∧ (c.take r).goodRun = c.goodRun + 1) ∧
      (c.meas = .fail → 31 ≤ c.goodRun → (c.take r).meas = .warmup ∧ (c.take r).warm = 0)) ∧
  ∀ s : State, s.cfp.run = .run →
    (s.cvp.meas ≠ .fail → 1 ≤ s.cvp.bad → exec .measurementFail s = .next
      { s with cvp := { s.cvp with bad := 2, goodRun := 0, meas := .fail },
               cfp := { s.cfp with attention := s.cfp.attention ||| 0x1000#16 } }) ∧
    (s.cvp.meas = .fail → 31 ≤ s.cvp.goodRun → exec .goodRunComplete s = .next
      { s with cvp := { s.cvp with bad := 0, goodRun := 32, meas := .warmup, warm := 0 } }) ∧
    (s.cvp.meas = .warmup → 4 ≤ s.cvp.warm → exec .warmupComplete s = .next
      { s with cvp := { s.cvp with meas := .valid } }) ∧
    (63 ≤ s.msu.bus.since → exec (.crossingListTimeout .bus) s = .next
      { s with msu := { s.msu with bus := { times := [], since := 0 } } }) ∧
    (63 ≤ s.msu.line.since → exec (.crossingListTimeout .line) s = .next
      { s with msu := { s.msu with line := { times := [], since := 0 } } })

/-- A magnitude is the largest integer whose square does not exceed re² + im². P and Q are the sums of R12 over the three
phase pairs, each shifted right by 17 and clamped to −32767..+32767. -/
def Obligations.MagnitudeAndPower : Prop :=
  (∀ re im : Int,
    ((magnitude re im : Int) ^ 2 ≤ re ^ 2 + im ^ 2) ∧ re ^ 2 + im ^ 2 < ((magnitude re im : Int) + 1) ^ 2) ∧
  ∀ (x : Seven Phasor) (p q : Int),
    p = (x.va.re * x.ia.re + x.va.im * x.ia.im) + (x.vb.re * x.ib.re + x.vb.im * x.ib.im)
      + (x.vc.re * x.ic.re + x.vc.im * x.ic.im) →
    q = (x.va.im * x.ia.re - x.va.re * x.ia.im) + (x.vb.im * x.ib.re - x.vb.re * x.ib.im)
      + (x.vc.im * x.ic.re - x.vc.re * x.ic.im) →
    activePower x = max (-32767) (min 32767 (p / 131072)) ∧ reactivePower x = max (-32767) (min 32767 (q / 131072))

/-- The measurement arithmetic from sample to result set. Trim multiplies by the gain, adds 8192 and floors by 2^14, with
a clamp that marks the sample. A raw phasor is the sum over the 32 samples from the oldest with the tables C and −S,
rounded by 2^18 and clamped; ratio matching multiplies by the factor of the channel, after the polarity for a current,
and floors by 2^12 (that −1 is coded FFFF hex is log 47, the model's choice). The classes of a magnitude and of the
bus. A positive-going crossing of a LIVE channel and its time; a crossing list keeps the last five, restarts outside
the interval 5120..12288 and is emptied at the 64th strobe without one. The period is a quarter of the span of five
entries in a LIVE channel, and the frequency f_nom times 819200 by it. The history holds nine entries, and ROCOF is
the difference of its ends times f_nom, halved toward zero, none while it holds fewer or a 0. The set carries these. -/
def Obligations.MeasurementOfAWindow : Prop :=
  (∀ x g : Word, (trim x g).value = max (-32767) (min 32767 ((x.toInt * (g.toNat : Int) + 8192) / 16384)) ∧
    ((trim x g).clamped = true ↔ (trim x g).value ≠ (x.toInt * (g.toNat : Int) + 8192) / 16384)) ∧
  (tableC.length = 32 ∧ tableS.length = 32 ∧
    tableC.take 8 = [16384, 16069, 15137, 13623, 11585, 9102, 6270, 3196] ∧
    (∀ n : Nat, n < 24 → tableC[n + 8]? = (tableS[n]?).map (fun x => -x)) ∧
    (∀ n : Nat, n < 24 → tableS[n + 8]? = tableC[n]?) ∧ tableS[0]? = some 0 ∧
    (∀ n : Nat, n < 8 → tableS[n]? = if n = 0 then some 0 else tableC[8 - n]?) ∧
    ∀ w : List Int,
      (rawPhasor w).re = max (-32767) (min 32767 ((sumInt (List.zipWith (· * ·) w tableC) + 131072) / 262144)) ∧
      (rawPhasor w).im = max (-32767) (min 32767 ((-sumInt (List.zipWith (· * ·) w tableS) + 131072) / 262144))) ∧
  (∀ (c : Settings) (p : Phasor),
    (∀ ch ∈ [Channel.va, .vb, .vc],
      matchPhasor c ch p = { re := max (-32767) (min 32767 (((c.rVB.toNat : Int) * p.re + 2048) / 4096)),
                             im := max (-32767) (min 32767 (((c.rVB.toNat : Int) * p.im + 2048) / 4096)) }) ∧
    matchPhasor c .vl p = { re := max (-32767) (min 32767 (((c.rVL.toNat : Int) * p.re + 2048) / 4096)),
                            im := max (-32767) (min 32767 (((c.rVL.toNat : Int) * p.im + 2048) / 4096)) } ∧
    ∀ ch ∈ [Channel.ia, .ib, .ic], ∀ sign : Int, (c.polarity = 0xFFFF#16 ∧ sign = -1 ∨ c.polarity ≠ 0xFFFF#16 ∧ sign = 1) →
      matchPhasor c ch p = { re := max (-32767) (min 32767 (((c.rI.toNat : Int) * (sign * p.re) + 2048) / 4096)),
                             im := max (-32767) (min 32767 (((c.rI.toNat : Int) * (sign * p.im) + 2048) / 4096)) }) ∧
  (∀ (c : Settings) (m : Nat), (classify c m = .live ↔ c.vLive.toNat ≤ m) ∧
    (classify c m = .dead ↔ m < c.vLive.toNat ∧ m ≤ c.vDead.toNat)) ∧
  (∀ x y z : VClass, (busClassOf x y z = .live ↔ x = .live ∧ y = .live ∧ z = .live) ∧
    (busClassOf x y z = .dead ↔ x = .dead ∧ y = .dead ∧ z = .dead)) ∧
  (∀ (cls : VClass) (n : Count) (p new : Int),
    crossing cls n none new = none ∧
    ((p < 0 ∧ 0 ≤ new ∧ cls = .live) →
      crossing cls n (some p) new = some (256 * n - BitVec.ofInt 32 ((256 * new) / (new - p)))) ∧
    (¬(p < 0 ∧ 0 ≤ new ∧ cls = .live) → crossing cls n (some p) new = none)) ∧
  (∀ (x : Crossings) (t : Count),
    (x.times = [] → x.strobe (some t) = { times := [t], since := 0 }) ∧
    (∀ last, x.times.getLast? = some last → (5120 ≤ (t - last).toNat ∧ (t - last).toNat ≤ 12288) →
      x.strobe (some t) = { times := (if 5 ≤ x.times.length then x.times.drop 1 else x.times) ++ [t], since := 0 }) ∧
    (∀ last, x.times.getLast? = some last → ¬(5120 ≤ (t - last).toNat ∧ (t - last).toNat ≤ 12288) →
      x.strobe (some t) = { times := [t], since := 0 }) ∧
    x.strobe none = (if 64 ≤ x.since + 1 then { times := [], since := 0 } else { x with since := x.since + 1 })) ∧
  (∀ (c : Settings) (m : Msu) (meas : MeasState) (label : Count),
    (∀ (x : Crossings) (cls : VClass),
      (cls ≠ .live ∨ x.times.length ≠ 5 → period x cls = 0) ∧
      ∀ a b d e f, cls = .live → x.times = [a, b, d, e, f] → period x cls = (f - a).toNat / 4) ∧
    (∀ p : Nat, frequency c p = if p = 0 then 0 else min 65535 (c.fNom.toNat * 819200 / p)) ∧
    (formSet c m meas label).label = some label ∧ (formSet c m meas label).meas = meas ∧
    (∀ ch : Channel,
      (formSet c m meas label).phasor.get ch = matchPhasor c ch (rawPhasor ((m.samples ch).map Cell.value)) ∧
      (formSet c m meas label).mag.get ch =
        magnitude ((formSet c m meas label).phasor.get ch).re ((formSet c m meas label).phasor.get ch).im ∧
      ((formSet c m meas label).clipped.get ch = true ↔ ∃ x ∈ m.samples ch, x.clamped = true)) ∧
    ((formSet c m meas label).clsA = classify c (formSet c m meas label).mag.va ∧
      (formSet c m meas label).clsL = classify c (formSet c m meas label).mag.vl ∧
      (formSet c m meas label).fBus = frequency c (period m.bus (formSet c m meas label).clsA) ∧
      (formSet c m meas label).fLine = frequency c (period m.line (formSet c m meas label).clsL))) ∧
  ∀ (c : Settings) (h : List Nat) (f : Nat),
    (h.length ≤ 9 → appendHistory h f = (if h.length = 9 then h.drop 1 else h) ++ [f]) ∧
    ((h.length < 9 ∨ 0 ∈ h) → rocofOf c h = none) ∧
    ∀ a z, h.length = 9 → 0 ∉ h → h.head? = some a → h.getLast? = some z →
      rocofOf c h = some ((((z : Int) - (a : Int)) * (c.fNom.toNat : Int)).tdiv 2)

/-! ### Protection, differential and breaker failure -/

/-- ELEMENT_OPERATE in RUN: an element that is not blocked, whose action is ALARM or TRIP and whose condition counts on to
its delay enters OPERATE and joins the operation list. An ALARM sets no trip active and asks for no trip: beside the
element and the list nothing changes unless a TRIP request stands. That the row is one element's last tick, outside
its phasor instant, is log 11's choice. An element record at a phasor instant. Blocked or OFF it is QUIET with count
0. From QUIET it starts at count 1 when its condition holds; in PICKUP it counts on until its dropout makes it QUIET;
at a count equal to its delay it enters OPERATE, where it stays until its dropout. What blocks an element, its
condition and dropout against the pickup in force, its action and its delay. PRU at a phasor instant, on the set just
formed: every element takes its test; those entering OPERATE join the list in table order; an entry under TRIP sets
trip active and TRIP and raises one TRIP trigger; a request that stands opens a CLOSED breaker; I>> sets lockout where
its setting says so (after the trip: log 50); trip active clears when no TRIP element is in OPERATE and the breaker is
OPEN. The group of each half by its mode, and a switch, which makes the elements of that half QUIET and touches
nothing else. -/
def Obligations.ElementOperateEntersOperate : Prop :=
  (∀ (e : Element) (s : State), s.cfp.run = .run →
    ((s.pru.elements.get e).advance (s.elementTest s.msu.newest e) (elementDelay s.cfg s.pru e)).state = .operate →
    (s.pru.elements.get e).state ≠ .operate →
    ∃ t, exec (.elementOperate e) s = .next t ∧
      (∀ d : Element, t.pru.elements.get d =
        if d = e then (s.pru.elements.get e).advance (s.elementTest s.msu.newest e) (elementDelay s.cfg s.pru e)
        else s.pru.elements.get d) ∧
      t.pru.operations.getLast? = some
        { element := e, half := halfOf e,
          group := (match halfOf e with | .fault => s.pru.faultGroup | .source => s.pru.sourceGroup),
          action := (elementAction s.cfg s.pru e).getD .off, phases := (t.pru.elements.get e).phases,
          cycle := s.msu.newest.label.getD s.lkc.count } ∧
      (s.pru.operations.length ≤ 8 → t.pru.operations.length = min 8 (s.pru.operations.length + 1)) ∧
      (t.pru.faultGroup = s.pru.faultGroup ∧ t.pru.sourceGroup = s.pru.sourceGroup ∧ t.cfg = s.cfg ∧ t.cvp = s.cvp ∧
        t.msu = s.msu ∧ t.lkc = s.lkc ∧ t.pim = s.pim ∧ t.top = s.top) ∧
      (elementAction s.cfg s.pru e = some .trip → t.pru.tripActive = true ∧ t.pendingBit .trip = true ∧
        (s.bcu.state = .closed → t.bcu.state = .opening ∧ t.bcu.trip = true ∧ t.bcu.close = false) ∧
        (e = .highI → (s.cfg.fault s.pru.faultGroup).highILockout = true → t.dbu.lockout = true)) ∧
      (elementAction s.cfg s.pru e = some .alarm → s.pruStands = false → t = { s with pru := t.pru } ∧
        t.pru.tripActive = s.pru.tripActive)) ∧
  (∀ (r : ElementRec) (delay : Nat), 1 ≤ delay →
    r.advance none delay = { state := .quiet, count := 0, phases := { a := false, b := false, c := false } } ∧
    ∀ x : ElementTest,
      (r.state = .quiet → x.holds = false → (r.advance (some x) delay).state = .quiet) ∧
      (r.state = .quiet → x.holds = true → (r.advance (some x) delay).count = 1 ∧
        (r.advance (some x) delay).state = (if delay = 1 then .operate else .pickup)) ∧
      (r.state ≠ .quiet → x.drops = true → (r.advance (some x) delay).state = .quiet ∧
        (r.advance (some x) delay).count = 0) ∧
      (r.state = .pickup → x.drops = false → r.count < delay →
        (r.advance (some x) delay).count = r.count + 1 ∧
        (r.advance (some x) delay).state = (if r.count + 1 = delay then .operate else .pickup)) ∧
      (r.state = .operate → x.drops = false → (r.advance (some x) delay).state = .operate)) ∧
  (∀ (s : State) (r : ResultSet) (e : Element) (f g : Nat), f = ((match e with
      | .overI => (s.cfg.fault s.pru.faultGroup).overIPickup
      | _ => (s.cfg.fault s.pru.faultGroup).highIPickup) : Word).toNat →
    g = ((s.cfg.source s.pru.sourceGroup).words e).pickup.toNat →
    (s.elementTest r e = none ↔ r.meas ≠ .valid ∨ ((e = .underV ∨ e = .revPower) ∧ s.bcu.state ≠ .closed) ∨
      ((e = .underF ∨ e = .overF) ∧ r.fBus = 0) ∨ (e = .rocof ∧ s.msu.rocof = none) ∨
      (e = .revPower ∧ s.cfg.role ≠ some .generator) ∨
      (elementAction s.cfg s.pru e ≠ some .alarm ∧ elementAction s.cfg s.pru e ≠ some .trip)) ∧
    (∀ x, s.elementTest r e = some x →
      ((e = .overI ∨ e = .highI) → (x.holds = true ↔ f ≤ r.mag.ia ∨ f ≤ r.mag.ib ∨ f ≤ r.mag.ic) ∧
        (x.drops = true ↔ r.mag.ia * 64 < f * 61 ∧ r.mag.ib * 64 < f * 61 ∧ r.mag.ic * 64 < f * 61) ∧
        x.phases = { a := decide (f ≤ r.mag.ia), b := decide (f ≤ r.mag.ib), c := decide (f ≤ r.mag.ic) }) ∧
      (e ≠ .overI → e ≠ .highI → x.drops = !x.holds ∧ x.phases = { a := false, b := false, c := false }) ∧
      (e = .underV → (x.holds = true ↔ r.vMin < g)) ∧ (e = .overV → (x.holds = true ↔ g < r.vMax)) ∧
      (e = .underF → (x.holds = true ↔ r.fBus < g)) ∧ (e = .overF → (x.holds = true ↔ g < r.fBus)) ∧
      (e = .rocof → ∀ v, s.msu.rocof = some v → (x.holds = true ↔ g ≤ v.natAbs)) ∧
      (e = .revPower → (x.holds = true ↔ r.p ≤ -(g : Int)))) ∧
    elementAction s.cfg s.pru e = (match e with
      | .overI => (s.cfg.fault s.pru.faultGroup).overIAction
      | .highI => (s.cfg.fault s.pru.faultGroup).highIAction
      | _ => ((s.cfg.source s.pru.sourceGroup).words e).action) ∧
    elementDelay s.cfg s.pru e = (match e with
      | .overI => (s.cfg.fault s.pru.faultGroup).overIDelay.toNat
      | .highI => 1
      | _ => ((s.cfg.source s.pru.sourceGroup).words e).delay.toNat)) ∧
  (∀ (s t : State) (r : ResultSet) (label : Count) (enters : Element → Bool) (standing : Prop), t = s.pruEvaluate r →
    (∀ e, enters e = true ↔ (t.pru.elements.get e).state = .operate ∧ (s.pru.elements.get e).state ≠ .operate) →
    (standing ↔ ∃ e, (t.pru.elements.get e).state = .operate ∧ elementAction s.cfg s.pru e = some .trip) →
    (∀ e, t.pru.elements.get e = (s.pru.elements.get e).advance (s.elementTest r e) (elementDelay s.cfg s.pru e)) ∧
    (t.pru.operations = (allElements.filter enters).foldl (fun l e =>
      (if 8 ≤ l.length then (l ++ [{
        element := e, half := halfOf e,
        group := (match halfOf e with | .fault => s.pru.faultGroup | .source => s.pru.sourceGroup),
        action := (elementAction s.cfg s.pru e).getD .off, phases := (t.pru.elements.get e).phases,
        cycle := r.label.getD s.lkc.count }]).drop 1 else l ++ [{
        element := e, half := halfOf e,
        group := (match halfOf e with | .fault => s.pru.faultGroup | .source => s.pru.sourceGroup),
        action := (elementAction s.cfg s.pru e).getD .off, phases := (t.pru.elements.get e).phases,
        cycle := r.label.getD s.lkc.count }])) s.pru.operations) ∧
    ((∃ e, enters e = true ∧ elementAction s.cfg s.pru e = some .trip) → t.pru.tripActive = true ∧
      t.pendingBit .trip = true ∧ t.cap = (s.trigger .trip).cap) ∧
    ((∀ e, enters e = true → elementAction s.cfg s.pru e ≠ some .trip) → t.cap = s.cap ∧
      (standing → t.pru.tripActive = s.pru.tripActive) ∧
      (¬standing → t = { s with pru := t.pru } ∧
        t.pru.tripActive = (if s.bcu.state = .opened then false else s.pru.tripActive))) ∧
    (standing → s.bcu.state = .closed → t.bcu.state = .opening ∧ t.bcu.trip = true ∧ t.bcu.close = false) ∧
    (enters .highI = true → elementAction s.cfg s.pru .highI = some .trip →
      (s.cfg.fault s.pru.faultGroup).highILockout = true → t.dbu.lockout = true) ∧
    ∃ (u : State) (x : ResultSet), u = { s with cvp := s.cvp.warmUp, msu := { s.msu with newest := x, older := s.msu.newest } } ∧
      x = formSet s.cfg s.msu u.cvp.meas label ∧ s.phasorResults label = u.pruEvaluate x) ∧
  ∀ s : State, s.pruClose = { s with pru := { s.pru with
      faultGroup := groupOf s.cfg.faultMode s.top.own s.pru.faultGroup,
      sourceGroup := groupOf s.cfg.sourceMode s.top.own s.pru.sourceGroup, elements := s.pruClose.pru.elements } } ∧
    (∀ e : Element, s.pruClose.pru.elements.get e =
      if (halfOf e = .fault ∧ s.pruClose.pru.faultGroup ≠ s.pru.faultGroup) ∨
          (halfOf e = .source ∧ s.pruClose.pru.sourceGroup ≠ s.pru.sourceGroup) then
        { state := .quiet, count := 0, phases := { a := false, b := false, c := false } }
      else s.pru.elements.get e) ∧
    (∀ e : Element, halfOf e = .fault ↔ e = .overI ∨ e = .highI) ∧
    ∀ (own : IslandState) (g : Bool), groupOf (some .fix0) own g = false ∧ groupOf (some .fix1) own g = true ∧
      (groupOf (some .auto) own g = false ↔ own = .grid)

/-- DIFFERENTIAL_TRIP in RUN, for a section of the station that trips on the topology its cycle close forms: its confirm
count goes on by one, up to 4; lockout is set; the BF timer starts when idle unless the breaker is OPEN or
FAILED_OPEN; a CLOSED breaker goes to OPENING with TRIP asserted, one that is OPEN stands; the TRIP bit is pending
when the trip is newly issued. The other section's differential stands (that the row is the count's last tick is the
model's choice: log 11). ZONE_BLOCKED in RUN, with the link in PUBLISH or DUPLICATE and the section's zone blocked for
the third cycle close in a row, sets the count to 3 and ZONE_BLOCKED pending, and nothing else. BF_EXPIRY, at the BF
timer's last tick, sets the notice, lockout and BF, ends the timer, and a breaker with TRIP asserted stands in
FAILED_OPEN with TRIP kept (log 11). -/
def Obligations.DifferentialTripOpensAndLocksOut : Prop :=
  (∀ (x : Sec) (s : State), s.cfp.run = .run → s.cfg.belongs x = true → s.atClose.sectionTrips x = true →
    ∃ t, exec (.differentialTrip x) s = .next t ∧
      ((t.dbu.diff x).confirm = min 4 ((s.dbu.diff x).confirm + 1) ∧ (t.dbu.diff x).tripping = true ∧
        (t.dbu.diff x).last = s.atClose.evaluateSection x ∧ (t.dbu.diff x).blocked = (s.dbu.diff x).blocked ∧
        t.dbu.diff x.other = s.dbu.diff x.other) ∧
      (t.dbu.lockout = true ∧
        t.dbu.lockoutSource = (if s.dbu.lockout then s.dbu.lockoutSource else .diff) ∧ t.dbu.notice = s.dbu.notice ∧
        t.dbu.timer = (if s.dbu.timer = .idle ∧ s.bcu.state ≠ .opened ∧ s.bcu.state ≠ .failedOpen then .running 0
          else s.dbu.timer)) ∧
      (s.bcu.state = .closed → t.bcu.state = .opening ∧ t.bcu.trip = true ∧ t.bcu.close = false ∧ t.bcu.hold = 0) ∧
      (s.bcu.state = .opened → t.bcu = s.bcu) ∧
      ((s.dbu.diff x).tripping = false → t.pendingBit .trip = true) ∧
      (t.cfg = s.cfg ∧ t.cvp = s.cvp ∧ t.msu = s.msu ∧ t.lkc = s.lkc ∧ t.pim = s.pim ∧ t.top = s.top ∧ t.pru = s.pru)) ∧
  ∀ s : State, s.cfp.run = .run →
    (∀ (x : Sec) (r : BlockReason) (k : Option Station), s.cfg.belongs x = true → s.atClose.evaluateSection x = .blocked r k →
      (s.lkc.link = .publish ∨ s.lkc.link = .duplicate) → (s.dbu.diff x).blocked = 2 → exec (.zoneBlocked x) s = .next
        { s with
          dbu := (match x with
            | .one => { s.dbu with s1 := { s.dbu.s1 with blocked := 3 } }
            | .two => { s.dbu with s2 := { s.dbu.s2 with blocked := 3 } }),
          cfp := { s.cfp with attention := s.cfp.attention ||| 0x0020#16 } }) ∧
    ∀ n : Nat, s.dbu.timer = .running n → s.cfg.tBf.toNat ≤ n + 1 → ∃ t, exec .bfExpiry s = .next t ∧
      State.Consequence s t ∧
      t.dbu = { s.dbu with
        timer := .idle, notice := true, lockout := true,
        lockoutSource := if s.dbu.lockout then s.dbu.lockoutSource else .bf } ∧
      t.pendingBit .bf = true ∧ (s.dbu.lockout = false → t.pendingBit .lockout = true) ∧
      (s.bcu.trip = true → t.bcu = { s.bcu with state := .failedOpen })

/-- A section trips only on a complete zone: its set is known, the own record names an instance whose differential is
TRIP, every member is FRESH, shows VALID and the own fault group, and none is RELOCKED; and at least one phase has Iop
at or above Ipu and 64 times Iop at or above K times Ires. While the own entry is not FRESH the section is BLOCKED,
with SET_UNKNOWN or else NOT_FRESH and the lowest member that fails, whatever settings its last record names; while it
is FRESH and names an instance whose action is OFF, the section is NOT_EVALUATED. -/
def Obligations.DifferentialNeedsACompleteZone : Prop :=
  (∀ (x : Sec) (s : State), s.sectionTrips x = true → ∃ set own, s.top.expected x = some set ∧
    s.heldRec s.cfg.own = some own ∧ (s.cfg.fault own.faultGroup).diffAction = some .trip ∧
    (∀ k : Station, set.getLsbD k.val = true → ∃ r, s.heldRec k = some r ∧ s.status k = .fresh ∧
      r.alignment ≠ .relocked ∧ r.meas = .valid ∧ r.faultGroup = own.faultGroup) ∧
    (s.cfg.fault own.faultGroup).confirm.toNat ≤ min 4 ((s.dbu.diff x).confirm + 1) ∧
    ∃ a b c, s.evaluateSection x = .complete a b c ∧ ∃ p ∈ [a, b, c],
      (s.cfg.fault own.faultGroup).ipu.toNat ≤ p.iop ∧ (s.cfg.fault own.faultGroup).slope.toNat * p.ires ≤ p.iop * 64) ∧
  ∀ (x : Sec) (s : State),
    (s.status s.cfg.own ≠ .fresh → (s.top.expected x = none → s.evaluateSection x = .blocked .setUnknown none) ∧
      ∀ (set : StationSet) (k : Station), s.top.expected x = some set → set.getLsbD k.val = true → s.status k ≠ .fresh →
        (∀ j : Station, j < k → set.getLsbD j.val = true → s.status j = .fresh) →
        s.evaluateSection x = .blocked .notFresh (some k)) ∧
    ∀ own : BayRecord, s.status s.cfg.own = .fresh → s.heldRec s.cfg.own = some own →
      (s.cfg.fault own.faultGroup).diffAction ≠ some .trip → s.evaluateSection x = .notEvaluated

/-- The differential at a cycle close. On a complete zone each phase's Iop is the magnitude of the members' summed
phasors, the tie's subtracted in section 2, and Ires the sum of their magnitudes; the phase operates at Iop at or
above Ipu with 64 Iop at or above K Ires. For each section the confirm count goes on to at most 4 while a phase
operates and is 0 otherwise, the zone-blocked count to at most 3 while the zone is BLOCKED in PUBLISH or DUPLICATE,
with ZONE_BLOCKED as it reaches 3 and a DIFF trigger as the confirm count leaves 0; the section trips from D on, which
sets lockout and opens a CLOSED breaker. A usable peer's BF notice that concerns the station is answered with a trip
and lockout, and noted with BF and TRIP when it is new. The BF timer counts a cycle close that did not start it. DIFF,
then PEER_BF, then BF is the order the model takes (log 49). A usable record of a section, the own one included, that
carries the notice raises one BF trigger where none was seen at the cycle close before. -/
def Obligations.DifferentialAtACycleClose : Prop :=
  (∀ (s : State) (x : Sec) (a b c : PhaseSum), s.evaluateSection x = .complete a b c →
    ∃ set own, s.top.expected x = some set ∧ s.heldRec s.cfg.own = some own ∧
      ∀ p ∈ [(a, (0 : Fin 3)), (b, 1), (c, 2)],
        p.1.iop = magnitude
          (sumInt (allStations.map fun k => if set.getLsbD k.val then
            (if x = .two ∧ s.top.tie = .station k then -1 else 1) *
              (((s.heldRec k).map fun r => (BayRecord.current r p.2).1).getD 0) else 0))
          (sumInt (allStations.map fun k => if set.getLsbD k.val then
            (if x = .two ∧ s.top.tie = .station k then -1 else 1) *
              (((s.heldRec k).map fun r => (BayRecord.current r p.2).2).getD 0) else 0)) ∧
        p.1.ires = sumNat (allStations.map fun k => if set.getLsbD k.val then
          magnitude (((s.heldRec k).map fun r => (BayRecord.current r p.2).1).getD 0)
            (((s.heldRec k).map fun r => (BayRecord.current r p.2).2).getD 0) else 0) ∧
        (p.1.operates = true ↔ (s.cfg.fault own.faultGroup).ipu.toNat ≤ p.1.iop ∧
          (s.cfg.fault own.faultGroup).slope.toNat * p.1.ires ≤ p.1.iop * 64)) ∧
  (∀ (s : State) (x : Sec),
    ((s.evaluateSection x).holds = true ↔ ∃ a b c, s.evaluateSection x = .complete a b c ∧
      (a.operates = true ∨ b.operates = true ∨ c.operates = true)) ∧
    ((s.diffClose x).dbu.diff x).confirm =
      (if (s.evaluateSection x).holds then min 4 ((s.dbu.diff x).confirm + 1) else 0) ∧
    ((s.diffClose x).dbu.diff x).blocked = (match s.evaluateSection x with
      | .blocked _ _ => if s.lkc.link = .publish ∨ s.lkc.link = .duplicate then min 3 ((s.dbu.diff x).blocked + 1) else 0
      | _ => 0) ∧
    (((s.diffClose x).dbu.diff x).last = s.evaluateSection x ∧
      (s.diffClose x).dbu.diff x.other = s.dbu.diff x.other ∧
      ((s.diffClose x).dbu.diff x).tripping = s.sectionTrips x) ∧
    (((s.diffClose x).dbu.diff x).blocked = 3 → (s.dbu.diff x).blocked ≠ 3 →
      (s.diffClose x).pendingBit .zoneBlocked = true) ∧
    (s.diffClose x).cap = (if (s.evaluateSection x).holds = true ∧ (s.dbu.diff x).confirm = 0 then (s.trigger .diff).cap
      else s.cap) ∧
    (s.sectionTrips x = true ↔ (s.evaluateSection x).holds = true ∧
      s.confirmSetting ≤ min 4 ((s.dbu.diff x).confirm + 1)) ∧
    (s.sectionTrips x = true → (s.diffClose x).dbu.lockout = true ∧
      (s.diffClose x).dbu.lockoutSource = (if s.dbu.lockout then s.dbu.lockoutSource else .diff) ∧
      (s.bcu.state = .closed → (s.diffClose x).bcu.state = .opening ∧ (s.diffClose x).bcu.trip = true)) ∧
    (s.sectionTrips x = false → (s.diffClose x).bcu = s.bcu ∧ (s.diffClose x).dbu.lockout = s.dbu.lockout ∧
      (s.diffClose x).dbu.timer = s.dbu.timer)) ∧
  (∀ s : State,
    ((∃ (k : Station) (r : BayRecord), k ≠ s.cfg.own ∧ s.usableRec k = some r ∧ r.bfNotice = true ∧
        (∃ y : Sec, (s.cfg.role = some .tie ∨ s.cfg.sec = some y) ∧ (r.role = .tie ∨ r.sect = none ∨ r.sect = some y))) →
      s.peerBfClose.dbu.peerSeen = true ∧ s.peerBfClose.dbu.lockout = true ∧
      s.peerBfClose.dbu.lockoutSource = (if s.dbu.lockout then s.dbu.lockoutSource else .peerBf) ∧
      (s.bcu.state = .closed → s.peerBfClose.bcu.state = .opening ∧ s.peerBfClose.bcu.trip = true) ∧
      (s.dbu.peerSeen = false → s.peerBfClose.pendingBit .bf = true ∧ s.peerBfClose.pendingBit .trip = true)) ∧
    ((∀ (k : Station) (r : BayRecord), k ≠ s.cfg.own → s.usableRec k = some r → r.bfNotice = true →
        ∀ y : Sec, (s.cfg.role = some .tie ∨ s.cfg.sec = some y) → ¬(r.role = .tie ∨ r.sect = none ∨ r.sect = some y)) →
      s.peerBfClose = { s with dbu := { s.dbu with peerSeen := false } })) ∧
  (∀ (s s0 : State) (n m : Nat), s.dbu.timer = .running n →
    (s0.dbu.timer = .idle → s.bfTick s0 = s) ∧
    (s0.dbu.timer = .running m → n + 1 < s.cfg.tBf.toNat →
      s.bfTick s0 = { s with dbu := { s.dbu with timer := .running (n + 1) } }) ∧
    (s0.dbu.timer = .running m → s.cfg.tBf.toNat ≤ n + 1 → (s.bfTick s0).dbu.notice = true ∧
      (s.bfTick s0).dbu.timer = .idle ∧ (s.bfTick s0).dbu.lockout = true)) ∧
  ∀ (s : State) (x : Sec) (found : Bool), (found = true ↔ ∃ (k : Station) (r : BayRecord), s.usableRec k = some r ∧
      r.bfNotice = true ∧ (r.role = .tie ∨ r.sect = none ∨ r.sect = some x)) →
    ((s.bfSeenClose x).dbu.diff x = { s.dbu.diff x with bfSeen := found } ∧
      (s.bfSeenClose x).dbu.diff x.other = s.dbu.diff x.other) ∧
    (s.bfSeenClose x).cap = (if found = true ∧ (s.dbu.diff x).bfSeen = false then (s.trigger .bf).cap else s.cap) ∧
    (s.bfSeenClose x).bcu = s.bcu ∧ (s.bfSeenClose x).cfp = (if found = true ∧ (s.dbu.diff x).bfSeen = false then
      (s.trigger .bf).cfp else s.cfp)

/-! ### The breaker and the lines -/

/-- CONTACT_EVENT in RUN: the read level of a line, held for N strobes, becomes its debounced level; every other line
stands. When EXT_LOCKOUT becomes active by it, lockout is set; when EXT_TRIP does and the pair is not judged by it, a
CLOSED breaker goes to OPENING; when EXT_BLOCK_CLOSE does and the pair is not judged by it, a CLOSING breaker releases
CLOSE, and is OPEN with DROPPED where its contacts show open; where the pair is judged by it alone, contacts showing
open end the BF timer and notice, a CLOSED breaker is OPEN as uncommanded, and a CLOSING one is CLOSED with COMPLETED
where they show closed; when it brings none of the four consequences, the line alone changes (log 11). In CONFIG, and
where the level is not new or has not been held, the pin alone stands at its level. -/
def Obligations.ContactEventSettlesTheLine : Prop :=
  (∀ (i : Fin 8) (high : Bool) (s : State), s.cfp.run = .run →
    (s.bcu.lines.get i).level ≠ some (high != (s.cfg.inputs.get i).low) →
    s.cfg.debounce.toNat ≤ (s.bcu.lines.get i).holdAfter (high != (s.cfg.inputs.get i).low) →
    ∃ t, exec (.contactEvent i high) s = .next t ∧ State.Consequence s t ∧
      (t.bcu.lines.get i = { high := high, read := some (high != (s.cfg.inputs.get i).low),
                             level := some (high != (s.cfg.inputs.get i).low), hold := 0 } ∧
        ∀ j : Fin 8, j ≠ i → t.bcu.lines.get j = s.bcu.lines.get j) ∧
      ((newsOf s.cfg s.bcu.lines t.bcu.lines).extLockout = true → t.dbu.lockout = true) ∧
      ((newsOf s.cfg s.bcu.lines t.bcu.lines).extTrip = true → (newsOf s.cfg s.bcu.lines t.bcu.lines).pair = false →
        s.bcu.state = .closed → t.bcu.state = .opening ∧ t.bcu.trip = true ∧ t.bcu.close = false) ∧
      (newsOf s.cfg s.bcu.lines t.bcu.lines = { pair := false, extTrip := false, extBlock := true, extLockout := false } →
        s.bcu.state = .closing → s.bcu.close = true → t.bcu.close = false ∧
        (t.pair = .opened → t.bcu.state = .opened ∧ t.bcu.lastOutcome = some (.dropped, s.lkc.count)) ∧
        (t.pair ≠ .opened → t.pair ≠ .closed → t.bcu.state = .closing)) ∧
      (newsOf s.cfg s.bcu.lines t.bcu.lines = { pair := true, extTrip := false, extBlock := false, extLockout := false } →
        (t.pair = .opened → t.dbu = { s.dbu with timer := .idle, notice := false }) ∧
        (s.bcu.state = .closed → t.pair = .opened → t.bcu.state = .opened ∧
          t.bcu.alarms.uncommandedOpen = some s.lkc.count ∧ t.pendingBit .breakerAlarm = true) ∧
        (s.bcu.state = .closing → s.bcu.close = true → t.pair = .closed → t.bcu.state = .closed ∧ t.bcu.close = false ∧
          t.bcu.lastOutcome = some (.completed, s.lkc.count))) ∧
      (newsOf s.cfg s.bcu.lines t.bcu.lines = { pair := false, extTrip := false, extBlock := false, extLockout := false } →
        t = { s with bcu := { s.bcu with lines := t.bcu.lines } })) ∧
  ∀ (i : Fin 8) (high : Bool) (s : State),
    (s.cfp.run = .config ∨ (s.bcu.lines.get i).level = some (high != (s.cfg.inputs.get i).low) ∨
      (s.bcu.lines.get i).holdAfter (high != (s.cfg.inputs.get i).low) < s.cfg.debounce.toNat) →
    ∃ t, exec (.contactEvent i high) s = .next t ∧ t = { s with bcu := { s.bcu with lines := t.bcu.lines } } ∧
      ∀ j : Fin 8, t.bcu.lines.get j =
        if j = i then { s.bcu.lines.get i with high := high } else s.bcu.lines.get j

/-- RECONFIRMATION in RUN, at the last of its N quiet strobes, judges the contact pair: it is no longer pending; an
unjudged pair changes nothing else; contacts showing open end the BF timer and the BF notice. CLOSING becomes CLOSED
with COMPLETED (DROPPED when CLOSE was already released), OPEN becomes CLOSED and CLOSED becomes OPEN as uncommanded,
each with its alarm, and UNKNOWN and DISCREPANT become what the contacts show. In OPENING and FAILED_OPEN contacts
showing open release TRIP where the trip hold count stands at 2; an undecided pair starts the discrepancy count in
UNKNOWN, OPEN and CLOSED (log 11). That a close dropped to OPEN which completes after all counts as uncommanded is log
53, the model's choice. -/
def Obligations.ReconfirmationJudgesThePair : Prop :=
  ∀ (s : State) (n : Nat), s.cfp.run = .run → s.bcu.reconfirm = some n → s.cfg.debounce.toNat ≤ n + 1 →
    ∃ t, exec .reconfirmation s = .next t ∧ State.Consequence s t ∧ t.bcu.reconfirm = none ∧ t.bcu.lines = s.bcu.lines ∧
      (s.pair = .unjudged → t = { s with bcu := { s.bcu with reconfirm := none } }) ∧
      (s.pair = .opened → t.dbu = { s.dbu with timer := .idle, notice := false }) ∧
      (s.pair ≠ .opened → t.dbu = s.dbu) ∧
      (s.bcu.state = .closing → s.pair = .closed → t.bcu.state = .closed ∧ t.bcu.close = false ∧ t.bcu.owner = none ∧
        t.bcu.lastOutcome = some (if s.bcu.close then .completed else .dropped, s.lkc.count)) ∧
      (s.bcu.state = .opened → s.pair = .closed → t.bcu.state = .closed ∧
        t.bcu.alarms = { s.bcu.alarms with uncommandedClose := some s.lkc.count } ∧ t.pendingBit .breakerAlarm = true) ∧
      (s.bcu.state = .closed → s.pair = .opened → t.bcu.state = .opened ∧
        t.bcu.alarms = { s.bcu.alarms with uncommandedOpen := some s.lkc.count } ∧ t.pendingBit .breakerAlarm = true) ∧
      ((s.bcu.state = .unknown ∨ s.bcu.state = .discrepant) →
        (s.pair = .closed → t.bcu.state = .closed) ∧ (s.pair = .opened → t.bcu.state = .opened)) ∧
      ((s.bcu.state = .opening ∨ s.bcu.state = .failedOpen) → s.pair ≠ .unjudged →
        t.bcu = (if s.pair = .opened ∧ 2 ≤ s.bcu.hold then { s.bcu with
            reconfirm := none, state := .opened, trip := false, close := false, supervision := 0, discrepancy := none,
            hold := 0 }
          else { s.bcu with reconfirm := none })) ∧
      ((s.bcu.state = .unknown ∨ s.bcu.state = .opened ∨ s.bcu.state = .closed) → s.pair = .undecided →
        t.bcu = { s.bcu with reconfirm := none, discrepancy := some (s.bcu.discrepancy.getD 0) })

/-- The three counts of BCU at their last tick, in RUN. CLOSE_SUPERVISION_EXPIRY ends CLOSING with both outputs released:
OPEN with FAILED and its alarm, CLOSED with COMPLETED (DROPPED when CLOSE was released), or DISCREPANT with its alarm,
by the contact pair. TRIP_RELEASE, with contacts showing open, releases TRIP to OPEN. DISCREPANCY_EXPIRY makes the
breaker DISCREPANT with its alarm (log 11). A pair that shows closed at the supervision expiry is log 27 (DEDUCED).
BCU at a cycle close: the supervision count goes on in CLOSING but at the cycle close that accepted the request, the
hold count by one to at most 2 where TRIP stood before the cycle close and the release test follows (log 16), the
discrepancy count in OPEN, CLOSED and UNKNOWN, each with its row's end at its setting. The close drop comes with an
own lockout in the view or in an incomer whose utility is not HEALTHY, unless DBU presents a trip request at this
cycle close; it releases CLOSE in CLOSING, and the state follows contacts that show open or closed, with DROPPED. An
active EXT_TRIP is a trip request, which opens every breaker that is not OPEN, OPENING or FAILED_OPEN, ends a close
with TRIPPED and starts an idle BF timer. Counts that read 0 once their state is left are log 52. -/
def Obligations.BreakerCountsExpire : Prop :=
  (∀ s : State, s.cfp.run = .run →
    (s.bcu.state = .closing → s.cfg.tCloseMax.toNat ≤ s.bcu.supervision + 1 →
      ∃ t, exec .closeSupervisionExpiry s = .next t ∧ State.Consequence s t ∧ t.dbu = s.dbu ∧
        (t.bcu.trip = false ∧ t.bcu.close = false ∧ t.bcu.owner = none ∧ t.bcu.lines = s.bcu.lines) ∧
        (s.pair = .opened → t.bcu.state = .opened ∧ t.bcu.lastOutcome = some (.failed, s.lkc.count) ∧
          t.bcu.alarms = { s.bcu.alarms with closeFail := some s.lkc.count } ∧ t.pendingBit .breakerAlarm = true) ∧
        (s.pair = .closed → t.bcu.state = .closed ∧ t.bcu.alarms = s.bcu.alarms ∧
          t.bcu.lastOutcome = some (if s.bcu.close then .completed else .dropped, s.lkc.count)) ∧
        (s.pair ≠ .opened → s.pair ≠ .closed → t.bcu.state = .discrepant ∧
          t.bcu.lastOutcome = some (.discrepant, s.lkc.count) ∧
          t.bcu.alarms = { s.bcu.alarms with discrepant := some s.lkc.count } ∧ t.pendingBit .breakerAlarm = true)) ∧
    ((s.bcu.state = .opening ∨ s.bcu.state = .failedOpen) → s.pair = .opened → 1 ≤ s.bcu.hold →
      exec .tripRelease s = .next
        { s with bcu := { s.bcu with
          state := .opened, trip := false, close := false, supervision := 0, discrepancy := none, hold := 0 } }) ∧
    ∀ n : Nat, s.bcu.discrepancy = some n → s.cfg.tDisc.toNat ≤ n + 1 →
      (s.bcu.state = .opened ∨ s.bcu.state = .closed ∨ s.bcu.state = .unknown) → exec .discrepancyExpiry s = .next
        { s with
          bcu := { s.bcu with
            state := .discrepant, trip := false, close := false, supervision := 0, discrepancy := none,
            alarms := { s.bcu.alarms with discrepant := some s.lkc.count } },
          cfp := { s.cfp with attention := s.cfp.attention ||| 0x0008#16 } }) ∧
  (∀ s : State,
    (¬(s.bcu.state = .closing ∧ s.bcu.acceptedNow = false) → s.supervisionTick = s) ∧
    (s.bcu.state = .closing → s.bcu.acceptedNow = false →
      (s.bcu.supervision + 1 < s.cfg.tCloseMax.toNat →
        s.supervisionTick = { s with bcu := { s.bcu with supervision := s.bcu.supervision + 1 } }) ∧
      (s.cfg.tCloseMax.toNat ≤ s.bcu.supervision + 1 → s.cfp.run = .run →
        exec .closeSupervisionExpiry s = .next s.supervisionTick)) ∧
    (s.bcu.discrepancy = none → s.discrepancyTick = s) ∧
    ∀ n : Nat, s.bcu.discrepancy = some n →
      (¬(s.bcu.state = .opened ∨ s.bcu.state = .closed ∨ s.bcu.state = .unknown) → s.discrepancyTick = s) ∧
      ((s.bcu.state = .opened ∨ s.bcu.state = .closed ∨ s.bcu.state = .unknown) →
        (n + 1 < s.cfg.tDisc.toNat → s.discrepancyTick = { s with bcu := { s.bcu with discrepancy := some (n + 1) } }) ∧
        (s.cfg.tDisc.toNat ≤ n + 1 → s.cfp.run = .run → exec .discrepancyExpiry s = .next s.discrepancyTick))) ∧
  (∀ (s s0 : State) (h : Nat),
    h = (if s0.bcu.trip = true ∧ s.bcu.trip = true then min 2 (s.bcu.hold + 1) else s.bcu.hold) →
    (((s.bcu.state = .opening ∨ s.bcu.state = .failedOpen) ∧ s.pair = .opened ∧ 2 ≤ h) → s.holdTick s0 = { s with
      bcu := { s.bcu with
        state := .opened, trip := false, close := false, supervision := 0, discrepancy := none, hold := 0 } }) ∧
    (¬((s.bcu.state = .opening ∨ s.bcu.state = .failedOpen) ∧ s.pair = .opened ∧ 2 ≤ h) →
      s.holdTick s0 = { s with bcu := { s.bcu with hold := h } })) ∧
  (∀ (s s0 : State) (presents : Bool),
    (presents = true ↔ (∃ x : Sec, s0.cfg.belongs x = true ∧ s0.sectionTrips x = true) ∨
      ∃ (k : Station) (r : BayRecord), k ≠ s0.cfg.own ∧ s0.usableRec k = some r ∧ r.bfNotice = true ∧
        concerns s0.cfg r = true) →
    (presents = false → (s.top.ownLocked s.cfg = true ∨ (s.cfg.role = some .incomer ∧ s.tru.healthy = false)) →
      s.bcuDrop s0 = s.closeDrop) ∧
    ((presents = true ∨ (s.top.ownLocked s.cfg = false ∧ (s.cfg.role ≠ some .incomer ∨ s.tru.healthy = true))) →
      s.bcuDrop s0 = s)) ∧
  (∀ s : State,
    ((s.bcu.state ≠ .closing ∨ s.bcu.close = false) → s.closeDrop = s) ∧
    (s.bcu.state = .closing → s.bcu.close = true →
      (s.pair = .opened → s.closeDrop.bcu.state = .opened ∧ s.closeDrop.bcu.close = false ∧ s.closeDrop.bcu.owner = none ∧
        s.closeDrop.bcu.lastOutcome = some (.dropped, s.lkc.count)) ∧
      (s.pair = .closed → s.closeDrop.bcu.state = .closed ∧ s.closeDrop.bcu.close = false ∧ s.closeDrop.bcu.owner = none ∧
        s.closeDrop.bcu.lastOutcome = some (.dropped, s.lkc.count)) ∧
      (s.pair ≠ .opened → s.pair ≠ .closed → s.closeDrop = { s with bcu := { s.bcu with close := false } }))) ∧
  ∀ s : State, (s.fnActive .extTrip = false → s.bcuExtTrip = s) ∧
    (s.fnActive .extTrip = true → s.bcuExtTrip = s.tripRequest) ∧
    ((s.bcu.state = .opened ∨ s.bcu.state = .opening ∨ s.bcu.state = .failedOpen) →
      s.tripRequest.bcu = { s.bcu with trippedNow := true }) ∧
    ((s.bcu.state = .unknown ∨ s.bcu.state = .closed ∨ s.bcu.state = .discrepant) → s.tripRequest.bcu = { s.bcu with
      trippedNow := true, state := .opening, close := false, trip := true, hold := 0, reconfirm := some 0,
      supervision := 0, discrepancy := none }) ∧
    (s.bcu.state = .closing → s.tripRequest.bcu.state = .opening ∧ s.tripRequest.bcu.close = false ∧
      s.tripRequest.bcu.trip = true ∧ s.tripRequest.bcu.hold = 0 ∧ s.tripRequest.bcu.reconfirm = some 0 ∧
      s.tripRequest.bcu.owner = none ∧ s.tripRequest.bcu.lastOutcome = some (.tripped, s.lkc.count)) ∧
    s.tripRequest.dbu.timer = (if s.dbu.timer = .idle ∧ s.bcu.state ≠ .opened ∧ s.bcu.state ≠ .failedOpen then .running 0
      else s.dbu.timer)

/-- A close request of another unit than SYU with both sides LIVE is stopped by the live-live interlock and changes
nothing. Any other is accepted exactly when the five conditions of the breaker hold: then BCU asserts CLOSE in CLOSING
for the asking unit, with a re-confirmation pending. It is refused with NOT_OPEN, LOCKOUT, TRIP_STANDING, BLOCKED or
UNHEALTHY exactly when that condition fails and those before it hold, and the reason is kept as the last refusal. That
a trip request still to come at the same cycle close counts as standing, foretold in trippedNow, is log 15. -/
def Obligations.CloseRequestIsJudgedInOrder : Prop :=
  ∀ (u : CloseUnit) (s : State),
    ((u ≠ .syu ∧ s.currentSet.busClass = .live ∧ s.currentSet.clsL = .live) →
      s.closeRequest u = (s, some .liveLive)) ∧
    (¬(u ≠ .syu ∧ s.currentSet.busClass = .live ∧ s.currentSet.clsL = .live) →
      (∀ r : CloseRefusal,
        s.closeRequest u = ({ s with bcu := { s.bcu with lastRefusal := some (r, u, s.lkc.count) } }, some r) ↔
          (r = .notOpen ∧ s.bcu.state ≠ .opened) ∨
          (s.bcu.state = .opened ∧
            ((r = .lockout ∧ (s.dbu.lockout = true ∨ s.top.ownLocked s.cfg = true)) ∨
            (s.dbu.lockout = false ∧ s.top.ownLocked s.cfg = false ∧
              ((r = .tripStanding ∧ (s.pruStands = true ∨ s.fnActive .extTrip = true ∨ s.bcu.trippedNow = true)) ∨
              (s.pruStands = false ∧ s.fnActive .extTrip = false ∧ s.bcu.trippedNow = false ∧
                ((r = .blocked ∧ s.fnActive .extBlockClose = true) ∨
                (r = .unhealthy ∧ s.fnActive .extBlockClose = false ∧ s.cfg.role = some .incomer ∧
                  s.tru.healthy = false))))))))  ∧
      (s.closeRequest u =
          ({ s with bcu := { s.bcu with
            state := .closing, close := true, owner := some u, supervision := 0, acceptedNow := true,
            reconfirm := some 0, discrepancy := none } }, none) ↔
        s.bcu.state = .opened ∧ s.dbu.lockout = false ∧ s.top.ownLocked s.cfg = false ∧ s.pruStands = false ∧
        s.fnActive .extTrip = false ∧ s.bcu.trippedNow = false ∧ s.fnActive .extBlockClose = false ∧
        (s.cfg.role = some .incomer → s.tru.healthy = true)))

/-- What stands outside the block. In CONFIG every output line is at its inactive level; in RUN it follows its source,
high for active or the reverse when active-low, and each of the nine sources is the item its block holds, LOCKOUT in
RUN alone. ALARM is active exactly while an ALARM element is in OPERATE, a section is ZONE_BLOCKED, the breaker is
DISCREPANT or the generator in FAIL; the raw level of a line is its pin in either run state. A status sum reads in two
words, zero for a section NOT_EVALUATED, and wherever its words lie a quantity of two words has its low word after its
high one; a store item reads in the instance GROUP_ACCESS selects, those of the tables below 0400 and those of the
group window from there, the fault half first. The transfer direction reads as its number, an idle discrepancy count
as 0 (log 52), and ROCOF in two words (log 6). On data out a transfer shows 0 under the command and address bytes, 0
throughout in a kind other than READ (that it does so after those bytes is log 69, the model's choice), and in a READ
the words at successive addresses, each as it stands at its own moment, 0 beyond a nonzero count; a word of a Peer
Image block comes from the buffer the block's first word filled. Where each status word lies is free (log 6); codes
and the words that read for none are free too. -/
def Obligations.WhatTheOutsideReads : Prop :=
  (∀ (s : State) (i : Fin 8),
    (s.cfp.run = .config → s.outputPin i = (s.cfg.outputs.get i).low) ∧
    (s.cfp.run = .run → ∀ src, (s.cfg.outputs.get i).src = some src →
      (s.outputPin i = true ↔ (s.sourceLevel src = true ↔ (s.cfg.outputs.get i).low = false)))) ∧
  (∀ s : State,
    (s.sourceLevel .none = false ∧ s.sourceLevel .trip = s.bcu.trip ∧ s.sourceLevel .close = s.bcu.close ∧
      s.sourceLevel .bfTrip = s.dbu.notice ∧ (s.sourceLevel .lockout = true ↔ s.cfp.run = .run ∧ s.dbu.lockout = true) ∧
      s.sourceLevel .syncPermit = s.syu.permit ∧ (s.sourceLevel .onGrid = true ↔ s.top.own = .grid) ∧
      (s.sourceLevel .startDemand = true ↔ s.cfg.role = some .incomer ∧ s.tru.startDemand = true) ∧
      (s.sourceLevel .engineRun = true ↔ s.cfg.role = some .generator ∧ s.gcu.unit ≠ .idle ∧ s.gcu.unit ≠ .fail)) ∧
    (s.sourceLevel .alarm = true ↔
      (∃ e : Element, (s.pru.elements.get e).state = .operate ∧ elementAction s.cfg s.pru e = some .alarm) ∨
      s.dbu.s1.blocked = 3 ∨ s.dbu.s2.blocked = 3 ∨ s.bcu.state = .discrepant ∨ s.gcu.unit = .fail)) ∧
  (∀ (i : Fin 8) (high : Bool) (s : State), s.cfp.run = .config → ∃ t, exec (.contactEvent i high) s = .next t ∧
    t.rawLevel i = high ∧ t = { s with bcu := { s.bcu with lines := t.bcu.lines } } ∧
    (∀ j : Fin 8, j ≠ i → t.bcu.lines.get j = s.bcu.lines.get j) ∧
    (t.bcu.lines.get i).level = (s.bcu.lines.get i).level) ∧
  ((∀ (s : State) (a : Word), 0x800 ≤ a.toNat → a.toNat < 0x1000 →
      s.portRead a = ((placedAt Config.statusAt StatusItem.twin 0x0800 0x0FFF a).map fun it =>
        (s.statusValue it).word a).getD 0) ∧
    (∀ (place : Word → Option StatusItem) (a : Word) (it : StatusItem),
      placedAt place StatusItem.twin 0x0800 0x0FFF a = some it → ∀ other : StatusItem,
      (StatusItem.twin it = some (true, other) → placedAt place StatusItem.twin 0x0800 0x0FFF (a + 1) = some other) ∧
      (StatusItem.twin it = some (false, other) → placedAt place StatusItem.twin 0x0800 0x0FFF (a - 1) = some other)) ∧
    (∀ (x : Sec) (p : Fin 3), StatusItem.twin (.iop x p true) = some (true, .iop x p false) ∧
      StatusItem.twin (.ires x p true) = some (true, .ires x p false)) ∧
    ∀ (s : State) (a : Word) (x : Sec) (p : Fin 3) (h : Bool),
      ((s.dbu.diff x).last = .notEvaluated →
        (s.statusValue (.iop x p h)).word a = 0 ∧ (s.statusValue (.ires x p h)).word a = 0) ∧
      ∀ c0 c1 c2 c : PhaseSum, (s.dbu.diff x).last = .complete c0 c1 c2 →
        c = (match p with | 0 => c0 | 1 => c1 | 2 => c2) →
        (s.statusValue (.iop x p h)).word a = BitVec.ofNat 16 (if h then c.iop / 65536 else c.iop % 65536) ∧
        (s.statusValue (.ires x p h)).word a = BitVec.ofNat 16 (if h then c.ires / 65536 else c.ires % 65536)) ∧
  (∀ (s : State) (a : Word),
    (s.statusValue .direction).word a = (match s.tru.direction with | none => 0 | some .one => 1 | some .two => 2) ∧
    (s.statusValue .discrepancy).word a = (match s.bcu.discrepancy with | none => 0 | some n => BitVec.ofNat 16 n) ∧
    ∀ r : Int, s.msu.rocof = some r →
      (s.snapshotValue (.rocof true)).word a ++ (s.snapshotValue (.rocof false)).word a = BitVec.ofInt 32 r) ∧
  (∀ (s : State) (a : Word), 0x100 ≤ a.toNat → a.toNat < 0x500 →
    s.portRead a = (((Config.tableItem a).filter fun it => it.wf && (match it.half with
      | none => decide (a.toNat < 0x400)
      | some .fault => decide (0x400 ≤ a.toNat ∧ a.toNat < Config.sourceHalf.toNat)
      | some .source => decide (0x400 ≤ a.toNat ∧ Config.sourceHalf.toNat ≤ a.toNat))).map (s.cfg.read s.cfp.groupAccess)).getD 0) ∧
  (∀ (bytes : List Byte) (m : List State),
    (transferOut bytes m).length = bytes.length ∧ (∀ n < 3, n < bytes.length → (transferOut bytes m)[n]? = some 0) ∧
    (∀ b rest, bytes = b :: rest → portKind b ≠ .read → ∀ y ∈ transferOut bytes m, y = 0) ∧
    ∀ b hi lo rest, bytes = b :: hi :: lo :: rest → portKind b = .read → ∀ n : Nat,
      (portCount b ≠ 0 → portCount b ≤ n → ∀ k ∈ [3 + 2 * n, 4 + 2 * n], ∀ y, (transferOut bytes m)[k]? = some y → y = 0) ∧
      ∀ s : State, m[n]? = some s → (portCount b = 0 ∨ n < portCount b) →
        (∀ j ≤ n, ¬(0x1100 ≤ (portWord hi lo + BitVec.ofNat 16 j).toNat ∧ (portWord hi lo + BitVec.ofNat 16 j).toNat < 0x1300)) →
        ∀ k ∈ [0, 1], ∀ y, (transferOut bytes m)[3 + 2 * n + k]? = some y →
          y = (s.portRead (portWord hi lo + BitVec.ofNat 16 n)).extractLsb' (8 - 8 * k) 8) ∧
  (∀ (a : Word) (k : Station) (s : State) (later : List State), blockAt a = some k →
    readWords false a (s :: later) = s.portRead a :: readWords true (a + 1) later ∧
    ∀ (b : Word) (u : State) (l : List State), blockAt b = none → 0x1100 ≤ b.toNat → b.toNat < 0x1300 →
      readWords true b (u :: l) = u.cfp.readBuffer.getD ((b.toNat - 0x1100) % 32) 0 :: readWords true (b + 1) l) ∧
  ∀ (s : State) (i : Fin 8), s.rawLevel i = (s.bcu.lines.get i).high

/-! ### Claims and synchronising -/

/-- The own claim. A raise is judged in the order of the table: a lockout, a DEAD_BUS target that is LIVE, no claim or one
of the same origin, another origin. RAISED sets the claim with the rank of the role, 0 for RESTORE; a claim of the
same type and target stands, one replaced clears both won-before flags; every other answer changes nothing. A cancel
takes a claim of its origin alone. At a cycle close the claim is withdrawn for LOCKOUT, or a DEAD_BUS claim for a LIVE
target while no close is in flight, LOCKOUT first where both apply (log 65); as the breaker becomes CLOSED it is gone.
An operator claim ages from the close after the one that raised it and expires at 4 without a close in flight. An
operator close pending at a cycle close is routed by the two sides: to SYU, to a DEAD_BUS claim, to a dead-dead claim
if that is on, or to nothing, and the last operator close result says which, or the answer of a raise that was not
RAISED. The tie closes onto section 2 when that alone is dead; that it closes onto section 1 where neither side is
DEAD is log 24, and that a withdrawn claim is marked spent until its record is replaced is log 41, that the age stands
once the claim has ended log 54, the model's choices. -/
def Obligations.ClaimsAreRaisedWithdrawnAndRouted : Prop :=
  (∀ (s : State) (o : Origin) (restore : Bool) (x : Sec) (dd : Bool),
    ((s.top.locked x = true ∨ s.dbu.lockout = true) → (s.cluRaise o restore x dd).2 = .refusedLockout) ∧
    (s.top.locked x = false → s.dbu.lockout = false →
      (restore = false → targetSide s.cfg s.currentSet x = .live → (s.cluRaise o restore x dd).2 = .refusedLive) ∧
      ((restore = true ∨ targetSide s.cfg s.currentSet x ≠ .live) →
        ((s.cluRaise o restore x dd).2 = .raised ↔ ∀ c, s.clu.claim = some c → c.origin = o) ∧
        ((s.cluRaise o restore x dd).2 = .taken ↔ ∃ c, s.clu.claim = some c ∧ c.origin ≠ o))) ∧
    ((s.cluRaise o restore x dd).2 ≠ .raised → (s.cluRaise o restore x dd).1.clu = s.clu) ∧
    ((s.cluRaise o restore x dd).2 = .raised →
      (s.clu.claim = none → (s.cluRaise o restore x dd).1.clu = { s.clu with
        claim := some { restore := restore, target := x, rank := claimRankOf s.cfg restore, origin := o, deadDead := dd } }) ∧
      ∀ c, s.clu.claim = some c →
        (c.restore = restore ∧ c.target = x → (s.cluRaise o restore x dd).1.clu = s.clu) ∧
        (¬(c.restore = restore ∧ c.target = x) → (s.cluRaise o restore x dd).1.clu = { s.clu with
          claim := some { restore := restore, target := x, rank := claimRankOf s.cfg restore, origin := o, deadDead := dd },
          won1 := false, won2 := false })) ∧
    (o ≠ .tru → (s.cluRaise o restore x dd).1 = { s with clu := (s.cluRaise o restore x dd).1.clu })) ∧
  (∀ c : Settings, claimRankOf c true = 0 ∧ (c.role = some .incomer → claimRankOf c false = 0) ∧
    (c.role = some .tie → claimRankOf c false = 1) ∧ (c.role = some .generator → claimRankOf c false = 2) ∧
    (c.role = some .feeder → claimRankOf c false = 3)) ∧
  (∀ (s : State) (o : Origin),
    ((∃ c, s.clu.claim = some c ∧ c.origin = o) → s.cancelClaim o = { s with clu := { s.clu with claim := none } }) ∧
    ((∀ c, s.clu.claim = some c → c.origin ≠ o) → s.cancelClaim o = s)) ∧
  (∀ s : State,
    (s.clu.claim = none → s.cluWithdrawals = s) ∧
    (∀ c, s.clu.claim = some c →
      ((s.top.locked c.target = true ∨ s.dbu.lockout = true) → s.cluWithdrawals =
        ({ s with clu := { s.clu with claim := none, spent := true } } : State).tellClaimant c.origin (.withdrawn .lockout)) ∧
      (s.top.locked c.target = false → s.dbu.lockout = false →
        (c.restore = false ∧ targetSide s.cfg s.currentSet c.target = .live ∧ s.clu.inFlight = none → s.cluWithdrawals =
          ({ s with clu := { s.clu with claim := none, spent := true } } : State).tellClaimant c.origin
            (.withdrawn .targetLive)) ∧
        (¬(c.restore = false ∧ targetSide s.cfg s.currentSet c.target = .live ∧ s.clu.inFlight = none) →
          s.cluWithdrawals = s))) ∧
    ∀ o : Option CloseOutcome, (s.becomeClosed o).clu.claim = none) ∧
  (∀ (s : State) (c : Claim), s.clu.claim = some c → c.origin = .operator →
    (s.clu.raisedNow = true → s.cluWindow = s) ∧
    (s.clu.raisedNow = false → (s.clu.age < 3 ∨ s.clu.inFlight ≠ none) →
      s.cluWindow = { s with clu := { s.clu with age := min 4 (s.clu.age + 1) } }) ∧
    (s.clu.raisedNow = false → 3 ≤ s.clu.age → s.clu.inFlight = none →
      s.cluWindow = { s with clu := { s.clu with age := 4, claim := none, spent := true } })) ∧
  (∀ (c : Settings) (r : ResultSet), (c.role ≠ some .tie → operatorTarget c r = c.ownSec) ∧
    (c.role = some .tie → (operatorTarget c r = .two ↔ r.clsL = .dead ∧ r.busClass ≠ .dead))) ∧
  ∀ s : State, (s.clu.pendingClose = false → s.cluOperator = s) ∧
    (s.clu.pendingClose = true → ∀ x : Sec, x = operatorTarget s.cfg s.currentSet →
      (targetSide s.cfg s.currentSet x = .live → sourceLive s.cfg s.currentSet x = true → s.cluOperator =
        ({ s with clu := { s.clu with
          pendingClose := false, operatorResult := some (.toSync, s.lkc.count) } } : State).syuStart .operator) ∧
      (targetSide s.cfg s.currentSet x = .dead →
        (sourceLive s.cfg s.currentSet x = true ∨ (sourceSide s.cfg s.currentSet x = .dead ∧ s.cfg.deadDead = true)) →
        ∀ dd : Bool, dd = decide (sourceSide s.cfg s.currentSet x = .dead) →
        s.cluOperator = { s with clu := { (s.cluRaise .operator false x dd).1.clu with
          pendingClose := false, age := 0, raisedNow := true,
          operatorResult := some
            (if (s.cluRaise .operator false x dd).2 = .raised then (if dd then .claimedDeadDead else .claimed)
              else .answer (s.cluRaise .operator false x dd).2, s.lkc.count) } }) ∧
      (targetSide s.cfg s.currentSet x = .dead → sourceSide s.cfg s.currentSet x = .dead → s.cfg.deadDead = false →
        s.cluOperator = { s with clu := { s.clu with
          pendingClose := false, operatorResult := some (.deadDeadOff, s.lkc.count) } }) ∧
      ((targetSide s.cfg s.currentSet x = .indeterminate ∨
          (targetSide s.cfg s.currentSet x = .live ∧ sourceLive s.cfg s.currentSet x = false) ∨
          (targetSide s.cfg s.currentSet x = .dead ∧ sourceSide s.cfg s.currentSet x ≠ .dead ∧
            sourceLive s.cfg s.currentSet x = false)) →
        s.cluOperator = { s with clu := { s.clu with
          pendingClose := false, operatorResult := some (.sidesUndecided, s.lkc.count) } }))

/-- The contests and what a win brings. The dead-bus winner of a section is the FRESH station with the lowest (rank,
number) among the DEAD_BUS claims for it; the restore winner of an island the feeder with the lowest (priority,
number) among the FRESH RESTORE claims in it, none in an UNKNOWN map. The won-before flags take the result of the
cycle close. CLU makes a dead-bus request exactly when the own station has won twice for its published claim and the
seven conditions hold, the last replaced by a DEAD source for a dead-dead claim, with the sides as the table gives
them; and a restore request exactly when the published RESTORE claim wins and its five conditions hold. Accepted, the
close is in flight; refused, the reason goes to the origin and the claim is withdrawn. A close onto a dead target in
flight in CLOSING, whose target side shows LIVE, is aborted with DEADBUS_ABORT and a close drop. A claim withdrawn
after its record went out, and a cycle close at which a close has failed, bring no request (R123, R114, log 41).
Restore tracking: the summaries kept are those of the usable records (of every role: log 25), a feeder newly CLOSED in
a section sets its last close to the cycle count, and the delay of an island has run out when the count is t_restore
past the last close of its sections, the later of the two where the map is joined. -/
def Obligations.ContestsDecideTheCloses : Prop :=
  (∀ (s : State) (x : Sec) (k : Station), s.deadBusWinner x = some k ↔
    ∃ r, s.freshRec k = some r ∧ r.claim = .deadBus ∧ r.claimTarget = x ∧
      ∀ (j : Station) (q : BayRecord), j ≠ k → s.freshRec j = some q → q.claim = .deadBus → q.claimTarget = x →
        r.claimRank < q.claimRank ∨ (r.claimRank = q.claimRank ∧ k < j)) ∧
  (∀ (s : State) (x : Sec), (s.top.map = .unknown → s.restoreWinner x = none) ∧
    (s.top.map ≠ .unknown → ∀ k : Station, s.restoreWinner x = some k ↔
      ∃ r, s.freshRec k = some r ∧ r.role = .feeder ∧ r.claim = .restore ∧
        (r.claimTarget = x ∨ s.top.map = .joined) ∧
        ∀ (j : Station) (q : BayRecord), j ≠ k → s.freshRec j = some q → q.role = .feeder → q.claim = .restore →
          (q.claimTarget = x ∨ s.top.map = .joined) →
          priorityOf r < priorityOf q ∨ (priorityOf r = priorityOf q ∧ k < j))) ∧
  (∀ s : State, s.cluWinners.clu = { s.clu with
      winner1 := s.deadBusWinner .one, winner2 := s.deadBusWinner .two, restoreWinner1 := s.restoreWinner .one,
      restoreWinner2 := s.restoreWinner .two } ∧
    (s.cluWon.clu.won1 = true ↔ s.clu.winner1 = some s.cfg.own ∧ s.clu.failed = false) ∧
    (s.cluWon.clu.won2 = true ↔ s.clu.winner2 = some s.cfg.own ∧ s.clu.failed = false)) ∧
  (∀ (s : State) (x : Sec) (dd : Bool), s.deadBusReady x dd = true ↔
    s.clu.inFlight = none ∧
    (∃ set, s.top.expected x = some set ∧
      (∀ k : Station, set.getLsbD k.val = true → s.status k = .fresh) ∧
      ∀ (k : Station) (r : BayRecord), set.getLsbD k.val = true → k ≠ s.cfg.own → s.heldRec k = some r →
        r.role = .incomer → r.summary = .opened) ∧
    s.top.locked x = false ∧ s.dbu.lockout = false ∧ s.currentSet.meas = .valid ∧
    targetSide s.cfg s.currentSet x = .dead ∧
    (if dd then sourceSide s.cfg s.currentSet x = .dead
      else sourceSide s.cfg s.currentSet x = .live ∧ sourceFrequency s.cfg s.currentSet x ≠ 0)) ∧
  (∀ (c : Settings) (r : ResultSet) (x : Sec),
    (¬(c.role = some .tie ∧ x = .two) →
      targetSide c r x = r.busClass ∧ sourceSide c r x = r.clsL ∧ sourceFrequency c r x = r.fLine) ∧
    ((c.role = some .tie ∧ x = .two) →
      targetSide c r x = r.clsL ∧ sourceSide c r x = r.busClass ∧ sourceFrequency c r x = r.fBus)) ∧
  (∀ (s : State) (x : Sec),
    (∀ c : Claim, s.clu.published = some c → c.restore = false → c.target = x → s.clu.spent = false →
      s.bcu.endedNow = false → s.deadBusWinner x = some s.cfg.own →
      (if x = .one then s.clu.won1 else s.clu.won2) = true → s.deadBusReady x c.deadDead = true →
      s.cluDeadBus x = s.cluRequest (if c.deadDead then .deadDead else .deadBus) x c.origin) ∧
    ((¬∃ c : Claim, s.clu.published = some c ∧ c.restore = false ∧ c.target = x ∧ s.clu.spent = false ∧
      s.bcu.endedNow = false ∧ s.deadBusWinner x = some s.cfg.own ∧
      (if x = .one then s.clu.won1 else s.clu.won2) = true ∧ s.deadBusReady x c.deadDead = true) →
      s.cluDeadBus x = s)) ∧
  (∀ (s : State) (k : CloseKind) (x : Sec) (o : Origin),
    ((s.closeRequest .clu).2 = none → s.cluRequest k x o = { (s.closeRequest .clu).1 with
      clu := { s.clu with inFlight := some { kind := k, target := x, origin := o } } }) ∧
    ∀ why, (s.closeRequest .clu).2 = some why →
      (s.cluRequest k x o).clu.claim = none ∧ (s.cluRequest k x o).clu.lastOutcome = some (.refusal why) ∧
      (s.cluRequest k x o).clu.inFlight = s.clu.inFlight ∧ (s.cluRequest k x o).clu.won1 = false ∧
      (s.cluRequest k x o).clu.won2 = false ∧ (s.cluRequest k x o).bcu = (s.closeRequest .clu).1.bcu) ∧
  (∀ s : State,
    (∀ f, s.clu.inFlight = some f → f.kind ≠ .restore → s.bcu.state = .closing →
      targetSide s.cfg s.currentSet f.target = .live →
      s.cluAbort = (({ s with clu := { s.clu with abort := some s.lkc.count } } : State).raise .deadbusAbort).closeDrop) ∧
    ((∀ f, s.clu.inFlight = some f → f.kind = .restore ∨ s.bcu.state ≠ .closing ∨
      targetSide s.cfg s.currentSet f.target ≠ .live) → s.cluAbort = s)) ∧
  (∀ s : State,
    (s.clu.spent = false → s.bcu.endedNow = false → s.restoreWinner s.cfg.ownSec = some s.cfg.own →
      (∃ r, s.freshRec s.cfg.own = some r ∧ r.claim = .restore) → s.clu.inFlight = none →
      s.restoreDelayOut s.cfg.ownSec = true → s.top.locked s.cfg.ownSec = false → s.dbu.lockout = false →
      s.currentSet.meas = .valid → s.currentSet.busClass = .live →
      s.cluRestore = s.cluRequest .restore s.cfg.ownSec .fcu) ∧
    (¬(s.clu.spent = false ∧ s.bcu.endedNow = false ∧ s.restoreWinner s.cfg.ownSec = some s.cfg.own ∧
      s.clu.inFlight = none ∧ s.restoreDelayOut s.cfg.ownSec = true ∧ s.top.locked s.cfg.ownSec = false ∧
      s.dbu.lockout = false ∧ s.currentSet.meas = .valid ∧ s.currentSet.busClass = .live) → s.cluRestore = s)) ∧
  ∀ s : State,
    s.cluTrack = { s with clu := { s.clu with
      lastClose1 := if s.feederClosed .one then s.lkc.count else s.clu.lastClose1,
      lastClose2 := if s.feederClosed .two then s.lkc.count else s.clu.lastClose2, lastSeen := s.cluTrack.clu.lastSeen } } ∧
    (∀ k : Station, s.cluTrack.clu.lastSeen.get k = (s.usableRec k).map BayRecord.summary) ∧
    (∀ x : Sec, s.feederClosed x = true ↔ ∃ (k : Station) (r : BayRecord), s.usableRec k = some r ∧ r.role = .feeder ∧
      r.summary = .closed ∧ r.sect = some x ∧ s.clu.lastSeen.get k ≠ some .closed) ∧
    (∀ x : Sec, s.restoreDelayOut x = true ↔ s.cfg.tRestore.toNat ≤ (s.lkc.count - s.lastClose x).toNat) ∧
    (s.top.map ≠ .joined → s.lastClose .one = s.clu.lastClose1 ∧ s.lastClose .two = s.clu.lastClose2) ∧
    (s.top.map = .joined → ∀ x : Sec, (s.lastClose x = s.clu.lastClose1 ∨ s.lastClose x = s.clu.lastClose2) ∧
      (s.lkc.count - s.lastClose x).toNat =
        min (s.lkc.count - s.clu.lastClose1).toNat (s.lkc.count - s.clu.lastClose2).toNat)

/-- OPERATOR_CLAIM_EXPIRY in RUN, at the fourth cycle close of an operator's claim with no close in flight and no operator
close pending, withdraws it, unless its cycle close makes the close request or withdraws the claim for LOCKOUT or
TARGET_LIVE: then the row changes nothing. In every case it reads what CLU would leave before its window: an
operator's claim of an earlier cycle close, with no close in flight, expires. RESTORE_DELAY_EXPIRY reads what its
cycle close forms, TOP, the trip requests to come and the feeder closes observed at it, and leaves the results of the
last CYCLE_CLOSE standing. With the restore delay still running nothing changes. With it run out, a feeder whose
published RESTORE claim wins and whose conditions hold makes its close request: accepted, the breaker is CLOSING for
CLU with a restore close in flight; with both sides LIVE the interlock stops it, the claim is withdrawn, and FCU
stands in MANUAL_OPEN from every state but MANUAL_OPEN (log 31). That the rows stand for one count's last tick is log
11, that a withdrawn claim's record asks for no further close is log 41, that its age then stands at 4 is log 54. -/
def Obligations.ClaimTimersExpire : Prop :=
  ∀ s : State, s.cfp.run = .run →
    (∀ c : Claim, s.clu.claim = some c → c.origin = .operator → s.clu.inFlight = none → 3 ≤ s.clu.age →
      s.clu.pendingClose = false →
      ((∀ p, s.clu.published = some p → s.clu.spent = false → p.restore = false →
          s.atClose.deadBusWinner p.target = some s.cfg.own → (if p.target = .one then s.clu.won1 else s.clu.won2) = true →
          s.atClose.deadBusReady p.target p.deadDead = false) →
        (s.clu.spent = false → s.atClose.restoreWon = true → s.atClose.cluTrack.restoreReady s.cfg.ownSec = false) →
        (s.atClose.top.locked c.target = false → s.dbu.lockout = false →
          (c.restore = false → targetSide s.cfg s.currentSet c.target ≠ .live) → exec .operatorClaimExpiry s = .next
            { s with clu := { s.clu with age := 4, claim := none, spent := true } }) ∧
        ((s.atClose.top.locked c.target = true ∨ s.dbu.lockout = true ∨
          (c.restore = false ∧ targetSide s.cfg s.currentSet c.target = .live)) → exec .operatorClaimExpiry s = .next s)) ∧
      (s.clu.published = some c → s.clu.spent = false → c.restore = false →
        s.atClose.deadBusWinner c.target = some s.cfg.own → (if c.target = .one then s.clu.won1 else s.clu.won2) = true →
        s.atClose.deadBusReady c.target c.deadDead = true → exec .operatorClaimExpiry s = .next s)) ∧
    (∀ t : State, t = s.atClose.cluActs →
      (((∃ c, t.clu.claim = some c ∧ c.origin = .operator) ∧ t.clu.raisedNow = false ∧ t.clu.inFlight = none ∧ 3 ≤ t.clu.age) →
        ∀ c, s.clu.claim = some c → c.origin = .operator → exec .operatorClaimExpiry s = .next
          { s with clu := { s.clu with age := 4, claim := none, spent := true } }) ∧
      (¬((∃ c, t.clu.claim = some c ∧ c.origin = .operator) ∧ t.clu.raisedNow = false ∧ t.clu.inFlight = none ∧
        3 ≤ t.clu.age) → exec .operatorClaimExpiry s = .next s)) ∧
    (∃ f, s.atClose.cluTrack.top = s.formTopology f ∧ (s.dbu.lockout = true → f = true)) ∧
    (s.atClose.cluTrack.restoreDelayOut s.cfg.ownSec = false → exec .restoreDelayExpiry s = .next s) ∧
    (s.atClose.cluTrack.restoreDelayOut s.cfg.ownSec = true → s.atClose.cluTrack.restoreWon = true → s.clu.spent = false →
      s.clu.inFlight = none → s.atClose.cluTrack.top.locked s.cfg.ownSec = false →
      s.atClose.cluTrack.top.ownLocked s.cfg = false →
      s.dbu.lockout = false → s.currentSet.meas = .valid → s.currentSet.busClass = .live → s.cfg.role = some .feeder →
      (s.currentSet.clsL ≠ .live → s.bcu.state = .opened → s.pruStands = false → s.fnActive .extTrip = false →
        s.atClose.cluTrack.bcu.trippedNow = false → s.fnActive .extBlockClose = false → exec .restoreDelayExpiry s = .next
          { s with
            bcu := { s.bcu with
              state := .closing, close := true, owner := some .clu, supervision := 0, reconfirm := some 0,
              discrepancy := none },
            clu := { s.clu with
              lastSeen := s.atClose.cluTrack.clu.lastSeen,
              lastClose1 := if s.feederClosed .one then s.lkc.count else s.clu.lastClose1,
              lastClose2 := if s.feederClosed .two then s.lkc.count else s.clu.lastClose2,
              inFlight := some { kind := .restore, target := s.cfg.ownSec, origin := .fcu } } }) ∧
      (s.currentSet.clsL = .live → ∃ t, exec .restoreDelayExpiry s = .next t ∧
        State.Consequence s t ∧ t.bcu = s.bcu ∧ t.clu.claim = none ∧
        (s.fcu.state ≠ .manualOpen → t.fcu =
          { s.fcu with state := .manualOpen, cause := .feederLive, held := 0 })))

/-- The quantities of the synchronising check. With both frequencies valid the slip is f_line − f_bus, and the advance angle
is slip times t_close_ms times 36, divided by 1000 and truncated toward zero; otherwise the slip is invalid. With both
crossings present the angle is their signed 32-bit difference times 3600, divided by the bus period and truncated toward
zero, wrapped into −1800..+1799; the predicted angle is the wrapped sum of angle and advance. -/
def Obligations.SlipAngleAndAdvance : Prop :=
  ∀ s : State,
    (s.formCheck.dv = some ((s.currentSet.mag.vl : Int) - (s.currentSet.mag.va : Int)) ∧
      s.formCheck.cycle = some s.lkc.count) ∧
    ((s.currentSet.fBus = 0 ∨ s.currentSet.fLine = 0) →
      s.formCheck.slip = none ∧ s.formCheck.angle = none ∧ s.formCheck.advance = none ∧ s.formCheck.predicted = none) ∧
    (s.currentSet.fBus ≠ 0 → s.currentSet.fLine ≠ 0 →
      s.formCheck.slip = some ((s.currentSet.fLine : Int) - (s.currentSet.fBus : Int)) ∧
      s.formCheck.advance = some
        ((((s.currentSet.fLine : Int) - (s.currentSet.fBus : Int)) * (s.cfg.tCloseMs.toNat : Int) * 36).tdiv 1000) ∧
      ∀ b l : Count, s.currentSet.tBus = some b → s.currentSet.tLine = some l → ∃ d p, s.formCheck.angle = some d ∧
        (-1800 ≤ d ∧ d ≤ 1799 ∧ ∃ n : Int, d = ((b - l).toInt * 3600).tdiv (s.currentSet.periodBus : Int) + 3600 * n) ∧
        s.formCheck.predicted = some p ∧ (-1800 ≤ p ∧ p ≤ 1799) ∧ ∃ n : Int, ∃ a, s.formCheck.advance = some a ∧
          p = d + a + 3600 * n)

/-- The seven conditions of the check in their order MEAS, SIDES, PERMIT, SLIP, DIRECTION, VOLTAGE, ANGLE, each with what
it holds on and false where its quantities are invalid (an invalid slip fails DIRECTION under ANY too: log 22). The
first condition that fails is named, none exactly when all seven hold, and the check passes exactly then.
SYNC_SUPERVISION_EXPIRY in RUN, at the count's last tick in CHECKING at a cycle close whose check fails and that ends
the attempt for nothing else, ends it with EXPIRED, SYNC_FAIL pending and no permit, a generator in SYNC going to
SYNC_WAIT; breaker, DBU and feeder stand; where the check passes nothing changes (log 11). A start is judged by the
first line that applies: LOCKOUT, NOT_OPEN, STARTED, STANDING, BUSY; one of TRU notes the answer. At a cycle close the
permit falls, and an attempt in CHECKING from an earlier one ends with LOCKOUT, then SIDE_DEAD (that order and the
exemption at its first cycle close: log 40); a pass makes the request, CLOSING with the permit when accepted and else
ended with the refusal; a check that fails counts, and at t_sync_max the attempt expires. No request follows a close
that has failed at this cycle close (R114). -/
def Obligations.SyncCheckAndItsSupervision : Prop :=
  (∀ s : State,
    (s.formCheck.results.length = 7 ∧
      (s.formCheck.results[0]? = some true ↔ s.currentSet.meas = .valid) ∧
      (s.formCheck.results[1]? = some true ↔ s.currentSet.busClass = .live ∧ s.currentSet.clsL = .live ∧
        s.currentSet.fBus ≠ 0 ∧ s.currentSet.fLine ≠ 0) ∧
      (s.formCheck.results[2]? = some true ↔ (s.cfg.role = some .incomer → s.fnActive .utilityPermit = true)) ∧
      (s.formCheck.results[3]? = some true ↔ ∃ x, s.formCheck.slip = some x ∧ x.natAbs ≤ s.cfg.sMax.toNat) ∧
      (s.formCheck.results[4]? = some true ↔ ∃ x, s.formCheck.slip = some x ∧ (s.cfg.direction = some .any ∨
        (s.cfg.direction = some .positive ∧ 0 < x) ∨ (s.cfg.direction = some .negative ∧ x < 0))) ∧
      (s.formCheck.results[5]? = some true ↔ ∃ x, s.formCheck.dv = some x ∧ x.natAbs ≤ s.cfg.dvMax.toNat) ∧
      (s.formCheck.results[6]? = some true ↔ ∃ x, s.formCheck.predicted = some x ∧ x.natAbs ≤ s.cfg.window.toNat)) ∧
    (s.formCheck.passes = true ↔ ∀ n < 7, s.formCheck.results[n]? = some true) ∧
    (s.formCheck.failing = none ↔ s.formCheck.passes = true) ∧
    (∀ (n : Nat) (x : SyncCondition), n < 7 →
      [SyncCondition.meas, .sides, .permit, .slip, .direction, .voltage, .angle][n]? = some x →
      (s.formCheck.failing = some x ↔
        s.formCheck.results[n]? = some false ∧ ∀ m < n, s.formCheck.results[m]? = some true)) ∧
    (s.cfp.run = .run → s.syu.state = .checking → s.formCheck.passes = true → exec .syncSupervisionExpiry s = .next s) ∧
    (s.cfp.run = .run → s.syu.state = .checking → s.dbu.lockout = false → s.atClose.top.ownLocked s.cfg = false →
      s.currentSet.busClass ≠ .dead → s.currentSet.clsL ≠ .dead → s.formCheck.passes = false →
      s.cfg.tSyncMax.toNat ≤ s.syu.supervision + 1 →
      ∃ t, exec .syncSupervisionExpiry s = .next t ∧ State.Consequence s t ∧
        t.bcu = s.bcu ∧ t.dbu = s.dbu ∧ t.fcu = s.fcu ∧
        t.syu.state = .idle ∧ t.syu.owner = none ∧ t.syu.permit = false ∧
        t.syu.lastEnding = some (.expired, s.syu.owner, s.lkc.count) ∧ t.pendingBit .syncFail = true ∧
        (s.syu.owner = some .gcu → s.gcu.unit = .sync → t.gcu.unit = .syncWait ∧ t.gcu.retryCount = 0) ∧
        (s.syu.owner = some .tru → t.tru.state = s.tru.state ∧ t.tru.lastAnswer = some (.expired, s.lkc.count)))) ∧
  (∀ (s : State) (o : SyncOwner), o ≠ .tru →
    ((s.dbu.lockout = true ∨ s.top.ownLocked s.cfg = true) →
      s.syuStart o = { s with syu := { s.syu with lastEnding := some (.startLockout, some o, s.lkc.count) } }) ∧
    (s.dbu.lockout = false → s.top.ownLocked s.cfg = false →
      (s.bcu.state ≠ .opened →
        s.syuStart o = { s with syu := { s.syu with lastEnding := some (.startNotOpen, some o, s.lkc.count) } }) ∧
      (s.bcu.state = .opened →
        (s.syu.state = .idle → s.syuStart o = { s with syu := { s.syu with
          state := .checking, owner := some o, supervision := 0, startedNow := true } }) ∧
        (s.syu.state ≠ .idle → s.syu.owner = some o → s.syuStart o = s) ∧
        (s.syu.state ≠ .idle → s.syu.owner ≠ some o →
          s.syuStart o = { s with syu := { s.syu with lastEnding := some (.busy, some o, s.lkc.count) } })))) ∧
  (∀ s t : State, t = { s with syu := { s.syu with permit := false } } →
    ((s.syu.state ≠ .checking ∨ s.syu.startedNow = true) → s.syuClose = t) ∧
    (s.syu.state = .checking → s.syu.startedNow = false →
      ((s.dbu.lockout = true ∨ s.top.ownLocked s.cfg = true) → s.syuClose = t.syuEnd .endLockout) ∧
      (s.dbu.lockout = false → s.top.ownLocked s.cfg = false →
        ((s.currentSet.busClass = .dead ∨ s.currentSet.clsL = .dead) → s.syuClose = t.syuEnd .sideDead) ∧
        (s.currentSet.busClass ≠ .dead → s.currentSet.clsL ≠ .dead →
          (s.syu.check.passes = true → s.bcu.endedNow = true → s.syuClose = t) ∧
          (s.syu.check.passes = true → s.bcu.endedNow = false →
            (s.judgeClose = none → s.syuClose.syu = { s.syu with state := .closing, permit := true } ∧
              s.syuClose.bcu.state = .closing ∧ s.syuClose.bcu.close = true ∧ s.syuClose.bcu.owner = some .syu) ∧
            ∀ why, s.judgeClose = some why → s.syuClose.syu.state = .idle ∧ s.syuClose.syu.permit = false ∧
              s.syuClose.syu.lastEnding = some (.refusal why, s.syu.owner, s.lkc.count) ∧
              s.syuClose.bcu.close = s.bcu.close ∧ s.syuClose.bcu.state = s.bcu.state) ∧
          (s.syu.check.passes = false →
            (s.syu.supervision + 1 < s.cfg.tSyncMax.toNat →
              s.syuClose = { t with syu := { t.syu with supervision := s.syu.supervision + 1 } }) ∧
            (s.cfg.tSyncMax.toNat ≤ s.syu.supervision + 1 → s.syuClose.syu.state = .idle ∧
              s.syuClose.syu.lastEnding = some (.expired, s.syu.owner, s.lkc.count) ∧
              s.syuClose.pendingBit .syncFail = true)))))) ∧
  ∀ (s : State) (note : Answer → Tru), (∀ a, note a = { s.tru with lastAnswer := some (a, s.lkc.count) }) →
    ((s.dbu.lockout = true ∨ s.top.ownLocked s.cfg = true) → s.syuStart .tru = { s with
      syu := { s.syu with lastEnding := some (.startLockout, some .tru, s.lkc.count) }, tru := note .startLockout }) ∧
    (s.dbu.lockout = false → s.top.ownLocked s.cfg = false →
      (s.bcu.state ≠ .opened → s.syuStart .tru = { s with
        syu := { s.syu with lastEnding := some (.startNotOpen, some .tru, s.lkc.count) }, tru := note .startNotOpen }) ∧
      (s.bcu.state = .opened →
        (s.syu.state = .idle → s.syuStart .tru = { s with
          syu := { s.syu with state := .checking, owner := some .tru, supervision := 0, startedNow := true },
          tru := note .started }) ∧
        (s.syu.state ≠ .idle → s.syu.owner = some .tru → s.syuStart .tru = { s with tru := note .standing }) ∧
        (s.syu.state ≠ .idle → s.syu.owner ≠ some .tru → s.syuStart .tru = { s with
          syu := { s.syu with lastEnding := some (.busy, some .tru, s.lkc.count) }, tru := note .busy })))

/-! ### The generator, the feeder and the transfer -/

/-- The four counts of the unit state at their last tick, in a generator in RUN with the breaker as each state has it and
no stop notice: START_FAIL puts a unit whose engine is not ready in FAIL; RETRY_EXPIRY starts a new attempt from
SYNC_WAIT; UNLOAD_EXPIRY opens the breaker and goes to COOLDOWN; COOL_EXPIRY, with no demand, goes to IDLE. Each sets
TRANSFER_CHANGE; demand, notice and the island are those its cycle close forms (that the rows are the counts' last
ticks is log 11; the cool count at 0 on entry to COOLDOWN is log 20, that the count of a state left stands is log 63). -/
def Obligations.GeneratorCountsExpire : Prop :=
  ∀ s : State, s.cfp.run = .run → s.cfg.role = some .generator → s.atClose.stopNow = false →
    (s.gcu.unit = .starting → s.bcu.state = .opened → s.atClose.demandNow = true → s.engineReady = false →
      s.cfg.tStart.toNat ≤ s.gcu.startCount + 1 → ∃ t, exec .startFail s = .next t ∧
        State.Consequence s t ∧ t.gcu.unit = .fail ∧ t.gcu.failReason = .startFail ∧ t.pendingBit .transferChange = true ∧ t.bcu = s.bcu ∧
        t.dbu = s.dbu ∧ t.tru = s.tru ∧ ∀ c, t.clu.claim = some c → c.origin ≠ .gcu) ∧
    (s.gcu.unit = .syncWait → s.bcu.state = .opened → s.atClose.demandNow = true → s.engineReady = true →
      s.cfg.tRetry.toNat ≤ s.gcu.retryCount + 1 → ∃ t, exec .retryExpiry s = .next t ∧
        State.Consequence s t ∧ t.gcu = { s.gcu with unit := .sync, retryCount := s.cfg.tRetry.toNat } ∧
        t.pendingBit .transferChange = true ∧ t.bcu = s.bcu ∧ t.dbu = s.dbu ∧ t.clu = s.clu ∧ t.tru = s.tru ∧
        (s.syu.state = .idle → s.dbu.lockout = false → s.atClose.top.ownLocked s.cfg = false →
          t.syu = { s.syu with state := .checking, owner := some .gcu, supervision := 0 })) ∧
    (s.gcu.unit = .unload → s.bcu.state = .closed → s.atClose.demandNow = false → s.atClose.top.own = .grid →
      (s.cfg.lOff.toNat : Int) < s.ownL → s.cfg.tUnload.toNat ≤ s.gcu.unloadCount + 1 →
      ∃ t, exec .unloadExpiry s = .next t ∧
        State.Consequence s t ∧ t.gcu = { s.gcu with
          unit := .cooldown, unloadCount := s.cfg.tUnload.toNat, coolCount := 0 } ∧
        (t.bcu.state = .opening ∧ t.bcu.trip = true ∧ t.bcu.close = false) ∧ t.pendingBit .transferChange = true) ∧
    (s.gcu.unit = .cooldown → s.bcu.state = .opened → s.atClose.demandNow = false → s.cfg.tCool.toNat ≤ s.gcu.coolCount + 1 →
      exec .coolExpiry s = .next
        { s with
          gcu := { s.gcu with unit := .idle, coolCount := s.cfg.tCool.toNat },
          cfp := { s.cfp with attention := s.cfp.attention ||| 0x0040#16 } })

/-- GCU at a cycle close of a generator; elsewhere it does nothing. Demand and stop notice are read from the usable
incomers of the own island, demand in AUTO alone. A unit entered at this cycle close is not tested. The common tests
decide first, on the breaker as it stands at the cycle close (log 15): FAILED_OPEN puts the unit in FAIL for BF, a
CLOSED breaker brings it to ONLINE, an OPEN or OPENING one sends an on-line unit to COOLDOWN, and a stop notice does
too, opening the breaker of an on-line one, unless a close for GCU travels or has ended at this cycle close (log 62).
Then the tests of each unit state in their order: IDLE, STARTING, DEADBUS, SYNC, SYNC_WAIT, ONLINE, UNLOAD, COOLDOWN
and FAIL. An answer brings DEADBUS or SYNC to ONLINE, to FAIL for CLOSE_FAIL, or SYNC to SYNC_WAIT, and else leaves
them. A change of unit sets TRANSFER_CHANGE and starts the count of the state entered at 0 (for the cool count log
20). That IDLE starts on demand with a stop notice standing too is log 55, the model's choice. After an answer of this
cycle close that leaves DEADBUS or SYNC their tests wait for the next (R151, R152). That an answer finds any other
unit unmoved is log 61. -/
def Obligations.GeneratorUnitAtACycleClose : Prop :=
  (∀ s : State, (s.cfg.role ≠ some .generator → s.gcuClose = s) ∧
    (s.cfg.role = some .generator → s.gcuClose = s.gcuView.gcuTests.gcuBias) ∧
    (s.gcuView.gcu.demand = true ↔ s.tru.mode = .auto ∧ ∃ (k : Station) (r : BayRecord) (y : Sec), s.usableRec k = some r ∧
      r.role = .incomer ∧ r.sect = some y ∧ (y = s.cfg.ownSec ∨ s.top.map = .joined) ∧ r.startDemand = true) ∧
    (s.gcuView.gcu.stopNotice = true ↔ ∃ (k : Station) (r : BayRecord) (y : Sec), s.usableRec k = some r ∧
      r.role = .incomer ∧ r.sect = some y ∧ (y = s.cfg.ownSec ∨ s.top.map = .joined) ∧
      (r.openDemand = true ∨ r.parallelTimeout = true)) ∧
    (s.breakerAtClose = if s.bcu.acceptedNow = true ∧ s.bcu.state = .closing then .opened else s.bcu.state)) ∧
  (∀ (s : State) (u : UnitState), (s.gcuSet u).gcu.unit = u ∧ (s.gcu.unit = u → s.gcuSet u = s) ∧
    (s.gcu.unit ≠ u → (s.gcuSet u).pendingBit .transferChange = true ∧ (s.gcuSet u).gcu.enteredNow = true ∧
      (u = .starting → (s.gcuSet u).gcu.startCount = 0) ∧ (u = .syncWait → (s.gcuSet u).gcu.retryCount = 0) ∧
      (u = .unload → (s.gcuSet u).gcu.unloadCount = 0) ∧ (u = .cooldown → (s.gcuSet u).gcu.coolCount = 0))) ∧
  (∀ (s : State) (why : FailReason), (s.gcuFail why).gcu.unit = .fail ∧ (s.gcuFail why).gcu.failReason = why ∧
    (∀ c, (s.gcuFail why).clu.claim = some c → c.origin ≠ .gcu) ∧
    ((s.gcuFail why).syu.state = .checking → (s.gcuFail why).syu.owner ≠ some .gcu) ∧ (s.gcuFail why).bcu = s.bcu) ∧
  (∀ s : State, s.gcu.enteredNow = true → s.gcuTests = s) ∧
  (∀ (s : State) (b : BreakerState) (u : UnitState) (travels : Bool), s.gcu.enteredNow = false → b = s.breakerAtClose →
    u = s.gcu.unit → (travels = true ↔
      (s.bcu.state = .closing ∧ ((∃ f, s.clu.inFlight = some f ∧ f.origin = .gcu) ∨
        (s.syu.state = .closing ∧ s.syu.owner = some .gcu))) ∨ (s.gcu.heardNow = true ∧ s.bcu.endedNow = true)) →
    (b = .failedOpen → u ≠ .fail → s.gcuTests = s.gcuFail .bf) ∧
    (b = .closed → u ∈ [UnitState.idle, .starting, .deadbus, .sync, .syncWait, .cooldown] →
      s.gcuTests = ((s.cancelClaim .gcu).cancelAttempt .gcu).gcuSet .online) ∧
    ((b = .opened ∨ b = .opening) → (u = .online ∨ u = .unload) → s.gcuTests = s.gcuSet .cooldown) ∧
    ((b = .closed ∨ b = .closing ∨ b = .discrepant ∨ b = .unknown) → (u = .online ∨ u = .unload) →
      s.gcu.stopNotice = true → travels = false → s.gcuTests = s.tripRequest.gcuSet .cooldown) ∧
    (b ≠ .failedOpen → b ≠ .closed → u ∈ [UnitState.starting, .deadbus, .sync, .syncWait] → s.gcu.stopNotice = true →
      travels = false → s.gcuTests = ((s.cancelClaim .gcu).cancelAttempt .gcu).gcuSet .cooldown) ∧
    (s.gcuCommon = none ↔ (b = .failedOpen → u = .fail) ∧
      (b = .closed → u ∉ [UnitState.idle, .starting, .deadbus, .sync, .syncWait, .cooldown]) ∧
      ((b = .opened ∨ b = .opening) → u ≠ .online ∧ u ≠ .unload) ∧
      (s.gcu.stopNotice = true → travels = false → u ∉ [UnitState.online, .unload, .starting, .deadbus, .sync, .syncWait]))) ∧
  (∀ s : State, s.gcu.enteredNow = false → s.gcuCommon = none →
    (s.gcu.unit = .idle → s.gcuTests = if s.gcu.demand then s.gcuSet .starting else s) ∧
    (s.gcu.unit = .starting →
      (s.gcu.demand = false → s.gcuTests = s.gcuSet .cooldown) ∧
      (s.gcu.demand = true → s.engineReady = true →
        (s.currentSet.busClass = .dead → s.gcuTests = ((s.gcuSet .deadbus).cluRaise .gcu false s.cfg.ownSec).1) ∧
        (s.currentSet.busClass = .live → s.gcuTests = (s.gcuSet .sync).syuStart .gcu) ∧
        (s.currentSet.busClass = .indeterminate → s.gcuTests = s)) ∧
      (s.gcu.demand = true → s.engineReady = false → ∀ t : State,
        t = { s with gcu := { s.gcu with startCount := s.gcu.startCount + 1 } } →
        s.gcuTests = if s.cfg.tStart.toNat ≤ s.gcu.startCount + 1 then t.gcuFail .startFail else t)) ∧
    (s.gcu.unit = .deadbus →
      (((∃ f, s.clu.inFlight = some f ∧ f.origin = .gcu) ∨ s.gcu.heardNow = true) → s.gcuTests = s) ∧
      ((∀ f, s.clu.inFlight = some f → f.origin ≠ .gcu) → s.gcu.heardNow = false →
        (s.gcu.demand = false → s.gcuTests = (s.cancelClaim .gcu).gcuSet .cooldown) ∧
        (s.gcu.demand = true → s.engineReady = false → s.gcuTests = (s.cancelClaim .gcu).gcuSet .starting) ∧
        (s.gcu.demand = true → s.engineReady = true → s.currentSet.busClass = .live →
          s.gcuTests = ((s.cancelClaim .gcu).gcuSet .sync).syuStart .gcu) ∧
        (s.gcu.demand = true → s.engineReady = true → s.currentSet.busClass ≠ .live →
          ((∃ c, s.clu.claim = some c ∧ c.origin = .gcu ∧ c.restore = false) → s.gcuTests = s) ∧
          ((∀ c, s.clu.claim = some c → c.origin ≠ .gcu ∨ c.restore = true) →
            s.gcuTests = (s.cluRaise .gcu false s.cfg.ownSec).1)))) ∧
    (s.gcu.unit = .sync →
      (((s.syu.state = .closing ∧ s.syu.owner = some .gcu) ∨ s.gcu.heardNow = true) → s.gcuTests = s) ∧
      (¬(s.syu.state = .closing ∧ s.syu.owner = some .gcu) → s.gcu.heardNow = false →
        (s.gcu.demand = false → s.gcuTests = (s.cancelAttempt .gcu).gcuSet .cooldown) ∧
        (s.gcu.demand = true → s.engineReady = false → s.gcuTests = (s.cancelAttempt .gcu).gcuSet .starting) ∧
        (s.gcu.demand = true → s.engineReady = true →
          (s.syu.state = .checking → s.syu.owner = some .gcu → s.gcuTests = s) ∧
          ((s.syu.state = .idle ∨ s.syu.owner ≠ some .gcu) → s.gcuTests =
            if s.currentSet.busClass = .dead then ((s.gcuSet .deadbus).cluRaise .gcu false s.cfg.ownSec).1
            else s.syuStart .gcu)))) ∧
    (s.gcu.unit = .syncWait →
      (s.gcu.demand = false → s.gcuTests = s.gcuSet .cooldown) ∧
      (s.gcu.demand = true → s.engineReady = false → s.gcuTests = s.gcuSet .starting) ∧
      (s.gcu.demand = true → s.engineReady = true → ∀ t : State,
        t = { s with gcu := { s.gcu with retryCount := s.gcu.retryCount + 1 } } →
        s.gcuTests = if s.cfg.tRetry.toNat ≤ s.gcu.retryCount + 1 then (t.gcuSet .sync).syuStart .gcu else t)) ∧
    (s.gcu.unit = .online →
      (s.tru.mode = .auto → s.gcu.demand = false → s.top.own = .grid → s.gcuTests.gcu = { s.gcu with
        unit := .unload, enteredNow := true, unloadCount := 0, ramp := s.ownL }) ∧
      (¬(s.tru.mode = .auto ∧ s.gcu.demand = false ∧ s.top.own = .grid) → s.gcuTests = s)) ∧
    (s.gcu.unit = .unload →
      ((s.gcu.demand = true ∨ s.top.own ≠ .grid) → s.gcuTests = s.gcuSet .online) ∧
      (s.gcu.demand = false → s.top.own = .grid →
        (s.ownL ≤ (s.cfg.lOff.toNat : Int) → s.gcuTests = s.tripRequest.gcuSet .cooldown) ∧
        ((s.cfg.lOff.toNat : Int) < s.ownL → s.cfg.tUnload.toNat ≤ s.gcu.unloadCount + 1 → s.gcuTests =
          ({ s with gcu := { s.gcu with unloadCount := s.gcu.unloadCount + 1 } } : State).tripRequest.gcuSet .cooldown) ∧
        ((s.cfg.lOff.toNat : Int) < s.ownL → s.gcu.unloadCount + 1 < s.cfg.tUnload.toNat → s.gcuTests = { s with
          gcu := { s.gcu with unloadCount := s.gcu.unloadCount + 1,
                              ramp := max (s.cfg.lOff.toNat : Int) (s.gcu.ramp - (s.cfg.ramp.toNat : Int)) } }))) ∧
    (s.gcu.unit = .cooldown →
      (s.breakerAtClose ≠ .opened → s.gcuTests = s) ∧
      (s.breakerAtClose = .opened → s.gcu.demand = true → s.gcu.stopNotice = false → s.gcuTests = s.gcuSet .starting) ∧
      (s.breakerAtClose = .opened → (s.gcu.demand = false ∨ s.gcu.stopNotice = true) → ∀ t : State,
        t = { s with gcu := { s.gcu with coolCount := s.gcu.coolCount + 1 } } →
        s.gcuTests = if s.cfg.tCool.toNat ≤ s.gcu.coolCount + 1 then t.gcuSet .idle else t)) ∧
    (s.gcu.unit = .fail → s.gcuTests =
      if s.breakerAtClose = .opened ∨ s.breakerAtClose = .failedOpen then s else s.tripRequest)) ∧
  ∀ (s : State) (a : Answer),
    (s.gcu.unit = .deadbus ∨ s.gcu.unit = .sync →
      (a = .outcome .completed → s.gcuHear a = s.gcuSet .online) ∧
      ((a = .outcome .failed ∨ a = .outcome .discrepant) → s.gcuHear a = s.gcuFail .closeFail) ∧
      (a = .expired → s.gcu.unit = .sync → s.gcuHear a = s.gcuSet .syncWait) ∧
      ((a = .outcome .dropped ∨ a = .outcome .tripped ∨ a = .sideDead ∨ a = .endLockout ∨ a = .endTrip ∨ a = .breakerMoved ∨
        (∃ w, a = .withdrawn w) ∨ ∃ r, a = .refusal r) → s.gcuHear a = { s with gcu := { s.gcu with heardNow := true } })) ∧
    (s.gcu.unit ≠ .deadbus → s.gcu.unit ≠ .sync → s.gcuHear a = s)

/-- The bias codes at a cycle close of a generator. OFF sets both to 0 and DROOP holds both; in every other mode each
takes its correction and is clamped to −2048..+2047. The mode is OFF in a unit that neither synchronises nor is on
line, SYNC in SYNC and SYNC_WAIT, DROOP on line under a droop condition, and on line without one BASE in a GRID
island, DROOP in an UNKNOWN one and ISOCH otherwise. The speed and the voltage correction of each mode, every term
clamped, multiplied and shifted on its own, from the check record's slip, the closing set, the own load fractions and
the averages; and the own load fraction, P times 4096 by the rated power, truncated and clamped. The last seen
summaries, the averages of the published L and of LQ over the usable closed generators of the island (the own value
where there is none), and f_ref, that of the lowest incomer in RESYNC and else f_nom·100. The droop condition and its
cause: an UNKNOWN map, else the lowest generator lost while it was CLOSED, else the lowest CLOSED one not VALID (the
order of the causes is log 18); DROOP is set pending as the mode becomes DROOP. A rated power of 0 leaves the fraction
free (log 70). -/
def Obligations.BiasModeAndCodes : Prop :=
  (∀ s : State,
    s.gcuBias.gcu.speed = biasAfter s.gcuBias.gcu.mode s.gcu.speed (s.speedStep s.gcuBias.gcu.mode) ∧
    s.gcuBias.gcu.volt = biasAfter s.gcuBias.gcu.mode s.gcu.volt (s.voltStep s.gcuBias.gcu.mode) ∧
    s.gcuBias.gcu.mode = (match s.gcu.unit with
      | .sync => .sync
      | .syncWait => .sync
      | .online => if s.droopNow ≠ .none ∨ s.top.own = .unknown then .droop
          else if s.top.own = .grid then .base else .isoch
      | .unload => if s.droopNow ≠ .none then .droop else .unload
      | _ => .off) ∧
    (s.gcuBias.gcu.mode = .off → s.gcuBias.gcu.speed = 0 ∧ s.gcuBias.gcu.volt = 0) ∧
    (s.gcuBias.gcu.mode = .droop → s.gcuBias.gcu.speed = s.gcu.speed ∧ s.gcuBias.gcu.volt = s.gcu.volt)) ∧
  (∀ (m : BiasMode) (b d : Int), m ≠ .off → biasAfter m b (some d) = max (-2048) (min 2047 (b + d))) ∧
  (∀ s : State,
    (s.cfg.pRated.toNat ≠ 0 → s.ownL = max (-4096) (min 8191 ((s.currentSet.p * 4096).tdiv s.cfg.pRated.toNat)) ∧
      s.ownLq = max (-4096) (min 8191 ((s.currentSet.q * 4096).tdiv s.cfg.pRated.toNat))) ∧
    (∀ m : BiasMode, (m = .off ∨ m = .droop) → s.speedStep m = none ∧ s.voltStep m = none) ∧
    (s.speedStep .sync = some (match s.syu.check.slip with
        | some x => (max (-500) (min 500 (s.cfg.sTarget.toInt - x)) * (s.cfg.gS.toNat : Int)) / 64
        | none => 0) ∧
      s.voltStep .sync = some ((max (-4096) (min 4096 ((s.currentSet.mag.va : Int) - (s.currentSet.mag.vl : Int)))
        * (s.cfg.gV.toNat : Int)) / 256)) ∧
    (s.speedStep .isoch = some (((s.gcu.lAvg - s.ownL) * (s.cfg.gL.toNat : Int)) / 4096 +
        (if s.currentSet.fBus = 0 then 0
          else (max (-500) (min 500 (s.gcu.fRef - (s.currentSet.fBus : Int))) * (s.cfg.gF.toNat : Int)) / 256)) ∧
      s.voltStep .isoch = some (((s.gcu.lqAvg - s.ownLq) * (s.cfg.gQ.toNat : Int)) / 4096 +
        (max (-1638) (min 1638 (16384 - (s.currentSet.vMin : Int))) * (s.cfg.gU.toNat : Int)) / 256)) ∧
    (s.speedStep .base = some ((((s.cfg.lBase.toNat : Int) - s.ownL) * (s.cfg.gL.toNat : Int)) / 4096) ∧
      s.speedStep .unload = some (((s.gcu.ramp - s.ownL) * (s.cfg.gL.toNat : Int)) / 4096) ∧
      s.voltStep .base = some ((-s.ownLq * (s.cfg.gQ.toNat : Int)) / 4096) ∧
      s.voltStep .unload = some ((-s.ownLq * (s.cfg.gQ.toNat : Int)) / 4096))) ∧
  (∀ s : State,
    (∀ k : Station, (∀ r, s.usableRec k = some r → r.role = .generator → s.gcuView.gcu.lastSeen.get k = some r.summary) ∧
      ((∀ r, s.usableRec k = some r → r.role ≠ .generator) → s.gcuView.gcu.lastSeen.get k = s.gcu.lastSeen.get k)) ∧
    (∀ (share : Station → Option BayRecord), (∀ k r, share k = some r ↔ s.usableRec k = some r ∧ r.role = .generator ∧
        (∃ y, r.sect = some y ∧ (y = s.cfg.ownSec ∨ s.top.map = .joined)) ∧ r.summary = .closed) →
      ∀ rs, rs = allStations.filterMap share →
        (rs = [] → s.gcuView.gcu.lAvg = s.ownL ∧ s.gcuView.gcu.lqAvg = s.ownLq) ∧
        (rs ≠ [] → s.gcuView.gcu.lAvg = (sumInt (rs.map publishedL)).tdiv rs.length ∧
          s.gcuView.gcu.lqAvg = (sumInt (rs.map publishedLq)).tdiv rs.length)) ∧
    (∀ (resync : Station → Option BayRecord), (∀ k r, resync k = some r ↔ s.usableRec k = some r ∧ r.role = .incomer ∧
        (∃ y, r.sect = some y ∧ (y = s.cfg.ownSec ∨ s.top.map = .joined)) ∧ r.transfer = .resync) →
      (allStations.filterMap resync = [] → s.gcuView.gcu.fRef = (s.cfg.fNom.toNat : Int) * 100) ∧
      ∀ r rest healthy f o, allStations.filterMap resync = r :: rest → r.part = .incomer healthy f o →
        s.gcuView.gcu.fRef = max 0 (min 65535 ((f.toNat : Int) + o.toInt)))) ∧
  (∀ (r : BayRecord) (l rated : Word) (u : UnitState) (b : BiasMode), r.part = .generator l rated u b →
    publishedL r = l.toInt ∧
    (rated.toNat ≠ 0 → publishedLq r = max (-4096) (min 8191 ((r.q.toInt * 4096).tdiv rated.toNat)))) ∧
  ∀ (s : State) (lost bad : Station → Bool),
    (∀ k, lost k = true ↔ s.gcu.lastSeen.get k = some .closed ∧ s.status k = .lost ∧ ∃ r, s.heldRec k = some r ∧
      r.role = .generator ∧ ∃ y, r.sect = some y ∧ (y = s.cfg.ownSec ∨ s.top.map = .joined)) →
    (∀ k, bad k = true ↔ ∃ r, s.usableRec k = some r ∧ r.role = .generator ∧
      (∃ y, r.sect = some y ∧ (y = s.cfg.ownSec ∨ s.top.map = .joined)) ∧ r.summary = .closed ∧ r.meas ≠ .valid) →
    (s.droopNow = if s.top.map = .unknown then .mapUnknown else
      match allStations.find? lost, allStations.find? bad with
      | some k, _ => .peerLost k
      | none, some k => .peerNotValid k
      | none, none => .none) ∧
    s.gcuBias.gcu.droopCause = s.droopNow ∧
    (s.gcuBias.gcu.mode = .droop → s.gcu.mode ≠ .droop → s.gcuBias.pendingBit .droop = true) ∧
    ((s.gcuBias.gcu.mode ≠ .droop ∨ s.gcu.mode = .droop) → s.gcuBias.cfp = s.cfp)

/-- The three sheds at the last tick of their counts, in a feeder in RUN that stands in NORMAL with the breaker CLOSED:
CAPACITY_SHED in a GENSET island whose limit the own cumulative load exceeds, UNDERFREQ_SHED below a stage's pickup at
or below the own priority, DEADBUS_SHED in a DEAD island at or above P_dead. The island and the view are those its
cycle close forms. Where several tests reach at that cycle close, the one shed has the first of CAPACITY, UNDERFREQ_1,
UNDERFREQ_2 and DEADBUS that reached as its reason, whichever of their rows makes it. Each stands in SHED for the
reason with the last load held and the counts at 0, opens the breaker, and sets SHED pending (log 11). -/
def Obligations.FeederSheds : Prop :=
  ∀ (s : State) (c : Instr) (why : ShedReason) (cap dead : Prop) (under : Stage → Prop), s.cfp.run = .run →
    s.cfg.role = some .feeder → s.fcu.state = .normal → s.bcu.state = .closed →
    (cap ↔ s.fcu.guard = 0 ∧ 1 ≤ s.fcu.overCount ∧ s.atClose.top.own = .genset ∧
      ∃ v, s.atClose.feederView = some v ∧ v.limit < v.cumulative) →
    (∀ st, under st ↔ (s.cfg.stage st).threshold.toNat ≤ s.cfg.priority.toNat ∧ s.currentSet.meas = .valid ∧
      s.currentSet.fBus ≠ 0 ∧ s.currentSet.fBus < (s.cfg.stage st).pickup.toNat ∧
      (s.cfg.stage st).delay.toNat ≤ (match st with | .one => s.fcu.stage1 | .two => s.fcu.stage2) + 1) →
    (dead ↔ s.cfg.pDead.toNat ≤ s.cfg.priority.toNat ∧ s.atClose.top.own = .dead ∧ 1 ≤ s.fcu.dead) →
    ((c = .capacityShed ∧ cap) ∨ (∃ st, c = .underfreqShed st ∧ under st) ∨ (c = .deadbusShed ∧ dead)) →
    ((why = .capacity ∧ cap) ∨ (why = .underfreq1 ∧ ¬cap ∧ under .one) ∨
      (why = .underfreq2 ∧ ¬cap ∧ ¬under .one ∧ under .two) ∨
      (why = .deadbus ∧ ¬cap ∧ ¬under .one ∧ ¬under .two ∧ dead)) →
    ∃ t, exec c s = .next t ∧ State.Consequence s t ∧
      t.fcu = { s.fcu with
        state := .shed, reason := why, held := s.lastLoadNow, lastLoad := s.lastLoadNow, view := s.atClose.feederView, overCount := 0,
        stage1 := 0, stage2 := 0, dead := 0 } ∧
      (t.bcu.state = .opening ∧ t.bcu.trip = true ∧ t.bcu.close = false ∧ t.bcu.hold = 0) ∧
      (t.dbu.lockout = s.dbu.lockout ∧ t.pendingBit .shed = true)

/-- FCU at a cycle close of a feeder; elsewhere it does nothing. The last load becomes −P of the own record, clamped, when
that is usable, CLOSED and VALID on a LIVE bus. While the map is known the view holds the island's capacity, the limit
C·M/4096, and the own place and cumulative load in the shed order by (priority, station). A pending operator open
cancels the claim and presents a trip. Under a reshed guard the over count is 0 and the guard goes down; else it
counts in NORMAL, CLOSED, in a GENSET island over its limit; each stage counts below its pickup at or below the own
priority, the dead count in a DEAD island at or above P_dead; each is 0 otherwise. The first of CAPACITY, UNDERFREQ_1,
UNDERFREQ_2, DEADBUS that has reached its count sheds: a trip request, SHED with the last load held, counts 0, SHED
pending. Without a shed, a breaker found CLOSED returns SHED, MANUAL_OPEN, or RESTORING without a restore close in
flight, to NORMAL with a guard of 2. Else SHED raises a RESTORE claim when the four conditions hold, unless an answer
of this cycle close made it SHED (R171), and RESTORING whose conditions fail with no restore close in flight from an
earlier cycle close cancels its claim, also where the close is requested at this one (R170). Answers act as the table
gives. The model's: the order of these tests (log 56), the place of an own entry that is LOST (log 58), condition 2 as
the breaker state at the cycle close, so that one CLOSING by a request accepted at it counts as OPEN (log 15), and
that an answer acts in every state but MANUAL_OPEN (log 31, DEDUCED). -/
def Obligations.FeederAtACycleClose : Prop :=
  (∀ s : State,
    (∀ r, s.usableRec s.cfg.own = some r → r.summary = .closed → r.meas = .valid → s.currentSet.busClass = .live →
      (s.lastLoadNow : Int) = max 0 (min 32767 (-r.p.toInt))) ∧
    ((s.usableRec s.cfg.own = none ∨ s.currentSet.busClass ≠ .live ∨
      ∃ r, s.usableRec s.cfg.own = some r ∧ (r.summary ≠ .closed ∨ r.meas ≠ .valid)) → s.lastLoadNow = s.fcu.lastLoad) ∧
    (s.top.map = .unknown → s.feederView = none) ∧
    (s.top.map ≠ .unknown → ∃ v, s.feederView = some v ∧ v.limit = v.capacity * s.cfg.margin.toNat / 4096 ∧
      v.capacity = sumNat (allStations.map fun k => match s.usableRec k with
        | some r => (match r.part, r.sect with
          | .generator _ rated _ _, some y =>
            if (y = s.cfg.ownSec ∨ s.top.map = .joined) ∧ r.summary = .closed then rated.toNat else 0
          | _, _ => 0)
        | none => 0) ∧
      v.cumulative = sumNat (allStations.map fun k => match s.islandFeeder k with
        | some r => if k = s.cfg.own ∨ priorityOf r < s.cfg.priority.toNat ∨
            (priorityOf r = s.cfg.priority.toNat ∧ k < s.cfg.own) then countedLoad r else 0
        | none => 0) ∧
      v.position = 1 + (allStations.filter fun k => k ≠ s.cfg.own ∧ (s.islandFeeder k).any fun r =>
        priorityOf r < s.cfg.priority.toNat ∨ (priorityOf r = s.cfg.priority.toNat ∧ k < s.cfg.own)).length) ∧
    (∀ (k : Station) (r : BayRecord), s.islandFeeder k = some r ↔ s.usableRec k = some r ∧ r.role = .feeder ∧
      ∃ y, r.sect = some y ∧ (y = s.cfg.ownSec ∨ s.top.map = .joined))) ∧
  (∀ s : State, (s.fcu.openPending = false → s.fcuOperator = s) ∧
    (s.fcu.openPending = true → s.fcuOperator.fcu = { (s.cancelClaim .fcu).tripRequest.fcu with openPending := false } ∧
      s.fcuOperator.bcu = (s.cancelClaim .fcu).tripRequest.bcu ∧
      s.fcuOperator.clu = (s.cancelClaim .fcu).tripRequest.clu)) ∧
  (∀ (s : State) (exceeds : Bool), (exceeds = true ↔ s.fcu.state = .normal ∧ s.bcu.state = .closed ∧ s.top.own = .genset ∧
      ∃ v, s.fcu.view = some v ∧ v.limit < v.cumulative) →
    s.fcuCounts = { s with fcu := s.fcuCounts.fcu } ∧ s.fcuCounts.fcu.guard = s.fcu.guard - 1 ∧
    s.fcuCounts.fcu.overCount = (if 0 < s.fcu.guard then 0 else if exceeds then min 2 (s.fcu.overCount + 1) else 0) ∧
    (∀ st : Stage, ∀ under : Bool,
      (under = true ↔ (s.cfg.stage st).threshold.toNat ≤ s.cfg.priority.toNat ∧ s.fcu.state = .normal ∧
        s.bcu.state = .closed ∧ s.currentSet.meas = .valid ∧ s.currentSet.fBus ≠ 0 ∧
        s.currentSet.fBus < (s.cfg.stage st).pickup.toNat) →
      s.fcuCounts.fcu.stageCount st = if under then s.fcu.stageCount st + 1 else 0) ∧
    ∀ dead : Bool, (dead = true ↔ s.cfg.pDead.toNat ≤ s.cfg.priority.toNat ∧ s.fcu.state = .normal ∧
        s.bcu.state = .closed ∧ s.top.own = .dead) →
      s.fcuCounts.fcu.dead = if dead then min 2 (s.fcu.dead + 1) else 0) ∧
  (∀ (s : State) (due : ShedReason → Bool),
    (due .capacity = true ↔ s.fcu.overCount = 2) →
    (due .underfreq1 = true ↔ s.cfg.stage1.delay.toNat ≤ s.fcu.stage1 ∧ s.fcu.stage1 ≠ 0) →
    (due .underfreq2 = true ↔ s.cfg.stage2.delay.toNat ≤ s.fcu.stage2 ∧ s.fcu.stage2 ≠ 0) →
    (due .deadbus = true ↔ s.fcu.dead = 2) →
    s.shedDue = [ShedReason.capacity, .underfreq1, .underfreq2, .deadbus].find? due) ∧
  (∀ (s : State) (why : ShedReason), s.bcu.state = .closed → (s.shed why).fcu = { s.fcu with
      state := .shed, reason := why, held := s.fcu.lastLoad, overCount := 0, stage1 := 0, stage2 := 0, dead := 0 } ∧
    (s.shed why).pendingBit .shed = true ∧ (s.shed why).bcu = s.tripRequest.bcu ∧ (s.shed why).dbu = s.tripRequest.dbu) ∧
  (∀ s : State, (s.cfg.role ≠ some .feeder → s.fcuClose = s) ∧
    (s.cfg.role = some .feeder → ∀ u : State, u = (({ s with
        fcu := { s.fcu with lastLoad := s.lastLoadNow, view := s.feederView } } : State).fcuOperator).fcuCounts →
      ∀ found : Bool, (found = true ↔ u.bcu.state = .closed ∧ (u.fcu.state = .shed ∨ u.fcu.state = .manualOpen ∨
        (u.fcu.state = .restoring ∧ ∀ f, u.clu.inFlight = some f → f.kind ≠ .restore))) →
      (∀ why, u.shedDue = some why → s.fcuClose = u.shed why) ∧
      (u.shedDue = none → s.fcuClose = if found then { u with
        fcu := { u.fcu with state := .normal, reason := .none, held := 0, guard := 2, cause := .none } } else u.fcuRestore))) ∧
  (∀ (s : State) (back ok closing : Bool),
    (back = true ↔ ∀ st : Stage, (s.fcu.reason = match st with | .one => .underfreq1 | .two => .underfreq2) →
      s.currentSet.meas = .valid ∧ s.currentSet.fBus ≠ 0 ∧ (s.cfg.stage st).pickup.toNat ≤ s.currentSet.fBus) →
    (ok = true ↔ s.tru.mode = .auto ∧
      (s.bcu.state = .opened ∨ (s.bcu.state = .closing ∧ s.bcu.acceptedNow = true)) ∧ back = true ∧ (s.top.own = .grid ∨ (s.top.own = .genset ∧
      ∃ v, s.fcu.view = some v ∧ v.cumulative + s.fcu.held ≤ v.limit))) →
    (closing = true ↔ s.bcu.acceptedNow = false ∧ ∃ f, s.clu.inFlight = some f ∧ f.kind = .restore) →
    (s.fcu.state = .shed →
      ((ok = false ∨ s.fcu.heardNow = true) → s.fcuRestore = s) ∧
      (ok = true → s.fcu.heardNow = false →
        ((s.cluRaise .fcu true s.cfg.ownSec).2 = .raised → s.fcuRestore = { (s.cluRaise .fcu true s.cfg.ownSec).1 with
          fcu := { s.fcu with state := .restoring } }) ∧
        ((s.cluRaise .fcu true s.cfg.ownSec).2 ≠ .raised → s.fcuRestore = s))) ∧
    (s.fcu.state = .restoring → s.fcuRestore =
      if closing = true ∨ ok = true then s else { s.cancelClaim .fcu with fcu := { s.fcu with state := .shed } }) ∧
    ((s.fcu.state = .normal ∨ s.fcu.state = .manualOpen) → s.fcuRestore = s)) ∧
  ∀ (s : State) (a : Answer), (s.fcu.state = .manualOpen → s.fcuHear a = s) ∧
    (s.fcu.state ≠ .manualOpen →
      (a = .outcome .completed → (s.fcuHear a).fcu = { s.fcu with
        state := .normal, reason := .none, held := 0, guard := 2 } ∧ (s.fcuHear a).pendingBit .restore = true) ∧
      ((a = .outcome .failed ∨ a = .outcome .discrepant ∨ a = .outcome .tripped) →
        s.fcuHear a = { s with fcu := { s.fcu with state := .manualOpen, cause := .closeFail, held := 0 } }) ∧
      (a = .refusal .liveLive →
        s.fcuHear a = { s with fcu := { s.fcu with state := .manualOpen, cause := .feederLive, held := 0 } }) ∧
      ((a = .outcome .dropped ∨ a = .withdrawn .lockout ∨ ∃ r, a = .refusal r ∧ r ≠ .liveLive) →
        s.fcuHear a = { s with fcu := { s.fcu with state := .shed, heardNow := true } }))

/-- The five counts of an incomer's transfer at their last tick, in AUTO in RUN with lockout clear: LOSS_CONFIRM_EXPIRY
opens the breaker and goes to ISOLATING; RETURN_SHORT_EXPIRY raises a claim for a dead bus; RETURN_EXPIRY goes to
RESYNC and starts an attempt; RESYNC_EXPIRY goes to OPEN_RETURN with open transition and else to ON_ALTERNATE with the
hold set; PARALLEL_TIMEOUT sets the parallel-timeout flag. Island, lockout view and utility health are those the cycle
close of the row forms (log 11); under a tie CONFLICT every tie candidate counts as the tie (log 59). -/
def Obligations.TransferCountsExpire : Prop :=
  ∀ s : State, s.cfp.run = .run → s.cfg.role = some .incomer → s.tru.mode = .auto → s.dbu.lockout = false →
    (s.tru.state = .lossConfirm → s.bcu.state = .closed → s.currentSet.meas = .valid → healthOf s.cfg s.currentSet = false →
      s.cfg.tLoss.toNat ≤ s.tru.lossCount + 1 → ∃ t, exec .lossConfirmExpiry s = .next t ∧ State.Consequence s t ∧
        t.tru.state = .isolating ∧ t.bcu.state = .opening ∧ t.bcu.trip = true ∧ t.bcu.close = false ∧
        t.pendingBit .transferChange = true) ∧
    (s.tru.state = .deadWait → s.atClose.top.own = .dead → s.bcu.state = .opened → healthOf s.cfg s.currentSet = true →
      s.clu.claim = none → s.tru.hold = false → s.cfg.tReturnShort.toNat ≤ min 65535 (s.tru.run + 1) →
      s.currentSet.busClass = .dead → s.atClose.top.locked s.cfg.ownSec = false → exec .returnShortExpiry s = .next
        { s with
          clu := { s.clu with
            claim := some { restore := false, target := s.cfg.ownSec, rank := 0, origin := .tru, deadDead := false } },
          tru := { s.tru with run := min 65535 (s.tru.run + 1), lastAnswer := some (.raised, s.lkc.count) } }) ∧
    (s.tru.state = .returnWait → s.atClose.top.own ≠ .dead → s.bcu.state = .opened → healthOf s.cfg s.currentSet = true →
      s.tru.hold = false → s.cfg.tReturn.toNat ≤ s.tru.returnCount + 1 → ∃ t, exec .returnExpiry s = .next t ∧
        State.Consequence s t ∧ t.tru.state = .resync ∧ t.tru.resyncCount = 0 ∧ t.tru.reference = s.currentSet.fLine ∧
        t.bcu = s.bcu ∧ t.dbu = s.dbu ∧
        (s.syu.state = .idle → s.atClose.top.ownLocked s.cfg = false →
          t.syu = { s.syu with state := .checking, owner := some .tru, supervision := 0 } ∧
          t.tru.lastAnswer = some (.started, s.lkc.count))) ∧
    (s.tru.state = .resync → s.atClose.top.own ≠ .dead → s.bcu.state = .opened → (s.currentSet.meas = .valid → healthOf s.cfg s.currentSet = true) →
      ¬(s.syu.state = .closing ∧ s.syu.owner = some .tru) → s.cfg.tResync.toNat ≤ s.tru.resyncCount + 1 →
      ∃ t, exec .resyncExpiry s = .next t ∧ State.Consequence s t ∧ t.bcu = s.bcu ∧ t.dbu = s.dbu ∧
        (s.cfg.openTransition = true → t.tru.state = .openReturn ∧ t.tru.openDemand = true ∧ t.tru.hold = s.tru.hold) ∧
        (s.cfg.openTransition = false → t.tru.state = .onAlternate ∧ t.tru.hold = true) ∧
        (s.syu.owner = some .tru → t.syu.state = .idle ∨ s.syu.state = .idle)) ∧
    (s.tru.state = .parallel → s.bcu.state = .closed → (s.currentSet.meas = .valid → healthOf s.cfg s.currentSet = true) →
      s.atClose.alternateClosed = true → s.cfg.tParallelMax.toNat ≤ s.tru.parallelCount + 1 → exec .parallelTimeout s = .next
        { s with tru := { s.tru with parallelCount := s.cfg.tParallelMax.toNat, parallelTimeout := true } })

/-- TRU at a cycle close of an incomer. The health is HEALTHY on a VALID set with |VL| and f_line in their bands, judged
on a VALID set; a judged HEALTHY advances the healthy run, a judged UNHEALTHY clears it. In AUTO, outside MANUAL and
HALTED, own lockout makes the state HALTED before anything else, also in a state entered at this cycle close; without
it such a state is not tested. Then each state's tests in their order: NORMAL, LOSS_CONFIRM, ISOLATING, DEAD_WAIT,
ON_ALTERNATE, RETURN_WAIT, RESYNC, PARALLEL and OPEN_RETURN. Leaving a state cancels the unit's claim and its attempt
in CHECKING, sets TRANSFER_CHANGE and starts the count of the state entered at 0, while the counts of other states
stand (log 63). The flags stand as state and island give them; the resync reference is the health's frequency on entry
to RESYNC and the closing cycle's f_line after, where that is not 0 (that the close which enters PARALLEL takes it,
from RESYNC as from another state, is the model's choice: log 43). That under a tie CONFLICT every tie candidate
counts as the tie is log 59, the model's choice. NORMAL and LOSS_CONFIRM read the breaker as it stands at the cycle
close (log 15). After an ending of its attempt at this cycle close the new start waits for the next. -/
def Obligations.IncomerAtACycleClose : Prop :=
  (∀ s : State, s.cfg.role = some .incomer →
    (s.truHealth.tru.healthy = true ↔ s.currentSet.meas = .valid ∧ s.cfg.vULo.toNat ≤ s.currentSet.mag.vl ∧
      s.currentSet.mag.vl ≤ s.cfg.vUHi.toNat ∧ s.cfg.fULo.toNat ≤ s.currentSet.fLine ∧
      s.currentSet.fLine ≤ s.cfg.fUHi.toNat) ∧
    (s.truHealth.tru.judged = true ↔ s.currentSet.meas = .valid) ∧ s.truHealth.tru.healthLine = s.currentSet.fLine ∧
    s.truHealth.tru.run = (if s.currentSet.meas = .valid then
      (if s.truHealth.tru.healthy then min 65535 (s.tru.run + 1) else 0) else s.tru.run)) ∧
  (∀ (s : State) (x : TransferState), s.tru.state ≠ x →
    (s.truLeave x).tru.state = x ∧ (s.truLeave x).pendingBit .transferChange = true ∧
    (s.truLeave x).tru.enteredNow = true ∧ (∀ c, (s.truLeave x).clu.claim = some c → c.origin ≠ .tru) ∧
    ((s.truLeave x).syu.state = .checking → (s.truLeave x).syu.owner ≠ some .tru) ∧
    (s.truLeave x).tru.lossCount = (if x = .lossConfirm then 0 else s.tru.lossCount) ∧
    (s.truLeave x).tru.returnCount = (if x = .returnWait then 0 else s.tru.returnCount) ∧
    (s.truLeave x).tru.resyncCount = (if x = .resync then 0 else s.tru.resyncCount) ∧
    (s.truLeave x).tru.parallelCount = (if x = .parallel then 0 else s.tru.parallelCount) ∧
    (s.truLeave x).tru.hold = s.tru.hold ∧ (s.truLeave x).tru.mode = s.tru.mode ∧
    (s.truLeave x).tru.reference = (if x = .resync then s.tru.healthLine else if x = .parallel then s.tru.reference else 0)) ∧
  (∀ s : State,
    (s.truReflag.tru.startDemand = true ↔ s.tru.state = .deadWait ∨
      ((s.tru.state = .onAlternate ∨ s.tru.state = .returnWait ∨ s.tru.state = .resync) ∧ s.top.own = .genset)) ∧
    (s.truReflag.tru.openDemand = true ↔ s.tru.state = .openReturn) ∧
    (s.truReflag.tru.parallelTimeout = true ↔ s.tru.state = .parallel ∧ s.tru.parallelTimeout = true) ∧
    s.truReflag.tru.reference = (if s.tru.state = .resync ∨ s.tru.state = .parallel then s.tru.reference else 0) ∧
    s.truReference.tru.reference = (if (s.tru.state = .parallel ∨ (s.tru.state = .resync ∧ s.tru.enteredNow = false)) ∧
      s.currentSet.fLine ≠ 0 then s.currentSet.fLine else s.tru.reference)) ∧
  (∀ s : State, (s.cfg.role ≠ some .incomer → s.cfg.role ≠ some .tie → s.truClose = s) ∧
    (s.cfg.role = some .incomer → s.tru.mode = .manual → s.truClose = s.truReference.truReflag) ∧
    (s.cfg.role = some .incomer → s.tru.mode = .auto → s.truClose =
      (if s.truIncomerState.tru.derive then s.truIncomerState.truDerive else s.truIncomerState).truReference.truReflag) ∧
    ((s.tru.state = .manual ∨ s.tru.state = .halted) → s.truIncomerState = s) ∧
    (s.tru.state ≠ .manual → s.tru.state ≠ .halted →
      (s.dbu.lockout = true → s.truIncomerState = s.truLeave .halted) ∧
      (s.dbu.lockout = false → s.tru.enteredNow = true → s.truIncomerState = s))) ∧
  ∀ (s : State) (healthy unhealthy claims closing : Bool), s.dbu.lockout = false → s.tru.enteredNow = false →
    (healthy = true ↔ s.tru.judged = true ∧ s.tru.healthy = true) →
    (unhealthy = true ↔ s.tru.judged = true ∧ s.tru.healthy = false) →
    (claims = true ↔ ∃ c, s.clu.claim = some c ∧ c.origin = .tru) →
    (closing = true ↔ ∃ f, s.clu.inFlight = some f ∧ f.origin = .tru) →
    (s.tru.state = .normal → s.truIncomerState =
      if s.breakerAtClose = .opened then s.truLeave .deadWait else if unhealthy then s.truLeave .lossConfirm else s) ∧
    (s.tru.state = .lossConfirm → ∀ t : State, t = { s with tru := { s.tru with lossCount := s.tru.lossCount + 1 } } →
      s.truIncomerState =
        if s.breakerAtClose = .opened then s.truLeave .deadWait
        else if healthy then s.truLeave .normal
        else if unhealthy then
          (if s.cfg.tLoss.toNat ≤ s.tru.lossCount + 1 then t.tripRequest.truLeave .isolating else t)
        else s) ∧
    (s.tru.state = .isolating → s.truIncomerState =
      if s.breakerAtClose = .opened then s.truLeave .deadWait else s.tripRequest) ∧
    (s.tru.state = .deadWait → ∀ t : State, t = (if unhealthy = true ∧ closing = false then s.cancelClaim .tru else s) →
      ((s.top.own = .genset ∨ s.top.own = .grid) → s.truIncomerState = s.truLeave .onAlternate) ∧
      (s.top.own ≠ .genset → s.top.own ≠ .grid → s.bcu.state = .closed → s.truIncomerState = s.truLeave .normal) ∧
      (s.top.own ≠ .genset → s.top.own ≠ .grid → s.bcu.state ≠ .closed → s.truIncomerState =
        if (∀ c, t.clu.claim = some c → c.origin ≠ .tru) ∧ s.tru.hold = false ∧
          s.cfg.tReturnShort.toNat ≤ s.tru.run ∧ s.currentSet.busClass = .dead
        then (t.cluRaise .tru false s.cfg.ownSec).1 else t)) ∧
    (s.tru.state = .onAlternate → s.truIncomerState =
      if s.top.own = .dead then s.truLeave .deadWait
      else if s.bcu.state = .closed then s.truLeave .parallel
      else if healthy = true ∧ s.tru.hold = false then s.truLeave .returnWait else s) ∧
    (s.tru.state = .returnWait → ∀ t : State,
      t = { s with tru := { s.tru with returnCount := s.tru.returnCount + 1 } } → s.truIncomerState =
        if s.top.own = .dead then s.truLeave .deadWait
        else if s.bcu.state = .closed then s.truLeave .parallel
        else if unhealthy = true ∨ s.tru.hold = true then s.truLeave .onAlternate
        else if healthy then
          (if s.cfg.tReturn.toNat ≤ s.tru.returnCount + 1 then (t.truLeave .resync).syuStart .tru else t)
        else s) ∧
    (s.tru.state = .resync → ∀ t : State,
      t = { s with tru := { s.tru with resyncCount := s.tru.resyncCount + 1 } } → s.truIncomerState =
        if s.top.own = .dead then s.truLeave .deadWait
        else if s.bcu.state = .closed then s.truLeave .parallel
        else if unhealthy then s.truLeave .onAlternate
        else if s.syu.state = .closing ∧ s.syu.owner = some .tru then s
        else if s.cfg.tResync.toNat ≤ s.tru.resyncCount + 1 then
          (if s.cfg.openTransition then t.truLeave .openReturn
            else (t.truLeave .onAlternate).withTru fun v => { v with hold := true })
        else if (s.syu.state ≠ .idle ∧ s.syu.owner = some .tru) ∨ s.tru.heardNow = true then t else t.syuStart .tru) ∧
    (s.tru.state = .parallel → ∀ others : Bool,
      (others = true ↔ ∃ (k : Station) (r : BayRecord), s.usableRec k = some r ∧
        (r.summary = .closed ∨ r.summary = .opening ∨ r.summary = .faulty) ∧
        ((r.role = .generator ∧ ∃ y, r.sect = some y ∧ (y = s.cfg.ownSec ∨ s.top.map = .joined)) ∨ r.role = .tie ∨
          r.sect = none)) →
      s.truIncomerState =
        if s.bcu.state ≠ .closed then s.truLeave .onAlternate
        else if unhealthy then s.tripRequest.truLeave .onAlternate
        else if others = false then s.truLeave .normal
        else { s with tru := { s.tru with
          parallelCount := min s.cfg.tParallelMax.toNat (s.tru.parallelCount + 1),
          parallelTimeout := s.tru.parallelTimeout || decide (s.cfg.tParallelMax.toNat ≤ s.tru.parallelCount + 1) } }) ∧
    (s.tru.state = .openReturn →
      (unhealthy = true → s.truIncomerState.tru.state = .deadWait ∧
        (closing = false → s.truIncomerState = s.truLeave .deadWait) ∧
        (closing = true → s.truIncomerState.clu.claim = s.clu.claim)) ∧
      (unhealthy = false → s.truIncomerState =
        if s.bcu.state = .closed then s.truLeave .normal
        else if claims = false ∧ s.top.own = .dead ∧ s.currentSet.busClass = .dead then
          (s.cluRaise .tru false s.cfg.ownSec).1
        else s))

/-- What TRU does with an answer, a derivation, and a tie. COMPLETED brings DEAD_WAIT and OPEN_RETURN to NORMAL, RESYNC to
PARALLEL and TIE_CLAIM to TIE_FEEDING; FAILED, DISCREPANT and TRIPPED set an incomer's hold, with RESYNC to
ON_ALTERNATE and OPEN_RETURN to DEAD_WAIT, and take a claiming tie to MANUAL in mode and state; any other answer is
noted alone. A pending derivation takes the first line that applies, and stays pending where none does: HALTED under
lockout, none without a VALID set or with the breaker neither OPEN nor CLOSED, else by breaker, health and island; a
tie whose transfer is enabled derives TIE_OPEN with the breaker OPEN and no lockout. A tie in AUTO claims the one
section that meets the entry conditions (both: it stays), returns to TIE_OPEN when one but the breaker's fails, raises
again where no claim stands, both from the cycle close after an outcome or a withdrawal on, and feeds until its
breaker is not CLOSED or until the section's own utility is back or the other source fails, which opens it. A state
entered at a cycle close is not tested again at it (R176, for the tie by inference: log 15 and NOTES). -/
def Obligations.DerivationTheTieAndTheOutcomes : Prop :=
  (∀ s : State,
    (s.cfg.role = some .incomer →
      ((s.tru.state = .deadWait ∨ s.tru.state = .openReturn) →
        (s.truHear (.outcome .completed)).tru.state = .normal) ∧
      (s.tru.state = .resync → (s.truHear (.outcome .completed)).tru.state = .parallel) ∧
      ∀ o, (o = .failed ∨ o = .discrepant ∨ o = .tripped) →
        (s.truHear (.outcome o)).tru.hold = true ∧
        (s.tru.state = .resync → (s.truHear (.outcome o)).tru.state = .onAlternate) ∧
        (s.tru.state = .openReturn → (s.truHear (.outcome o)).tru.state = .deadWait) ∧
        (s.tru.state ≠ .resync → s.tru.state ≠ .openReturn → (s.truHear (.outcome o)).tru.state = s.tru.state)) ∧
    (s.cfg.role = some .tie → ∀ x, s.tru.state = .tieClaim x →
      ((s.truHear (.outcome .completed)).tru.state = .tieFeeding x ∧
        (s.truHear (.outcome .completed)).tru.direction = some x) ∧
      ∀ o, (o = .failed ∨ o = .discrepant ∨ o = .tripped) →
        (s.truHear (.outcome o)).tru.state = .manual ∧ (s.truHear (.outcome o)).tru.mode = .manual ∧
        (s.truHear (.outcome o)).tru.direction = none) ∧
    (¬(s.syu.state = .checking ∧ s.syu.owner = some .tru) →
      ∀ a : Answer, (s.truHear a).tru.lastAnswer = some (a, s.lkc.count)) ∧
    ∀ a : Answer, a ≠ .outcome .completed → a ≠ .outcome .failed → a ≠ .outcome .discrepant → a ≠ .outcome .tripped →
      s.truHear a = { s with tru := { s.tru with lastAnswer := some (a, s.lkc.count) } }) ∧
  (∀ s : State, s.cfg.role = some .incomer →
    (∀ x : TransferState, (
        (s.dbu.lockout = true ∧ x = .halted) ∨
        (s.dbu.lockout = false ∧ s.currentSet.meas = .valid ∧ (
          (s.bcu.state = .closed ∧ s.tru.healthy = true ∧ x = .normal) ∨
          (s.bcu.state = .closed ∧ s.tru.healthy = false ∧ x = .lossConfirm) ∨
          (s.bcu.state = .opened ∧ (s.top.own = .grid ∨ s.top.own = .genset) ∧ x = .onAlternate) ∨
          (s.bcu.state = .opened ∧ s.top.own = .dead ∧ x = .deadWait)))) →
      s.truDerive.tru.state = x ∧ s.truDerive.tru.derive = false ∧
        (x = .lossConfirm → s.tru.state ≠ .lossConfirm → s.truDerive.tru.lossCount = 0)) ∧
    (s.dbu.lockout = false →
      (s.currentSet.meas ≠ .valid ∨ (s.bcu.state ≠ .opened ∧ s.bcu.state ≠ .closed) ∨
        (s.bcu.state = .opened ∧ s.top.own = .unknown)) → s.truDerive = s)) ∧
  (∀ s : State, s.cfg.role = some .tie →
    (s.cfg.tieTransfer = true → s.bcu.state = .opened → s.dbu.lockout = false →
      s.truDerive.tru.state = .tieOpen ∧ s.truDerive.tru.derive = false) ∧
    ((s.cfg.tieTransfer = false ∨ s.bcu.state ≠ .opened ∨ s.dbu.lockout = true) → s.truDerive = s)) ∧
  (∀ (s : State) (x : Sec), s.tieEntry x = true ↔
    s.dbu.lockout = false ∧
    (∃ (k : Station) (r : BayRecord), s.usableRec k = some r ∧ r.role = .incomer ∧ r.sect = some x ∧ r.transfer = .deadWait) ∧
    s.top.state x.other = .grid ∧
    (∃ (k : Station) (r : BayRecord), s.usableRec k = some r ∧ r.role = .incomer ∧ r.sect = some x.other ∧
      r.transfer = .normal) ∧ s.top.locked1 = false ∧ s.top.locked2 = false) ∧
  (∀ s : State, s.cfg.role = some .tie → s.cfg.tieTransfer = true → s.tru.mode = .auto → s.tru.enteredNow = false →
    s.tru.derive = false →
    (s.tru.state = .tieOpen →
      (∀ x : Sec, s.bcu.state = .opened → s.tieEntry x = true → s.tieEntry x.other = false →
        s.truTests = ((s.truLeave (.tieClaim x)).cluRaise .tru false x).1) ∧
      ((s.bcu.state ≠ .opened ∨ s.tieEntry .one = s.tieEntry .two) → s.truTests = s)) ∧
    (∀ x : Sec, s.tru.state = .tieClaim x →
      ((s.clu.inFlight ≠ none ∨ s.tru.heardNow = true) → s.truTests = s) ∧
      (s.clu.inFlight = none → s.tru.heardNow = false → s.tieEntry x = false → s.truTests = s.truLeave .tieOpen) ∧
      (s.clu.inFlight = none → s.tru.heardNow = false → s.tieEntry x = true →
        ((∃ c, s.clu.claim = some c ∧ c.origin = .tru) → s.truTests = s) ∧
        ((∀ c, s.clu.claim = some c → c.origin ≠ .tru) → s.truTests = (s.cluRaise .tru false x).1))) ∧
    ∀ x : Sec, s.tru.state = .tieFeeding x → ∀ opens : Bool,
      (opens = true ↔
        (∃ r, s.incomerRec x = some r ∧ (r.transfer = .parallel ∨ r.transfer = .normal ∨ r.transfer = .openReturn)) ∨
        ∀ r, s.incomerRec x.other = some r → showsHealthy r = false ∨ r.transfer ≠ .normal) →
      s.truTests = if s.bcu.state ≠ .closed then s.truLeave .tieOpen
        else if opens then s.tripRequest.truLeave .tieOpen else s) ∧
  ∀ s : State, s.cfg.role = some .tie → s.tru.mode = .auto → s.tru.enteredNow = true →
    s.truTests = if s.tru.derive then s.truDerive else s

/-! ### The link and the image -/

/-- A record encoded and sent is what every receiver reads: 38 bytes with a good CRC that decode to the record, every
field at every value, numbers outside the range their setting has among them (log 10). A feeder's record with priority
0 alone fails check 1. -/
def Obligations.SentRecordIsReadAsSent : Prop :=
  ∀ r : BayRecord, (encodeRecord r).length = 38 ∧ crcGood (encodeRecord r) = true ∧
    ((∀ h p x, r.part = .feeder h p x → p ≠ 0) → receivedRecord (encodeRecord r) = some r) ∧
    ∀ h x, r.part = .feeder h 0 x → receivedRecord (encodeRecord r) = none

/-- OWN_SLOT in PUBLISH, in a cycle that has neither sent nor skipped its record: the own record is assembled, copied to
the own entry with the current cycle count, and transmitted, and the own claim is published with it; every other entry
stands. Outside PUBLISH, and in a cycle that has sent or skipped, nothing is sent. Before cycle 0, an own slot behind
the timer says that cycle 0 has begun (log 26). What the own record shows: station, section, number and alignment of
the link, mode, the phasors, voltages, frequencies and measurement state of the set of the current cycle, the summary
of the breaker state as it stands, lockout, trip active, the BF notice, both groups, and the claim with its target and
rank. Further the hold and the three flags of an incomer, the transfer state of an incomer or a tie, and the role
part: health with the resync fields in RESYNC and PARALLEL, the direction, L with the rated power and the two states,
or the held load (0 outside SHED and RESTORING: log 30), priority and shed state. -/
def Obligations.OwnSlotPublishesTheOwnRecord : Prop :=
  (∀ s : State, s.cfp.run = .run → s.lkc.preCycle = false →
    ((s.lkc.link = .publish ∧ s.lkc.sent = false ∧ s.lkc.ownSkipped = false) → ∃ t, exec .ownSlot s = .next t ∧
      t = { s with
        lkc := { s.lkc with
          timer := slotStart s.cfg s.cfg.own, sent := true, sending := true, txCut := false,
          txFrame := encodeRecord s.ownRecord },
        pim := t.pim, clu := { s.clu with published := s.clu.claim, spent := false, failed := false } } ∧
      t.pim.get s.cfg.own = { s.pim.get s.cfg.own with record := some s.ownRecord, accepted := s.lkc.count } ∧
      ∀ k : Station, k ≠ s.cfg.own → t.pim.get k = s.pim.get k) ∧
    (¬(s.lkc.link = .publish ∧ s.lkc.sent = false ∧ s.lkc.ownSkipped = false) → exec .ownSlot s = .next
      { s with lkc := { s.lkc with timer := slotStart s.cfg s.cfg.own } })) ∧
  (∀ s : State, s.cfp.run = .run → s.lkc.preCycle = true → s.lkc.link ≠ .publish → ∃ t, exec .ownSlot s = .next t ∧
    t = { s with lkc := t.lkc } ∧ t.lkc.timer = slotStart s.cfg s.cfg.own ∧ t.lkc.link = s.lkc.link ∧
    t.lkc.number = s.lkc.number ∧ t.lkc.count = s.lkc.count ∧
    t.lkc.preCycle = decide (s.lkc.timer ≤ slotStart s.cfg s.cfg.own)) ∧
  (∀ s : State,
    (s.ownRecord.station = s.cfg.own ∧ s.ownRecord.cycle = s.lkc.number ∧ s.ownRecord.alignment = s.lkc.alignment ∧
      s.ownRecord.sect = (if s.cfg.role = some .tie then none else s.cfg.sec) ∧ s.ownRecord.mode = s.tru.mode) ∧
    (s.ownRecord.meas = s.currentSet.meas ∧ s.ownRecord.lockout = s.dbu.lockout ∧
      s.ownRecord.tripActive = s.pru.tripActive ∧ s.ownRecord.bfNotice = s.dbu.notice) ∧
    (s.ownRecord.iaRe = BitVec.ofInt 16 s.currentSet.phasor.ia.re ∧
      s.ownRecord.iaIm = BitVec.ofInt 16 s.currentSet.phasor.ia.im ∧
      s.ownRecord.ibRe = BitVec.ofInt 16 s.currentSet.phasor.ib.re ∧
      s.ownRecord.ibIm = BitVec.ofInt 16 s.currentSet.phasor.ib.im ∧
      s.ownRecord.icRe = BitVec.ofInt 16 s.currentSet.phasor.ic.re ∧
      s.ownRecord.icIm = BitVec.ofInt 16 s.currentSet.phasor.ic.im) ∧
    (s.ownRecord.busVoltage = BitVec.ofNat 16 s.currentSet.vMin ∧
      s.ownRecord.busFrequency = BitVec.ofNat 16 s.currentSet.fBus ∧
      s.ownRecord.lineVoltage = BitVec.ofNat 16 s.currentSet.mag.vl ∧
      s.ownRecord.lineFrequency = BitVec.ofNat 16 s.currentSet.fLine ∧
      s.ownRecord.p = BitVec.ofInt 16 s.currentSet.p ∧ s.ownRecord.q = BitVec.ofInt 16 s.currentSet.q) ∧
    (s.ownRecord.faultGroup = s.pru.faultGroup ∧ s.ownRecord.sourceGroup = s.pru.sourceGroup) ∧
    (s.ownRecord.summary = match s.bcu.state with
      | .opened => .opened
      | .closing => .closing
      | .closed => .closed
      | .opening => .opening
      | _ => .faulty) ∧
    (∀ r : Role, s.cfg.role = some r → s.ownRecord.role = r) ∧
    (s.clu.claim = none → s.ownRecord.claim = .none) ∧
    ∀ c, s.clu.claim = some c →
      s.ownRecord.claim = (if c.restore then .restore else .deadBus) ∧ s.ownRecord.claimTarget = c.target ∧
      s.ownRecord.claimRank = (if c.restore then 0 else c.rank)) ∧
  ∀ s : State,
    ((s.cfg.role = some .incomer → s.ownRecord.hold = s.tru.hold ∧ s.ownRecord.startDemand = s.tru.startDemand ∧
        s.ownRecord.openDemand = s.tru.openDemand ∧ s.ownRecord.parallelTimeout = s.tru.parallelTimeout) ∧
      (s.cfg.role ≠ some .incomer → s.ownRecord.hold = false ∧ s.ownRecord.startDemand = false ∧
        s.ownRecord.openDemand = false ∧ s.ownRecord.parallelTimeout = false)) ∧
    ((s.cfg.role = some .incomer ∨ s.cfg.role = some .tie) → s.ownRecord.transfer = match s.tru.state with
      | .manual => .manual
      | .normal => .normal
      | .lossConfirm => .lossConfirm
      | .isolating => .isolating
      | .deadWait => .deadWait
      | .onAlternate => .onAlternate
      | .returnWait => .returnWait
      | .resync => .resync
      | .parallel => .parallel
      | .openReturn => .openReturn
      | .halted => .halted
      | .tieOpen => .tieOpen
      | .tieClaim _ => .tieClaim
      | .tieFeeding _ => .tieFeeding) ∧
    ((s.cfg.role = some .generator ∨ s.cfg.role = some .feeder) → s.ownRecord.transfer = .none) ∧
    (s.cfg.role = some .incomer →
      ((s.tru.state = .resync ∨ s.tru.state = .parallel) → s.ownRecord.part =
        .incomer s.tru.healthy (BitVec.ofNat 16 s.tru.reference) (s.cfg.resyncOffset.setWidth 8)) ∧
      (s.tru.state ≠ .resync → s.tru.state ≠ .parallel → s.ownRecord.part = .incomer s.tru.healthy 0 0)) ∧
    (s.cfg.role = some .tie → s.ownRecord.part = .tie s.tru.direction) ∧
    (s.cfg.role = some .generator → s.cfg.pRated.toNat ≠ 0 → s.ownRecord.part = .generator
      (BitVec.ofInt 16 (max (-4096) (min 8191 ((s.currentSet.p * 4096).tdiv s.cfg.pRated.toNat)))) s.cfg.pRated s.gcu.unit
      s.gcu.mode) ∧
    (s.cfg.role = some .feeder → s.ownRecord.part = .feeder
      (if s.fcu.state = .shed ∨ s.fcu.state = .restoring then BitVec.ofNat 16 s.fcu.held else 0)
      (s.cfg.priority.setWidth 8) s.fcu.state)

/-- READ_BACK after an own transmission. Silence, a frame with a failed CRC or without its end pattern, and a frame that
ends after its slot (truncated) are a CRC error of the own entry with LINK_ALARM; the frame as sent changes only the
marks of the slot, and no flag and no entry; a good frame of another station is a mismatch; a good frame with the own
station number that differs from the one sent is a duplicate, and the station leaves PUBLISH. Without an own
transmission in PUBLISH, and in a cycle whose own slot has been heard, nothing changes. -/
def Obligations.ReadBackIsComparedWithTheFrameSent : Prop :=
  (∀ s : State, s.cfp.run = .run → s.lkc.link = .publish → s.lkc.sent = true →
    s.lkc.slotsHeard.getLsbD s.cfg.own.val = false →
    (∃ t, exec (.readBack .silent) s = .next t ∧
      t = { s with lkc := t.lkc, pim := t.pim, cfp := { s.cfp with attention := t.cfp.attention } } ∧
      (∀ j : Station, j ≠ s.cfg.own → t.pim.get j = s.pim.get j) ∧ t.lkc.crcError = true ∧ t.pendingBit .linkAlarm = true ∧
      t.lkc.link = .publish ∧
      t.pim.get s.cfg.own = { s.pim.get s.cfg.own with crcErrors := min 255 ((s.pim.get s.cfg.own).crcErrors + 1) }) ∧
    ∀ f : Frame, ∃ t, exec (.readBack (.frame f)) s = .next t ∧
      t = { s with lkc := t.lkc, pim := t.pim, cfp := { s.cfp with attention := t.cfp.attention } } ∧
      (∀ j : Station, j ≠ s.cfg.own → t.pim.get j = s.pim.get j) ∧
      ((f.tail ≠ 0x7E#8 ∨ crcGood f.bytes = false ∨ slotEnd s.cfg s.cfg.own < f.start + 15744) →
        t.lkc.crcError = true ∧ t.pendingBit .linkAlarm = true ∧ t.lkc.link = .publish ∧
        t.pim.get s.cfg.own = { s.pim.get s.cfg.own with crcErrors := min 255 ((s.pim.get s.cfg.own).crcErrors + 1) }) ∧
      ((f.tail = 0x7E#8 ∧ crcGood f.bytes = true ∧ f.start + 15744 ≤ slotEnd s.cfg s.cfg.own) →
        (f.bytes = s.lkc.txFrame → t = { s with lkc := t.lkc } ∧ t.lkc.ownHeard = true ∧ t.lkc.link = .publish ∧
          (t.lkc.crcError = s.lkc.crcError ∧ t.lkc.slotMismatch = s.lkc.slotMismatch ∧ t.lkc.late = s.lkc.late ∧
            t.lkc.duplicateSeen = s.lkc.duplicateSeen ∧ t.lkc.referenceMissing = s.lkc.referenceMissing ∧
            t.lkc.number = s.lkc.number ∧ t.lkc.count = s.lkc.count ∧ t.lkc.mismatches = s.lkc.mismatches)) ∧
        (f.bytes ≠ s.lkc.txFrame → (byteAt f.bytes 0).extractLsb' 4 4 = BitVec.ofFin (w := 4) s.cfg.own →
          t.lkc.link = .duplicate ∧ t.lkc.duplicateSeen = true ∧ t.lkc.silentCount = 0 ∧ t.pim = s.pim ∧
          t.pendingBit .linkAlarm = true) ∧
        (f.bytes ≠ s.lkc.txFrame → (byteAt f.bytes 0).extractLsb' 4 4 ≠ BitVec.ofFin (w := 4) s.cfg.own →
          t.lkc.link = .publish ∧ t.lkc.slotMismatch = true ∧ t.lkc.mismatches = min 255 (s.lkc.mismatches + 1) ∧
          t.pim = s.pim ∧ t.pendingBit .linkAlarm = true))) ∧
  ∀ (h : Heard) (s : State), (s.cfp.run = .config ∨ s.lkc.link ≠ .publish ∨ s.lkc.sent = false ∨
    s.lkc.slotsHeard.getLsbD s.cfg.own.val = true) → exec (.readBack h) s = .next s

/-- RECORD_ARRIVAL, locked, in the slot of a peer, of the first frame of the cycle in it. A frame truncated by the end of
its slot, without its end pattern, with a bad CRC or an undefined code counts a CRC error of that slot's entry. A good
record of another station counts a mismatch; one of a slot outside the mask is ignored; a record with another cycle
number is LATE. Each failure sets its flag and LINK_ALARM, and no entry takes a record. A record that passes every
check is accepted: the entry of its station holds it with the current cycle count, every other entry stands, and none
of the five exception flags, no counter and no attention bit is touched. A second frame in a slot of the cycle changes
nothing. -/
def Obligations.ValidRecordEntersTheImage : Prop :=
  (∀ (f : Frame) (k : Station) (s : State), s.cfp.run = .run → s.lkc.link ≠ .off → s.lkc.unlocked = false →
    slotOf s.cfg f.start = some k → k ≠ s.cfg.own → s.lkc.slotsHeard.getLsbD k.val = false →
    ∃ t, exec (.recordArrival f) s = .next t ∧
      t = { s with lkc := t.lkc, pim := t.pim, cfp := { s.cfp with attention := t.cfp.attention } } ∧
      (∀ j : Station, j ≠ k → t.pim.get j = s.pim.get j) ∧ t.lkc.count = s.lkc.count ∧ t.lkc.link = s.lkc.link ∧
      ((f.tail ≠ 0x7E#8 ∨ slotEnd s.cfg k < f.start + 15744 ∨ receivedRecord f.bytes = none) →
        t.lkc.crcError = true ∧ t.pendingBit .linkAlarm = true ∧
        t.pim.get k = { s.pim.get k with crcErrors := min 255 ((s.pim.get k).crcErrors + 1) }) ∧
      ∀ r, f.tail = 0x7E#8 → f.start + 15744 ≤ slotEnd s.cfg k → receivedRecord f.bytes = some r →
        (r.station ≠ k → t.lkc.slotMismatch = true ∧ t.pim = s.pim ∧
          t.lkc.mismatches = min 255 (s.lkc.mismatches + 1) ∧ t.pendingBit .linkAlarm = true) ∧
        (r.station = k → s.cfg.peerMask.getLsbD k.val = true → r.cycle ≠ s.lkc.number →
          t.lkc.late = true ∧ t.lkc.lates = min 255 (s.lkc.lates + 1) ∧ t.pim = s.pim ∧ t.pendingBit .linkAlarm = true) ∧
        (r.station = k → (s.cfg.peerMask.getLsbD k.val = false ∨ r.cycle = s.lkc.number) →
          t = { s with lkc := t.lkc, pim := t.pim } ∧ t.lkc.number = s.lkc.number ∧
          (t.lkc.crcError = s.lkc.crcError ∧ t.lkc.slotMismatch = s.lkc.slotMismatch ∧ t.lkc.late = s.lkc.late ∧
            t.lkc.duplicateSeen = s.lkc.duplicateSeen ∧ t.lkc.referenceMissing = s.lkc.referenceMissing ∧
            t.lkc.mismatches = s.lkc.mismatches ∧ t.lkc.lates = s.lkc.lates) ∧
          t.pim.get k = (if s.cfg.peerMask.getLsbD k.val then
            { s.pim.get k with record := some r, accepted := s.lkc.count } else s.pim.get k))) ∧
  ∀ (f : Frame) (k : Station) (s : State), s.cfp.run = .run → s.lkc.link ≠ .off → s.lkc.unlocked = false →
    slotOf s.cfg f.start = some k → s.lkc.slotsHeard.getLsbD k.val = true → exec (.recordArrival f) s = .next s

/-- RECORD_ARRIVAL while the timer is unlocked: the first good frame of another station of the mask acquires the timer,
whatever its slot: stepped so that the frame lies in its station's slot, its number adopted, relocks up, locked, the
record accepted; a failed check 1 counts against no entry; the own number is a duplicate; a station outside the mask
is ignored. Locked, in LISTEN and in a cycle of PUBLISH without a transmission, a good frame with the own number in
the own slot is a duplicate. A valid record of the reference within a sixteenth of a sample period and of the own
number shifts the timer and ends SELF_TIMED; any other of the reference relocks and takes its number, and the marks of
the slots heard stand (log 17, the model's choice; of a frame that starts in the compute gap nothing is said here); a
record of any other station moves nothing. A frame in another station's slot relocks when its station is of the mask,
lower than the own one and no higher than the reference, and enters neither image nor heard list. A move of the timer:
forward past the own slot skips it, past grid point 0 owes the phasor instant; back before either drops what has not
happened (forward then backward in one cycle is the model's choice: log 44). -/
def Obligations.ArrivalsUnlockedAndTheirTiming : Prop :=
  (∀ (f : Frame) (s : State), s.cfp.run = .run → s.lkc.link ≠ .off → s.lkc.unlocked = true →
    ∃ t, exec (.recordArrival f) s = .next t ∧
      t = { s with lkc := t.lkc, pim := t.pim, cfp := { s.cfp with attention := t.cfp.attention } } ∧
      t.lkc.count = s.lkc.count ∧
      ((f.tail ≠ 0x7E#8 ∨ receivedRecord f.bytes = none) →
        t.lkc.crcError = true ∧ t.pendingBit .linkAlarm = true ∧ t.pim = s.pim ∧ t.lkc.unlocked = true ∧
        t.lkc.number = s.lkc.number ∧ t.lkc.relocks = s.lkc.relocks) ∧
      ∀ r, f.tail = 0x7E#8 → receivedRecord f.bytes = some r →
        (r.station = s.cfg.own → s.lkc.link ≠ .duplicate →
          t.lkc.link = .duplicate ∧ t.lkc.duplicateSeen = true ∧ t.lkc.silentCount = 0 ∧ t.pendingBit .linkAlarm = true ∧
          t.pim = s.pim ∧ t.lkc.unlocked = true) ∧
        (r.station ≠ s.cfg.own → s.cfg.peerMask.getLsbD r.station.val = false →
          t = { s with lkc := t.lkc } ∧ t.lkc.unlocked = true ∧ t.lkc.link = s.lkc.link ∧
          t.lkc.crcError = s.lkc.crcError ∧ t.lkc.relocks = s.lkc.relocks ∧ t.lkc.heardNow = s.lkc.heardNow) ∧
        (r.station ≠ s.cfg.own → s.cfg.peerMask.getLsbD r.station.val = true →
          (t.lkc.unlocked = false ∧ t.lkc.number = r.cycle ∧ t.lkc.relocks = min 255 (s.lkc.relocks + 1) ∧
            t.lkc.relockCycle = some s.lkc.count ∧ t.lkc.selfTimed = false ∧ t.lkc.link = s.lkc.link ∧
            t.lkc.timer = slotStart s.cfg r.station + 960 + 15744) ∧
          (∀ j : Station, t.lkc.heardNow.getLsbD j.val = true ↔
            s.lkc.heardNow.getLsbD j.val = true ∨ (j = r.station ∧ r.station < s.cfg.own)) ∧
          t.pim.get r.station = { s.pim.get r.station with record := some r, accepted := s.lkc.count } ∧
          ∀ j : Station, j ≠ r.station → t.pim.get j = s.pim.get j)) ∧
  (∀ (f : Frame) (r : BayRecord) (s : State), s.cfp.run = .run → s.lkc.unlocked = false →
    (s.lkc.link = .listen ∨ s.lkc.link = .publish ∧ s.lkc.sent = false) → slotOf s.cfg f.start = some s.cfg.own →
    s.lkc.slotsHeard.getLsbD s.cfg.own.val = false → f.tail = 0x7E#8 → f.start + 15744 ≤ slotEnd s.cfg s.cfg.own →
    receivedRecord f.bytes = some r → r.station = s.cfg.own →
    ∃ t, exec (.recordArrival f) s = .next t ∧ t.lkc.link = .duplicate ∧ t.lkc.duplicateSeen = true ∧
      t.lkc.silentCount = 0 ∧ t.pendingBit .linkAlarm = true ∧ t.pim = s.pim) ∧
  (∀ (f : Frame) (k : Station) (r : BayRecord) (s : State), s.cfp.run = .run → s.lkc.link ≠ .off →
    s.lkc.unlocked = false → s.lkc.preCycle = false → slotOf s.cfg f.start = some k → k ≠ s.cfg.own →
    s.lkc.slotsHeard.getLsbD k.val = false → f.tail = 0x7E#8 → f.start + 15744 ≤ slotEnd s.cfg k →
    receivedRecord f.bytes = some r → ∃ t, exec (.recordArrival f) s = .next t ∧
      (r.station = k → s.cfg.peerMask.getLsbD k.val = true →
        (k < s.cfg.own ∧ (∀ j : Station, (s.lkc.heardNow ||| s.lkc.heardBefore).getLsbD j.val = true → k ≤ j) →
          t.lkc.timer = slotStart s.cfg k + 960 + 15744 ∧ t.lkc.selfTimed = false ∧ t.lkc.heardNow.getLsbD k.val = true ∧
          (((f.start : Int) - ((slotStart s.cfg k : Int) + 960)).natAbs ≤ periodUnits s.cfg / 16 ∧ r.cycle = s.lkc.number →
            t.lkc.relocks = s.lkc.relocks ∧ t.lkc.relockCycle = s.lkc.relockCycle ∧ t.lkc.number = s.lkc.number) ∧
          (¬(((f.start : Int) - ((slotStart s.cfg k : Int) + 960)).natAbs ≤ periodUnits s.cfg / 16 ∧
              r.cycle = s.lkc.number) →
            t.lkc.relocks = min 255 (s.lkc.relocks + 1) ∧ t.lkc.relockCycle = some s.lkc.count ∧
            t.lkc.number = r.cycle ∧ ∀ j : Station, s.lkc.slotsHeard.getLsbD j.val = true → t.lkc.slotsHeard.getLsbD j.val = true)) ∧
        (((s.cfg.own < k ∧ (s.lkc.heardNow ||| s.lkc.heardBefore).getLsbD k.val = false) ∨
            ∃ j : Station, j < k ∧ (s.lkc.heardNow ||| s.lkc.heardBefore).getLsbD j.val = true) →
          t.lkc.timer = f.start + 15744 ∧ t.lkc.relocks = s.lkc.relocks ∧ t.lkc.number = s.lkc.number ∧
          t.lkc.selfTimed = s.lkc.selfTimed)) ∧
      (r.station ≠ k → t.pim = s.pim ∧ t.lkc.heardNow = s.lkc.heardNow ∧
        ((s.cfg.peerMask.getLsbD r.station.val = true ∧ r.station < s.cfg.own ∧
            (∀ j, s.lkc.reference = some j → r.station ≤ j)) →
          t.lkc.timer = slotStart s.cfg r.station + 960 + 15744 ∧ t.lkc.relocks = min 255 (s.lkc.relocks + 1) ∧
          t.lkc.number = r.cycle ∧ t.lkc.relockCycle = some s.lkc.count) ∧
        (¬(s.cfg.peerMask.getLsbD r.station.val = true ∧ r.station < s.cfg.own ∧
            (∀ j, s.lkc.reference = some j → r.station ≤ j)) →
          t.lkc.timer = f.start + 15744 ∧ t.lkc.relocks = s.lkc.relocks ∧ t.lkc.number = s.lkc.number))) ∧
  ∀ (l : Lkc) (c : Settings) (old new : Nat),
    ((l.move c old new).timer = new ∧ (l.move c old new).sent = l.sent ∧ (l.move c old new).phasorMade = l.phasorMade) ∧
    (old < new →
      ((l.move c old new).ownSkipped = true ↔ l.ownSkipped = true ∨ (old < slotStart c c.own ∧ slotStart c c.own ≤ new)) ∧
      ((l.move c old new).phasorOwed = true ↔ l.phasorOwed = true ∨
        (l.phasorMade = false ∧ old < gridPosition c 0 ∧ gridPosition c 0 ≤ new))) ∧
    (new ≤ old → ((l.move c old new).ownSkipped = true ↔ l.ownSkipped = true ∧ slotStart c c.own < new) ∧
      (l.preCycle = false → ((l.move c old new).phasorOwed = true ↔
        l.phasorOwed = true ∧ (gridPosition c 0 < new ∨ l.phasorMade = true))))

/-- Age and status of an entry: 255 and ABSENT without a record; otherwise the age is the unsigned 32-bit difference of the
counts saturated at 255, FRESH exactly at age 0 with the current number, LOST at age 8 or more, STALE in between. -/
def Obligations.EntryAgeAndStatus : Prop :=
  ∀ (e : Entry) (count : Count) (number : BitVec 8),
    e.age count ≤ 255 ∧
    (e.record = none → e.age count = 255 ∧ e.status count number = .absent) ∧
    ∀ r, e.record = some r →
      e.age count = min 255 (count - e.accepted).toNat ∧ e.status count number ≠ .absent ∧
      (e.status count number = .fresh ↔ e.age count = 0 ∧ r.cycle = number) ∧
      (e.status count number = .lost ↔ 8 ≤ e.age count) ∧
      (e.status count number = .stale ↔ (e.age count = 0 ∧ r.cycle ≠ number) ∨ (1 ≤ e.age count ∧ e.age count ≤ 7))

/-- What TOP forms from the image: the tie identity from the candidates (role TIE or section 0) among the held records;
the expected sets, UNKNOWN while an expected entry holds no record or the tie is in CONFLICT, and else the expected
stations of the section with the tie; the island map, JOINED on a usable tie in the closed group; the state of an
island, GRID by a closed incomer, else GENSET by a closed generator, else DEAD; the own island state; and the lockout
view. A record of role INCOMER or GENERATOR with section 0 counts in no island: log 48 (the model's choice). -/
def Obligations.BoardTopologyFollowsTheImage : Prop :=
  ∀ s : State,
    ((s.tieIdentity = .none ↔ ∀ (k : Station) (r : BayRecord), s.heldRec k = some r → r.role ≠ .tie ∧ r.sect ≠ none) ∧
      ∀ k : Station, s.tieIdentity = .station k ↔ (∃ r, s.heldRec k = some r ∧ (r.role = .tie ∨ r.sect = none)) ∧
        ∀ (j : Station) (r : BayRecord), s.heldRec j = some r → (r.role = .tie ∨ r.sect = none) → j = k) ∧
    (∀ x : Sec,
      (s.expectedSet x = none ↔
        (∃ k : Station, (s.pim.get k).expected = true ∧ s.heldRec k = none) ∨ s.tieIdentity = .conflict) ∧
      ∀ (set : StationSet), s.expectedSet x = some set → ∀ k : Station, set.getLsbD k.val = true ↔
        ((s.pim.get k).expected = true ∧ ∃ r, s.heldRec k = some r ∧ r.sect = some x) ∨ s.tieIdentity = .station k) ∧
    ((s.islandMap = .unknown ↔ (∃ k : Station, (s.pim.get k).expected = true ∧ s.heldRec k = none) ∨
        s.tieIdentity = .conflict ∨ ∃ k : Station, s.tieIdentity = .station k ∧ s.usableRec k = none) ∧
      (s.islandMap = .joined ↔ (∀ k : Station, (s.pim.get k).expected = true → s.heldRec k ≠ none) ∧
        ∃ (k : Station) (r : BayRecord), s.tieIdentity = .station k ∧ s.usableRec k = some r ∧
          (r.summary = .closed ∨ r.summary = .opening ∨ r.summary = .faulty))) ∧
    (∀ (m : IslandMap) (x : Sec),
      (s.islandState m x = .unknown ↔ m = .unknown) ∧
      (m ≠ .unknown →
        (s.islandState m x = .grid ↔ ∃ (k : Station) (r : BayRecord) (y : Sec), s.usableRec k = some r ∧ r.role = .incomer ∧
          r.sect = some y ∧ (y = x ∨ m = .joined) ∧
          (r.summary = .closed ∨ r.summary = .opening ∨ r.summary = .faulty)) ∧
        (s.islandState m x ≠ .grid → (s.islandState m x = .genset ↔ ∃ (k : Station) (r : BayRecord) (y : Sec),
          s.usableRec k = some r ∧ r.role = .generator ∧ r.sect = some y ∧ (y = x ∨ m = .joined) ∧
          (r.summary = .closed ∨ r.summary = .opening ∨ r.summary = .faulty))))) ∧
    (∀ a b : IslandState,
      (s.cfg.role ≠ some .tie → s.cfg.sec = some .one → ownIsland s.cfg a b = a) ∧
      (s.cfg.role ≠ some .tie → s.cfg.sec = some .two → ownIsland s.cfg a b = b) ∧
      (s.cfg.role = some .tie → ownIsland s.cfg a b =
        if a = .unknown ∨ b = .unknown then .unknown else if a = .grid ∨ b = .grid then .grid
        else if a = .genset ∨ b = .genset then .genset else .dead)) ∧
    ∀ (flag : Bool) (x : Sec), (s.formTopology flag).locked x = true ↔
      (flag = true ∧ (s.cfg.role = some .tie ∨ s.cfg.sec = some x)) ∨
      ∃ (k : Station) (r : BayRecord), k ≠ s.cfg.own ∧ s.usableRec k = some r ∧ r.lockout = true ∧
        (r.role = .tie ∨ r.sect = none ∨ r.sect = some x)

/-- The timed moves of the link as commands of their own: the eighth cycle close of LISTEN enters PUBLISH, the 64th silent
own slot of DUPLICATE enters LISTEN, and the third cycle close without a lower station makes the station SELF_TIMED, with
REFERENCE_MISSING where the mask holds a lower station (that each row is the count's last tick is the model's choice:
log 11). -/
def Obligations.LinkTimersMoveTheLink : Prop :=
  ∀ s : State, s.cfp.run = .run →
    (s.lkc.link = .listen → 7 ≤ s.lkc.listenCount → exec .listenComplete s = .next
      { s with lkc := { s.lkc with link := .publish, listenCount := 8 } }) ∧
    (s.lkc.link = .duplicate → s.lkc.ownHeard = false → 63 ≤ s.lkc.silentCount → exec .silentSlotExpiry s = .next
      { s with lkc := { s.lkc with link := .listen, silentCount := 64, listenCount := 0 } }) ∧
    (s.lkc.link ≠ .off → s.lkc.selfTimed = false → s.lkc.heardNow = 0 → 2 ≤ s.lkc.silence →
      (s.cfg.isLowest = true → exec .selfTimed s = .next
        { s with lkc := { s.lkc with silence := 3, selfTimed := true, unlocked := false } }) ∧
      (s.cfg.isLowest = false → exec .selfTimed s = .next
        { s with
          lkc := { s.lkc with silence := 3, selfTimed := true, unlocked := false, referenceMissing := true },
          cfp := { s.cfp with attention := s.cfp.attention ||| 0x0010#16 } }))

/-- CYCLE_CLOSE in RUN completes in every order of its blocks (log 2: the order is an operand), takes every block once on
what is formed first, and ends its cycle: number and count advance by one, the timer and the marks of the cycle are
cleared, the history and ROCOF take the closing cycle's bus frequency, TOP's results are those of the image as it
stands, the lockout view is that of the peers with the own flag as this cycle close leaves it, and each half's group
follows its mode and the own island state. The heard lists move on, the lower-silence count and the counts of LISTEN
and DUPLICATE advance or make their move; that SELF_TIMED is formed at a cycle close with the count at 3, again where
a timing event had ended it, is log 17, the model's choice. The store, the image, CVP and the window stand. The moment
at which cycle 0 begins is no cycle close: the cycle begins and nothing else happens (that the row stands for that
moment before cycle 0 is log 26). What each block is: PRU, DBU, BCU in its three parts, CLU, SYU, GCU, FCU and TRU;
DBU takes the differential of its sections, the peers' notices, the BF triggers and the BF timer, BCU its three
counts, and CLU its tracking, winners, pending operator close, requests, abort, withdrawals and window, each in that
order (logs 49 and 65). Formed first are the check record, the trip requests to come and clear marks (logs 9 and 15). -/
def Obligations.CycleCloseEndsTheCycle : Prop :=
  (∀ (o : List CloseBlock) (s : State), s.cfp.run = .run → s.lkc.preCycle = true → exec (.cycleClose o) s = .next
    { s with lkc := { s.lkc with
        timer := 0, preCycle := false, phasorMade := false, phasorOwed := false,
        phasorLate := s.lkc.phasorLate + (if s.lkc.phasorOwed then 1 else 0), sent := false, ownSkipped := false, ownHeard := false,
        slotsHeard := 0, sending := false } }) ∧
  (∀ (o : List CloseBlock) (s : State), s.cfp.run = .run → s.lkc.preCycle = false →
    ∃ t, exec (.cycleClose o) s = .next t ∧
      (t = ((orderOver allBlocks o).foldl (fun u b => u.closeBlock s.formClose b) s.formClose).withLkc Lkc.advance ∧
        ∀ b : CloseBlock, (orderOver allBlocks o).count b = 1) ∧
      (t.lkc.number = s.lkc.number + 1 ∧ t.lkc.count = s.lkc.count + 1 ∧ t.lkc.timer = 0 ∧ t.lkc.sent = false ∧
        t.lkc.phasorMade = false ∧ t.lkc.phasorOwed = false ∧ t.lkc.slotsHeard = 0 ∧ t.lkc.ownHeard = false) ∧
      (t.lkc.heardBefore = s.lkc.heardNow ∧ t.lkc.heardNow = 0 ∧
        t.lkc.silence = (if s.lkc.heardNow = 0 then min 3 (s.lkc.silence + 1) else 0) ∧
        t.lkc.selfTimed = (s.lkc.selfTimed || decide (t.lkc.silence = 3)) ∧
        (t.lkc.selfTimed = true → s.lkc.selfTimed = false → t.lkc.unlocked = false ∧
          (s.cfg.isLowest = false → t.lkc.referenceMissing = true ∧ t.pendingBit .linkAlarm = true))) ∧
      (match s.lkc.link with
        | .listen => t.lkc.link = (if 8 ≤ s.lkc.listenCount + 1 then .publish else .listen) ∧
            (s.lkc.listenCount < 7 → t.lkc.listenCount = s.lkc.listenCount + 1)
        | .duplicate => t.lkc.link = (if s.lkc.ownHeard = false ∧ 64 ≤ s.lkc.silentCount + 1 then .listen else .duplicate) ∧
            (s.lkc.ownHeard = true → t.lkc.silentCount = 0) ∧
            (s.lkc.ownHeard = false → s.lkc.silentCount < 63 → t.lkc.silentCount = s.lkc.silentCount + 1)
        | x => t.lkc.link = x) ∧
      (t.cfg = s.cfg ∧ t.pim = s.pim ∧ t.cvp = s.cvp ∧ t.msu.window = s.msu.window ∧ t.msu.newest = s.msu.newest) ∧
      (t.msu.history = appendHistory s.msu.history s.currentSet.fBus ∧ t.msu.rocof = rocofOf s.cfg t.msu.history) ∧
      (∃ flag : Bool, t.top = s.formTopology flag ∧
        (flag = true ↔ s.dbu.lockout = true ∨
          (∃ x : Sec, s.cfg.belongs x = true ∧ s.formClose.sectionTrips x = true) ∨
          (∃ k : Station, ∃ r : BayRecord, k ≠ s.cfg.own ∧ s.usableRec k = some r ∧ r.bfNotice = true ∧
            concerns s.cfg r = true) ∨
          ∃ n : Nat, s.dbu.timer = .running n ∧ s.cfg.tBf.toNat ≤ n + 1)) ∧
      (t.pru.faultGroup = groupOf s.cfg.faultMode t.top.own s.pru.faultGroup ∧
        t.pru.sourceGroup = groupOf s.cfg.sourceMode t.top.own s.pru.sourceGroup)) ∧
  (∀ s s0 : State,
    (s.closeBlock s0 .pru = s.pruClose ∧ s.closeBlock s0 .dbu = s.dbuClose s0 ∧ s.closeBlock s0 .bcuCounts = s.bcuCounts s0 ∧
      s.closeBlock s0 .bcuDrop = s.bcuDrop s0 ∧ s.closeBlock s0 .bcuTrip = s.bcuExtTrip ∧ s.closeBlock s0 .clu = s.cluClose ∧
      s.closeBlock s0 .syu = s.syuClose ∧ s.closeBlock s0 .gcu = s.gcuClose ∧ s.closeBlock s0 .fcu = s.fcuClose ∧
      s.closeBlock s0 .tru = s.truClose) ∧
    (s.cfg.role = some .tie → s.dbuClose s0 =
      (((((s.diffClose .one).diffClose .two).peerBfClose).bfSeenClose .one).bfSeenClose .two).bfTick s0) ∧
    (∀ x : Sec, s.cfg.role ≠ some .tie → s.cfg.sec = some x → s.dbuClose s0 =
      (((s.diffClose x).peerBfClose).bfSeenClose x).bfTick s0) ∧
    s.bcuCounts s0 = (s.supervisionTick.holdTick s0).discrepancyTick ∧
    s.cluClose = (((((s.cluTrack.cluWinners.cluOperator.cluDeadBus .one).cluDeadBus .two).cluWon).cluAbort).cluRestore).cluWithdrawals.cluWindow) ∧
  ∀ s t : State, t = s.formClose →
    (t.syu.check = s.formCheck ∧ t.bcu.trippedNow = (t.fnActive .extTrip || t.dbuWillTrip || t.gcuWillOpen ||
      (decide (s.cfg.role = some .feeder) && s.fcu.openPending) || t.truWillOpen)) ∧
    (t.bcu.acceptedNow = false ∧ t.bcu.endedNow = false ∧ t.clu.raisedNow = false ∧ t.syu.startedNow = false ∧
      t.gcu.enteredNow = false ∧ t.gcu.heardNow = false ∧ t.fcu.heardNow = false ∧ t.tru.enteredNow = false ∧
      t.tru.heardNow = false)

/-! ### What every step keeps -/

/-- Every step keeps the breaker outputs safe: CLOSE asserted in CLOSING alone, TRIP exactly in OPENING and FAILED_OPEN, an
owner exactly in CLOSING, and no CLOSE in a station that is locked out. -/
def Obligations.StepKeepsCloseUnlocked : Prop :=
  ∀ s t : State, s.CloseUnlocked → step s = .next t → t.CloseUnlocked

/-- Every step keeps the capture banks in the states their run state allows, and their samples in canonical form. -/
def Obligations.StepKeepsTheCaptureBanks : Prop :=
  ∀ s t : State, step s = .next t → (s.BanksOk → t.BanksOk) ∧ (s.SamplesOk → t.SamplesOk)

/-- Every step keeps the bias codes within −2048..+2047, and at 0 in CONFIG and in a station that is no generator. -/
def Obligations.StepKeepsTheBiasCodes : Prop :=
  ∀ s t : State, s.BiasOk → step s = .next t → t.BiasOk

/-- Every step keeps a station in RUN on a store that passes every check, its link OFF exactly in CONFIG, the saturating
counts within their ranges, and an attempt's owner and permit as the sync state has them. -/
def Obligations.StepKeepsRunControlAndCounts : Prop :=
  ∀ s t : State, (s.CheckedOk ∧ s.LinkOk ∧ s.CountsOk ∧ s.AttemptOk) → step s = .next t →
    t.CheckedOk ∧ t.LinkOk ∧ t.CountsOk ∧ t.AttemptOk

/-- The state after power-on reset meets every invariant that a step keeps. -/
def Obligations.ResetMeetsTheInvariants : Prop :=
  State.reset.CloseUnlocked ∧ (State.reset.BanksOk ∧ State.reset.SamplesOk) ∧ State.reset.BiasOk ∧
    State.reset.CheckedOk ∧ State.reset.LinkOk ∧ State.reset.CountsOk ∧ State.reset.AttemptOk

end StatementsOfSliceZero
end

