-- ==== Sys2Proof/Laws/State.lean ====
section
/-! SUPPORT. What every update of the state leaves in each field: one lemma per field per update, so that no later proof
unfolds a record update. -/

namespace Sys2Proof.Machine

/-! ### withCfg -/

@[simp] theorem State.withCfg_cfg (s : State) (f : Settings → Settings) : (s.withCfg f).cfg = f s.cfg := rfl
@[simp] theorem State.withCfg_cvp (s : State) (f : Settings → Settings) : (s.withCfg f).cvp = s.cvp := rfl
@[simp] theorem State.withCfg_msu (s : State) (f : Settings → Settings) : (s.withCfg f).msu = s.msu := rfl
@[simp] theorem State.withCfg_cap (s : State) (f : Settings → Settings) : (s.withCfg f).cap = s.cap := rfl
@[simp] theorem State.withCfg_lkc (s : State) (f : Settings → Settings) : (s.withCfg f).lkc = s.lkc := rfl
@[simp] theorem State.withCfg_pim (s : State) (f : Settings → Settings) : (s.withCfg f).pim = s.pim := rfl
@[simp] theorem State.withCfg_top (s : State) (f : Settings → Settings) : (s.withCfg f).top = s.top := rfl
@[simp] theorem State.withCfg_pru (s : State) (f : Settings → Settings) : (s.withCfg f).pru = s.pru := rfl
@[simp] theorem State.withCfg_dbu (s : State) (f : Settings → Settings) : (s.withCfg f).dbu = s.dbu := rfl
@[simp] theorem State.withCfg_bcu (s : State) (f : Settings → Settings) : (s.withCfg f).bcu = s.bcu := rfl
@[simp] theorem State.withCfg_clu (s : State) (f : Settings → Settings) : (s.withCfg f).clu = s.clu := rfl
@[simp] theorem State.withCfg_syu (s : State) (f : Settings → Settings) : (s.withCfg f).syu = s.syu := rfl
@[simp] theorem State.withCfg_gcu (s : State) (f : Settings → Settings) : (s.withCfg f).gcu = s.gcu := rfl
@[simp] theorem State.withCfg_fcu (s : State) (f : Settings → Settings) : (s.withCfg f).fcu = s.fcu := rfl
@[simp] theorem State.withCfg_tru (s : State) (f : Settings → Settings) : (s.withCfg f).tru = s.tru := rfl
@[simp] theorem State.withCfg_cfp (s : State) (f : Settings → Settings) : (s.withCfg f).cfp = s.cfp := rfl
@[simp] theorem State.withCfg_pending (s : State) (f : Settings → Settings) : (s.withCfg f).pending = s.pending := rfl

/-! ### withCvp -/

@[simp] theorem State.withCvp_cfg (s : State) (f : Cvp → Cvp) : (s.withCvp f).cfg = s.cfg := rfl
@[simp] theorem State.withCvp_cvp (s : State) (f : Cvp → Cvp) : (s.withCvp f).cvp = f s.cvp := rfl
@[simp] theorem State.withCvp_msu (s : State) (f : Cvp → Cvp) : (s.withCvp f).msu = s.msu := rfl
@[simp] theorem State.withCvp_cap (s : State) (f : Cvp → Cvp) : (s.withCvp f).cap = s.cap := rfl
@[simp] theorem State.withCvp_lkc (s : State) (f : Cvp → Cvp) : (s.withCvp f).lkc = s.lkc := rfl
@[simp] theorem State.withCvp_pim (s : State) (f : Cvp → Cvp) : (s.withCvp f).pim = s.pim := rfl
@[simp] theorem State.withCvp_top (s : State) (f : Cvp → Cvp) : (s.withCvp f).top = s.top := rfl
@[simp] theorem State.withCvp_pru (s : State) (f : Cvp → Cvp) : (s.withCvp f).pru = s.pru := rfl
@[simp] theorem State.withCvp_dbu (s : State) (f : Cvp → Cvp) : (s.withCvp f).dbu = s.dbu := rfl
@[simp] theorem State.withCvp_bcu (s : State) (f : Cvp → Cvp) : (s.withCvp f).bcu = s.bcu := rfl
@[simp] theorem State.withCvp_clu (s : State) (f : Cvp → Cvp) : (s.withCvp f).clu = s.clu := rfl
@[simp] theorem State.withCvp_syu (s : State) (f : Cvp → Cvp) : (s.withCvp f).syu = s.syu := rfl
@[simp] theorem State.withCvp_gcu (s : State) (f : Cvp → Cvp) : (s.withCvp f).gcu = s.gcu := rfl
@[simp] theorem State.withCvp_fcu (s : State) (f : Cvp → Cvp) : (s.withCvp f).fcu = s.fcu := rfl
@[simp] theorem State.withCvp_tru (s : State) (f : Cvp → Cvp) : (s.withCvp f).tru = s.tru := rfl
@[simp] theorem State.withCvp_cfp (s : State) (f : Cvp → Cvp) : (s.withCvp f).cfp = s.cfp := rfl
@[simp] theorem State.withCvp_pending (s : State) (f : Cvp → Cvp) : (s.withCvp f).pending = s.pending := rfl

/-! ### withMsu -/

@[simp] theorem State.withMsu_cfg (s : State) (f : Msu → Msu) : (s.withMsu f).cfg = s.cfg := rfl
@[simp] theorem State.withMsu_cvp (s : State) (f : Msu → Msu) : (s.withMsu f).cvp = s.cvp := rfl
@[simp] theorem State.withMsu_msu (s : State) (f : Msu → Msu) : (s.withMsu f).msu = f s.msu := rfl
@[simp] theorem State.withMsu_cap (s : State) (f : Msu → Msu) : (s.withMsu f).cap = s.cap := rfl
@[simp] theorem State.withMsu_lkc (s : State) (f : Msu → Msu) : (s.withMsu f).lkc = s.lkc := rfl
@[simp] theorem State.withMsu_pim (s : State) (f : Msu → Msu) : (s.withMsu f).pim = s.pim := rfl
@[simp] theorem State.withMsu_top (s : State) (f : Msu → Msu) : (s.withMsu f).top = s.top := rfl
@[simp] theorem State.withMsu_pru (s : State) (f : Msu → Msu) : (s.withMsu f).pru = s.pru := rfl
@[simp] theorem State.withMsu_dbu (s : State) (f : Msu → Msu) : (s.withMsu f).dbu = s.dbu := rfl
@[simp] theorem State.withMsu_bcu (s : State) (f : Msu → Msu) : (s.withMsu f).bcu = s.bcu := rfl
@[simp] theorem State.withMsu_clu (s : State) (f : Msu → Msu) : (s.withMsu f).clu = s.clu := rfl
@[simp] theorem State.withMsu_syu (s : State) (f : Msu → Msu) : (s.withMsu f).syu = s.syu := rfl
@[simp] theorem State.withMsu_gcu (s : State) (f : Msu → Msu) : (s.withMsu f).gcu = s.gcu := rfl
@[simp] theorem State.withMsu_fcu (s : State) (f : Msu → Msu) : (s.withMsu f).fcu = s.fcu := rfl
@[simp] theorem State.withMsu_tru (s : State) (f : Msu → Msu) : (s.withMsu f).tru = s.tru := rfl
@[simp] theorem State.withMsu_cfp (s : State) (f : Msu → Msu) : (s.withMsu f).cfp = s.cfp := rfl
@[simp] theorem State.withMsu_pending (s : State) (f : Msu → Msu) : (s.withMsu f).pending = s.pending := rfl

/-! ### withCap -/

@[simp] theorem State.withCap_cfg (s : State) (f : Cap → Cap) : (s.withCap f).cfg = s.cfg := rfl
@[simp] theorem State.withCap_cvp (s : State) (f : Cap → Cap) : (s.withCap f).cvp = s.cvp := rfl
@[simp] theorem State.withCap_msu (s : State) (f : Cap → Cap) : (s.withCap f).msu = s.msu := rfl
@[simp] theorem State.withCap_cap (s : State) (f : Cap → Cap) : (s.withCap f).cap = f s.cap := rfl
@[simp] theorem State.withCap_lkc (s : State) (f : Cap → Cap) : (s.withCap f).lkc = s.lkc := rfl
@[simp] theorem State.withCap_pim (s : State) (f : Cap → Cap) : (s.withCap f).pim = s.pim := rfl
@[simp] theorem State.withCap_top (s : State) (f : Cap → Cap) : (s.withCap f).top = s.top := rfl
@[simp] theorem State.withCap_pru (s : State) (f : Cap → Cap) : (s.withCap f).pru = s.pru := rfl
@[simp] theorem State.withCap_dbu (s : State) (f : Cap → Cap) : (s.withCap f).dbu = s.dbu := rfl
@[simp] theorem State.withCap_bcu (s : State) (f : Cap → Cap) : (s.withCap f).bcu = s.bcu := rfl
@[simp] theorem State.withCap_clu (s : State) (f : Cap → Cap) : (s.withCap f).clu = s.clu := rfl
@[simp] theorem State.withCap_syu (s : State) (f : Cap → Cap) : (s.withCap f).syu = s.syu := rfl
@[simp] theorem State.withCap_gcu (s : State) (f : Cap → Cap) : (s.withCap f).gcu = s.gcu := rfl
@[simp] theorem State.withCap_fcu (s : State) (f : Cap → Cap) : (s.withCap f).fcu = s.fcu := rfl
@[simp] theorem State.withCap_tru (s : State) (f : Cap → Cap) : (s.withCap f).tru = s.tru := rfl
@[simp] theorem State.withCap_cfp (s : State) (f : Cap → Cap) : (s.withCap f).cfp = s.cfp := rfl
@[simp] theorem State.withCap_pending (s : State) (f : Cap → Cap) : (s.withCap f).pending = s.pending := rfl

/-! ### withLkc -/

@[simp] theorem State.withLkc_cfg (s : State) (f : Lkc → Lkc) : (s.withLkc f).cfg = s.cfg := rfl
@[simp] theorem State.withLkc_cvp (s : State) (f : Lkc → Lkc) : (s.withLkc f).cvp = s.cvp := rfl
@[simp] theorem State.withLkc_msu (s : State) (f : Lkc → Lkc) : (s.withLkc f).msu = s.msu := rfl
@[simp] theorem State.withLkc_cap (s : State) (f : Lkc → Lkc) : (s.withLkc f).cap = s.cap := rfl
@[simp] theorem State.withLkc_lkc (s : State) (f : Lkc → Lkc) : (s.withLkc f).lkc = f s.lkc := rfl
@[simp] theorem State.withLkc_pim (s : State) (f : Lkc → Lkc) : (s.withLkc f).pim = s.pim := rfl
@[simp] theorem State.withLkc_top (s : State) (f : Lkc → Lkc) : (s.withLkc f).top = s.top := rfl
@[simp] theorem State.withLkc_pru (s : State) (f : Lkc → Lkc) : (s.withLkc f).pru = s.pru := rfl
@[simp] theorem State.withLkc_dbu (s : State) (f : Lkc → Lkc) : (s.withLkc f).dbu = s.dbu := rfl
@[simp] theorem State.withLkc_bcu (s : State) (f : Lkc → Lkc) : (s.withLkc f).bcu = s.bcu := rfl
@[simp] theorem State.withLkc_clu (s : State) (f : Lkc → Lkc) : (s.withLkc f).clu = s.clu := rfl
@[simp] theorem State.withLkc_syu (s : State) (f : Lkc → Lkc) : (s.withLkc f).syu = s.syu := rfl
@[simp] theorem State.withLkc_gcu (s : State) (f : Lkc → Lkc) : (s.withLkc f).gcu = s.gcu := rfl
@[simp] theorem State.withLkc_fcu (s : State) (f : Lkc → Lkc) : (s.withLkc f).fcu = s.fcu := rfl
@[simp] theorem State.withLkc_tru (s : State) (f : Lkc → Lkc) : (s.withLkc f).tru = s.tru := rfl
@[simp] theorem State.withLkc_cfp (s : State) (f : Lkc → Lkc) : (s.withLkc f).cfp = s.cfp := rfl
@[simp] theorem State.withLkc_pending (s : State) (f : Lkc → Lkc) : (s.withLkc f).pending = s.pending := rfl

/-! ### withTop -/

@[simp] theorem State.withTop_cfg (s : State) (f : Topology → Topology) : (s.withTop f).cfg = s.cfg := rfl
@[simp] theorem State.withTop_cvp (s : State) (f : Topology → Topology) : (s.withTop f).cvp = s.cvp := rfl
@[simp] theorem State.withTop_msu (s : State) (f : Topology → Topology) : (s.withTop f).msu = s.msu := rfl
@[simp] theorem State.withTop_cap (s : State) (f : Topology → Topology) : (s.withTop f).cap = s.cap := rfl
@[simp] theorem State.withTop_lkc (s : State) (f : Topology → Topology) : (s.withTop f).lkc = s.lkc := rfl
@[simp] theorem State.withTop_pim (s : State) (f : Topology → Topology) : (s.withTop f).pim = s.pim := rfl
@[simp] theorem State.withTop_top (s : State) (f : Topology → Topology) : (s.withTop f).top = f s.top := rfl
@[simp] theorem State.withTop_pru (s : State) (f : Topology → Topology) : (s.withTop f).pru = s.pru := rfl
@[simp] theorem State.withTop_dbu (s : State) (f : Topology → Topology) : (s.withTop f).dbu = s.dbu := rfl
@[simp] theorem State.withTop_bcu (s : State) (f : Topology → Topology) : (s.withTop f).bcu = s.bcu := rfl
@[simp] theorem State.withTop_clu (s : State) (f : Topology → Topology) : (s.withTop f).clu = s.clu := rfl
@[simp] theorem State.withTop_syu (s : State) (f : Topology → Topology) : (s.withTop f).syu = s.syu := rfl
@[simp] theorem State.withTop_gcu (s : State) (f : Topology → Topology) : (s.withTop f).gcu = s.gcu := rfl
@[simp] theorem State.withTop_fcu (s : State) (f : Topology → Topology) : (s.withTop f).fcu = s.fcu := rfl
@[simp] theorem State.withTop_tru (s : State) (f : Topology → Topology) : (s.withTop f).tru = s.tru := rfl
@[simp] theorem State.withTop_cfp (s : State) (f : Topology → Topology) : (s.withTop f).cfp = s.cfp := rfl
@[simp] theorem State.withTop_pending (s : State) (f : Topology → Topology) : (s.withTop f).pending = s.pending := rfl

/-! ### withPru -/

@[simp] theorem State.withPru_cfg (s : State) (f : Pru → Pru) : (s.withPru f).cfg = s.cfg := rfl
@[simp] theorem State.withPru_cvp (s : State) (f : Pru → Pru) : (s.withPru f).cvp = s.cvp := rfl
@[simp] theorem State.withPru_msu (s : State) (f : Pru → Pru) : (s.withPru f).msu = s.msu := rfl
@[simp] theorem State.withPru_cap (s : State) (f : Pru → Pru) : (s.withPru f).cap = s.cap := rfl
@[simp] theorem State.withPru_lkc (s : State) (f : Pru → Pru) : (s.withPru f).lkc = s.lkc := rfl
@[simp] theorem State.withPru_pim (s : State) (f : Pru → Pru) : (s.withPru f).pim = s.pim := rfl
@[simp] theorem State.withPru_top (s : State) (f : Pru → Pru) : (s.withPru f).top = s.top := rfl
@[simp] theorem State.withPru_pru (s : State) (f : Pru → Pru) : (s.withPru f).pru = f s.pru := rfl
@[simp] theorem State.withPru_dbu (s : State) (f : Pru → Pru) : (s.withPru f).dbu = s.dbu := rfl
@[simp] theorem State.withPru_bcu (s : State) (f : Pru → Pru) : (s.withPru f).bcu = s.bcu := rfl
@[simp] theorem State.withPru_clu (s : State) (f : Pru → Pru) : (s.withPru f).clu = s.clu := rfl
@[simp] theorem State.withPru_syu (s : State) (f : Pru → Pru) : (s.withPru f).syu = s.syu := rfl
@[simp] theorem State.withPru_gcu (s : State) (f : Pru → Pru) : (s.withPru f).gcu = s.gcu := rfl
@[simp] theorem State.withPru_fcu (s : State) (f : Pru → Pru) : (s.withPru f).fcu = s.fcu := rfl
@[simp] theorem State.withPru_tru (s : State) (f : Pru → Pru) : (s.withPru f).tru = s.tru := rfl
@[simp] theorem State.withPru_cfp (s : State) (f : Pru → Pru) : (s.withPru f).cfp = s.cfp := rfl
@[simp] theorem State.withPru_pending (s : State) (f : Pru → Pru) : (s.withPru f).pending = s.pending := rfl

/-! ### withDbu -/

@[simp] theorem State.withDbu_cfg (s : State) (f : Dbu → Dbu) : (s.withDbu f).cfg = s.cfg := rfl
@[simp] theorem State.withDbu_cvp (s : State) (f : Dbu → Dbu) : (s.withDbu f).cvp = s.cvp := rfl
@[simp] theorem State.withDbu_msu (s : State) (f : Dbu → Dbu) : (s.withDbu f).msu = s.msu := rfl
@[simp] theorem State.withDbu_cap (s : State) (f : Dbu → Dbu) : (s.withDbu f).cap = s.cap := rfl
@[simp] theorem State.withDbu_lkc (s : State) (f : Dbu → Dbu) : (s.withDbu f).lkc = s.lkc := rfl
@[simp] theorem State.withDbu_pim (s : State) (f : Dbu → Dbu) : (s.withDbu f).pim = s.pim := rfl
@[simp] theorem State.withDbu_top (s : State) (f : Dbu → Dbu) : (s.withDbu f).top = s.top := rfl
@[simp] theorem State.withDbu_pru (s : State) (f : Dbu → Dbu) : (s.withDbu f).pru = s.pru := rfl
@[simp] theorem State.withDbu_dbu (s : State) (f : Dbu → Dbu) : (s.withDbu f).dbu = f s.dbu := rfl
@[simp] theorem State.withDbu_bcu (s : State) (f : Dbu → Dbu) : (s.withDbu f).bcu = s.bcu := rfl
@[simp] theorem State.withDbu_clu (s : State) (f : Dbu → Dbu) : (s.withDbu f).clu = s.clu := rfl
@[simp] theorem State.withDbu_syu (s : State) (f : Dbu → Dbu) : (s.withDbu f).syu = s.syu := rfl
@[simp] theorem State.withDbu_gcu (s : State) (f : Dbu → Dbu) : (s.withDbu f).gcu = s.gcu := rfl
@[simp] theorem State.withDbu_fcu (s : State) (f : Dbu → Dbu) : (s.withDbu f).fcu = s.fcu := rfl
@[simp] theorem State.withDbu_tru (s : State) (f : Dbu → Dbu) : (s.withDbu f).tru = s.tru := rfl
@[simp] theorem State.withDbu_cfp (s : State) (f : Dbu → Dbu) : (s.withDbu f).cfp = s.cfp := rfl
@[simp] theorem State.withDbu_pending (s : State) (f : Dbu → Dbu) : (s.withDbu f).pending = s.pending := rfl

/-! ### withBcu -/

@[simp] theorem State.withBcu_cfg (s : State) (f : Bcu → Bcu) : (s.withBcu f).cfg = s.cfg := rfl
@[simp] theorem State.withBcu_cvp (s : State) (f : Bcu → Bcu) : (s.withBcu f).cvp = s.cvp := rfl
@[simp] theorem State.withBcu_msu (s : State) (f : Bcu → Bcu) : (s.withBcu f).msu = s.msu := rfl
@[simp] theorem State.withBcu_cap (s : State) (f : Bcu → Bcu) : (s.withBcu f).cap = s.cap := rfl
@[simp] theorem State.withBcu_lkc (s : State) (f : Bcu → Bcu) : (s.withBcu f).lkc = s.lkc := rfl
@[simp] theorem State.withBcu_pim (s : State) (f : Bcu → Bcu) : (s.withBcu f).pim = s.pim := rfl
@[simp] theorem State.withBcu_top (s : State) (f : Bcu → Bcu) : (s.withBcu f).top = s.top := rfl
@[simp] theorem State.withBcu_pru (s : State) (f : Bcu → Bcu) : (s.withBcu f).pru = s.pru := rfl
@[simp] theorem State.withBcu_dbu (s : State) (f : Bcu → Bcu) : (s.withBcu f).dbu = s.dbu := rfl
@[simp] theorem State.withBcu_bcu (s : State) (f : Bcu → Bcu) : (s.withBcu f).bcu = f s.bcu := rfl
@[simp] theorem State.withBcu_clu (s : State) (f : Bcu → Bcu) : (s.withBcu f).clu = s.clu := rfl
@[simp] theorem State.withBcu_syu (s : State) (f : Bcu → Bcu) : (s.withBcu f).syu = s.syu := rfl
@[simp] theorem State.withBcu_gcu (s : State) (f : Bcu → Bcu) : (s.withBcu f).gcu = s.gcu := rfl
@[simp] theorem State.withBcu_fcu (s : State) (f : Bcu → Bcu) : (s.withBcu f).fcu = s.fcu := rfl
@[simp] theorem State.withBcu_tru (s : State) (f : Bcu → Bcu) : (s.withBcu f).tru = s.tru := rfl
@[simp] theorem State.withBcu_cfp (s : State) (f : Bcu → Bcu) : (s.withBcu f).cfp = s.cfp := rfl
@[simp] theorem State.withBcu_pending (s : State) (f : Bcu → Bcu) : (s.withBcu f).pending = s.pending := rfl

/-! ### withClu -/

@[simp] theorem State.withClu_cfg (s : State) (f : Clu → Clu) : (s.withClu f).cfg = s.cfg := rfl
@[simp] theorem State.withClu_cvp (s : State) (f : Clu → Clu) : (s.withClu f).cvp = s.cvp := rfl
@[simp] theorem State.withClu_msu (s : State) (f : Clu → Clu) : (s.withClu f).msu = s.msu := rfl
@[simp] theorem State.withClu_cap (s : State) (f : Clu → Clu) : (s.withClu f).cap = s.cap := rfl
@[simp] theorem State.withClu_lkc (s : State) (f : Clu → Clu) : (s.withClu f).lkc = s.lkc := rfl
@[simp] theorem State.withClu_pim (s : State) (f : Clu → Clu) : (s.withClu f).pim = s.pim := rfl
@[simp] theorem State.withClu_top (s : State) (f : Clu → Clu) : (s.withClu f).top = s.top := rfl
@[simp] theorem State.withClu_pru (s : State) (f : Clu → Clu) : (s.withClu f).pru = s.pru := rfl
@[simp] theorem State.withClu_dbu (s : State) (f : Clu → Clu) : (s.withClu f).dbu = s.dbu := rfl
@[simp] theorem State.withClu_bcu (s : State) (f : Clu → Clu) : (s.withClu f).bcu = s.bcu := rfl
@[simp] theorem State.withClu_clu (s : State) (f : Clu → Clu) : (s.withClu f).clu = f s.clu := rfl
@[simp] theorem State.withClu_syu (s : State) (f : Clu → Clu) : (s.withClu f).syu = s.syu := rfl
@[simp] theorem State.withClu_gcu (s : State) (f : Clu → Clu) : (s.withClu f).gcu = s.gcu := rfl
@[simp] theorem State.withClu_fcu (s : State) (f : Clu → Clu) : (s.withClu f).fcu = s.fcu := rfl
@[simp] theorem State.withClu_tru (s : State) (f : Clu → Clu) : (s.withClu f).tru = s.tru := rfl
@[simp] theorem State.withClu_cfp (s : State) (f : Clu → Clu) : (s.withClu f).cfp = s.cfp := rfl
@[simp] theorem State.withClu_pending (s : State) (f : Clu → Clu) : (s.withClu f).pending = s.pending := rfl

/-! ### withSyu -/

@[simp] theorem State.withSyu_cfg (s : State) (f : Syu → Syu) : (s.withSyu f).cfg = s.cfg := rfl
@[simp] theorem State.withSyu_cvp (s : State) (f : Syu → Syu) : (s.withSyu f).cvp = s.cvp := rfl
@[simp] theorem State.withSyu_msu (s : State) (f : Syu → Syu) : (s.withSyu f).msu = s.msu := rfl
@[simp] theorem State.withSyu_cap (s : State) (f : Syu → Syu) : (s.withSyu f).cap = s.cap := rfl
@[simp] theorem State.withSyu_lkc (s : State) (f : Syu → Syu) : (s.withSyu f).lkc = s.lkc := rfl
@[simp] theorem State.withSyu_pim (s : State) (f : Syu → Syu) : (s.withSyu f).pim = s.pim := rfl
@[simp] theorem State.withSyu_top (s : State) (f : Syu → Syu) : (s.withSyu f).top = s.top := rfl
@[simp] theorem State.withSyu_pru (s : State) (f : Syu → Syu) : (s.withSyu f).pru = s.pru := rfl
@[simp] theorem State.withSyu_dbu (s : State) (f : Syu → Syu) : (s.withSyu f).dbu = s.dbu := rfl
@[simp] theorem State.withSyu_bcu (s : State) (f : Syu → Syu) : (s.withSyu f).bcu = s.bcu := rfl
@[simp] theorem State.withSyu_clu (s : State) (f : Syu → Syu) : (s.withSyu f).clu = s.clu := rfl
@[simp] theorem State.withSyu_syu (s : State) (f : Syu → Syu) : (s.withSyu f).syu = f s.syu := rfl
@[simp] theorem State.withSyu_gcu (s : State) (f : Syu → Syu) : (s.withSyu f).gcu = s.gcu := rfl
@[simp] theorem State.withSyu_fcu (s : State) (f : Syu → Syu) : (s.withSyu f).fcu = s.fcu := rfl
@[simp] theorem State.withSyu_tru (s : State) (f : Syu → Syu) : (s.withSyu f).tru = s.tru := rfl
@[simp] theorem State.withSyu_cfp (s : State) (f : Syu → Syu) : (s.withSyu f).cfp = s.cfp := rfl
@[simp] theorem State.withSyu_pending (s : State) (f : Syu → Syu) : (s.withSyu f).pending = s.pending := rfl

/-! ### withGcu -/

@[simp] theorem State.withGcu_cfg (s : State) (f : Gcu → Gcu) : (s.withGcu f).cfg = s.cfg := rfl
@[simp] theorem State.withGcu_cvp (s : State) (f : Gcu → Gcu) : (s.withGcu f).cvp = s.cvp := rfl
@[simp] theorem State.withGcu_msu (s : State) (f : Gcu → Gcu) : (s.withGcu f).msu = s.msu := rfl
@[simp] theorem State.withGcu_cap (s : State) (f : Gcu → Gcu) : (s.withGcu f).cap = s.cap := rfl
@[simp] theorem State.withGcu_lkc (s : State) (f : Gcu → Gcu) : (s.withGcu f).lkc = s.lkc := rfl
@[simp] theorem State.withGcu_pim (s : State) (f : Gcu → Gcu) : (s.withGcu f).pim = s.pim := rfl
@[simp] theorem State.withGcu_top (s : State) (f : Gcu → Gcu) : (s.withGcu f).top = s.top := rfl
@[simp] theorem State.withGcu_pru (s : State) (f : Gcu → Gcu) : (s.withGcu f).pru = s.pru := rfl
@[simp] theorem State.withGcu_dbu (s : State) (f : Gcu → Gcu) : (s.withGcu f).dbu = s.dbu := rfl
@[simp] theorem State.withGcu_bcu (s : State) (f : Gcu → Gcu) : (s.withGcu f).bcu = s.bcu := rfl
@[simp] theorem State.withGcu_clu (s : State) (f : Gcu → Gcu) : (s.withGcu f).clu = s.clu := rfl
@[simp] theorem State.withGcu_syu (s : State) (f : Gcu → Gcu) : (s.withGcu f).syu = s.syu := rfl
@[simp] theorem State.withGcu_gcu (s : State) (f : Gcu → Gcu) : (s.withGcu f).gcu = f s.gcu := rfl
@[simp] theorem State.withGcu_fcu (s : State) (f : Gcu → Gcu) : (s.withGcu f).fcu = s.fcu := rfl
@[simp] theorem State.withGcu_tru (s : State) (f : Gcu → Gcu) : (s.withGcu f).tru = s.tru := rfl
@[simp] theorem State.withGcu_cfp (s : State) (f : Gcu → Gcu) : (s.withGcu f).cfp = s.cfp := rfl
@[simp] theorem State.withGcu_pending (s : State) (f : Gcu → Gcu) : (s.withGcu f).pending = s.pending := rfl

/-! ### withFcu -/

@[simp] theorem State.withFcu_cfg (s : State) (f : Fcu → Fcu) : (s.withFcu f).cfg = s.cfg := rfl
@[simp] theorem State.withFcu_cvp (s : State) (f : Fcu → Fcu) : (s.withFcu f).cvp = s.cvp := rfl
@[simp] theorem State.withFcu_msu (s : State) (f : Fcu → Fcu) : (s.withFcu f).msu = s.msu := rfl
@[simp] theorem State.withFcu_cap (s : State) (f : Fcu → Fcu) : (s.withFcu f).cap = s.cap := rfl
@[simp] theorem State.withFcu_lkc (s : State) (f : Fcu → Fcu) : (s.withFcu f).lkc = s.lkc := rfl
@[simp] theorem State.withFcu_pim (s : State) (f : Fcu → Fcu) : (s.withFcu f).pim = s.pim := rfl
@[simp] theorem State.withFcu_top (s : State) (f : Fcu → Fcu) : (s.withFcu f).top = s.top := rfl
@[simp] theorem State.withFcu_pru (s : State) (f : Fcu → Fcu) : (s.withFcu f).pru = s.pru := rfl
@[simp] theorem State.withFcu_dbu (s : State) (f : Fcu → Fcu) : (s.withFcu f).dbu = s.dbu := rfl
@[simp] theorem State.withFcu_bcu (s : State) (f : Fcu → Fcu) : (s.withFcu f).bcu = s.bcu := rfl
@[simp] theorem State.withFcu_clu (s : State) (f : Fcu → Fcu) : (s.withFcu f).clu = s.clu := rfl
@[simp] theorem State.withFcu_syu (s : State) (f : Fcu → Fcu) : (s.withFcu f).syu = s.syu := rfl
@[simp] theorem State.withFcu_gcu (s : State) (f : Fcu → Fcu) : (s.withFcu f).gcu = s.gcu := rfl
@[simp] theorem State.withFcu_fcu (s : State) (f : Fcu → Fcu) : (s.withFcu f).fcu = f s.fcu := rfl
@[simp] theorem State.withFcu_tru (s : State) (f : Fcu → Fcu) : (s.withFcu f).tru = s.tru := rfl
@[simp] theorem State.withFcu_cfp (s : State) (f : Fcu → Fcu) : (s.withFcu f).cfp = s.cfp := rfl
@[simp] theorem State.withFcu_pending (s : State) (f : Fcu → Fcu) : (s.withFcu f).pending = s.pending := rfl

/-! ### withTru -/

@[simp] theorem State.withTru_cfg (s : State) (f : Tru → Tru) : (s.withTru f).cfg = s.cfg := rfl
@[simp] theorem State.withTru_cvp (s : State) (f : Tru → Tru) : (s.withTru f).cvp = s.cvp := rfl
@[simp] theorem State.withTru_msu (s : State) (f : Tru → Tru) : (s.withTru f).msu = s.msu := rfl
@[simp] theorem State.withTru_cap (s : State) (f : Tru → Tru) : (s.withTru f).cap = s.cap := rfl
@[simp] theorem State.withTru_lkc (s : State) (f : Tru → Tru) : (s.withTru f).lkc = s.lkc := rfl
@[simp] theorem State.withTru_pim (s : State) (f : Tru → Tru) : (s.withTru f).pim = s.pim := rfl
@[simp] theorem State.withTru_top (s : State) (f : Tru → Tru) : (s.withTru f).top = s.top := rfl
@[simp] theorem State.withTru_pru (s : State) (f : Tru → Tru) : (s.withTru f).pru = s.pru := rfl
@[simp] theorem State.withTru_dbu (s : State) (f : Tru → Tru) : (s.withTru f).dbu = s.dbu := rfl
@[simp] theorem State.withTru_bcu (s : State) (f : Tru → Tru) : (s.withTru f).bcu = s.bcu := rfl
@[simp] theorem State.withTru_clu (s : State) (f : Tru → Tru) : (s.withTru f).clu = s.clu := rfl
@[simp] theorem State.withTru_syu (s : State) (f : Tru → Tru) : (s.withTru f).syu = s.syu := rfl
@[simp] theorem State.withTru_gcu (s : State) (f : Tru → Tru) : (s.withTru f).gcu = s.gcu := rfl
@[simp] theorem State.withTru_fcu (s : State) (f : Tru → Tru) : (s.withTru f).fcu = s.fcu := rfl
@[simp] theorem State.withTru_tru (s : State) (f : Tru → Tru) : (s.withTru f).tru = f s.tru := rfl
@[simp] theorem State.withTru_cfp (s : State) (f : Tru → Tru) : (s.withTru f).cfp = s.cfp := rfl
@[simp] theorem State.withTru_pending (s : State) (f : Tru → Tru) : (s.withTru f).pending = s.pending := rfl

/-! ### withCfp -/

@[simp] theorem State.withCfp_cfg (s : State) (f : Cfp → Cfp) : (s.withCfp f).cfg = s.cfg := rfl
@[simp] theorem State.withCfp_cvp (s : State) (f : Cfp → Cfp) : (s.withCfp f).cvp = s.cvp := rfl
@[simp] theorem State.withCfp_msu (s : State) (f : Cfp → Cfp) : (s.withCfp f).msu = s.msu := rfl
@[simp] theorem State.withCfp_cap (s : State) (f : Cfp → Cfp) : (s.withCfp f).cap = s.cap := rfl
@[simp] theorem State.withCfp_lkc (s : State) (f : Cfp → Cfp) : (s.withCfp f).lkc = s.lkc := rfl
@[simp] theorem State.withCfp_pim (s : State) (f : Cfp → Cfp) : (s.withCfp f).pim = s.pim := rfl
@[simp] theorem State.withCfp_top (s : State) (f : Cfp → Cfp) : (s.withCfp f).top = s.top := rfl
@[simp] theorem State.withCfp_pru (s : State) (f : Cfp → Cfp) : (s.withCfp f).pru = s.pru := rfl
@[simp] theorem State.withCfp_dbu (s : State) (f : Cfp → Cfp) : (s.withCfp f).dbu = s.dbu := rfl
@[simp] theorem State.withCfp_bcu (s : State) (f : Cfp → Cfp) : (s.withCfp f).bcu = s.bcu := rfl
@[simp] theorem State.withCfp_clu (s : State) (f : Cfp → Cfp) : (s.withCfp f).clu = s.clu := rfl
@[simp] theorem State.withCfp_syu (s : State) (f : Cfp → Cfp) : (s.withCfp f).syu = s.syu := rfl
@[simp] theorem State.withCfp_gcu (s : State) (f : Cfp → Cfp) : (s.withCfp f).gcu = s.gcu := rfl
@[simp] theorem State.withCfp_fcu (s : State) (f : Cfp → Cfp) : (s.withCfp f).fcu = s.fcu := rfl
@[simp] theorem State.withCfp_tru (s : State) (f : Cfp → Cfp) : (s.withCfp f).tru = s.tru := rfl
@[simp] theorem State.withCfp_cfp (s : State) (f : Cfp → Cfp) : (s.withCfp f).cfp = f s.cfp := rfl
@[simp] theorem State.withCfp_pending (s : State) (f : Cfp → Cfp) : (s.withCfp f).pending = s.pending := rfl

/-! ### withEntry -/

@[simp] theorem State.withEntry_cfg (s : State) (k : Station) (f : Entry → Entry) :
    (s.withEntry k f).cfg = s.cfg := rfl
@[simp] theorem State.withEntry_cvp (s : State) (k : Station) (f : Entry → Entry) :
    (s.withEntry k f).cvp = s.cvp := rfl
@[simp] theorem State.withEntry_msu (s : State) (k : Station) (f : Entry → Entry) :
    (s.withEntry k f).msu = s.msu := rfl
@[simp] theorem State.withEntry_cap (s : State) (k : Station) (f : Entry → Entry) :
    (s.withEntry k f).cap = s.cap := rfl
@[simp] theorem State.withEntry_lkc (s : State) (k : Station) (f : Entry → Entry) :
    (s.withEntry k f).lkc = s.lkc := rfl
@[simp] theorem State.withEntry_pim (s : State) (k : Station) (f : Entry → Entry) :
    (s.withEntry k f).pim = s.pim.set k.val (f (s.pim.get k)) k.isLt := rfl
@[simp] theorem State.withEntry_top (s : State) (k : Station) (f : Entry → Entry) :
    (s.withEntry k f).top = s.top := rfl
@[simp] theorem State.withEntry_pru (s : State) (k : Station) (f : Entry → Entry) :
    (s.withEntry k f).pru = s.pru := rfl
@[simp] theorem State.withEntry_dbu (s : State) (k : Station) (f : Entry → Entry) :
    (s.withEntry k f).dbu = s.dbu := rfl
@[simp] theorem State.withEntry_bcu (s : State) (k : Station) (f : Entry → Entry) :
    (s.withEntry k f).bcu = s.bcu := rfl
@[simp] theorem State.withEntry_clu (s : State) (k : Station) (f : Entry → Entry) :
    (s.withEntry k f).clu = s.clu := rfl
@[simp] theorem State.withEntry_syu (s : State) (k : Station) (f : Entry → Entry) :
    (s.withEntry k f).syu = s.syu := rfl
@[simp] theorem State.withEntry_gcu (s : State) (k : Station) (f : Entry → Entry) :
    (s.withEntry k f).gcu = s.gcu := rfl
@[simp] theorem State.withEntry_fcu (s : State) (k : Station) (f : Entry → Entry) :
    (s.withEntry k f).fcu = s.fcu := rfl
@[simp] theorem State.withEntry_tru (s : State) (k : Station) (f : Entry → Entry) :
    (s.withEntry k f).tru = s.tru := rfl
@[simp] theorem State.withEntry_cfp (s : State) (k : Station) (f : Entry → Entry) :
    (s.withEntry k f).cfp = s.cfp := rfl
@[simp] theorem State.withEntry_pending (s : State) (k : Station) (f : Entry → Entry) :
    (s.withEntry k f).pending = s.pending := rfl

/-! ### withPending -/

@[simp] theorem State.withPending_cfg (s : State) (q : List Instr) : (s.withPending q).cfg = s.cfg := rfl
@[simp] theorem State.withPending_cvp (s : State) (q : List Instr) : (s.withPending q).cvp = s.cvp := rfl
@[simp] theorem State.withPending_msu (s : State) (q : List Instr) : (s.withPending q).msu = s.msu := rfl
@[simp] theorem State.withPending_cap (s : State) (q : List Instr) : (s.withPending q).cap = s.cap := rfl
@[simp] theorem State.withPending_lkc (s : State) (q : List Instr) : (s.withPending q).lkc = s.lkc := rfl
@[simp] theorem State.withPending_pim (s : State) (q : List Instr) : (s.withPending q).pim = s.pim := rfl
@[simp] theorem State.withPending_top (s : State) (q : List Instr) : (s.withPending q).top = s.top := rfl
@[simp] theorem State.withPending_pru (s : State) (q : List Instr) : (s.withPending q).pru = s.pru := rfl
@[simp] theorem State.withPending_dbu (s : State) (q : List Instr) : (s.withPending q).dbu = s.dbu := rfl
@[simp] theorem State.withPending_bcu (s : State) (q : List Instr) : (s.withPending q).bcu = s.bcu := rfl
@[simp] theorem State.withPending_clu (s : State) (q : List Instr) : (s.withPending q).clu = s.clu := rfl
@[simp] theorem State.withPending_syu (s : State) (q : List Instr) : (s.withPending q).syu = s.syu := rfl
@[simp] theorem State.withPending_gcu (s : State) (q : List Instr) : (s.withPending q).gcu = s.gcu := rfl
@[simp] theorem State.withPending_fcu (s : State) (q : List Instr) : (s.withPending q).fcu = s.fcu := rfl
@[simp] theorem State.withPending_tru (s : State) (q : List Instr) : (s.withPending q).tru = s.tru := rfl
@[simp] theorem State.withPending_cfp (s : State) (q : List Instr) : (s.withPending q).cfp = s.cfp := rfl
@[simp] theorem State.withPending_pending (s : State) (q : List Instr) : (s.withPending q).pending = q := rfl

/-! ### raise -/

/-- Raising a bit leaves it pending (R195). -/
@[simp] theorem State.raise_pendingBit (s : State) (b : Attention) : (s.raise b).pendingBit b = true := by
  have : b.position < 16 := by cases b <;> decide
  simp [State.pendingBit, State.raise, State.withCfp, Attention.word, this]

@[simp] theorem State.raise_cfg (s : State) (b : Attention) : (s.raise b).cfg = s.cfg := rfl
@[simp] theorem State.raise_cvp (s : State) (b : Attention) : (s.raise b).cvp = s.cvp := rfl
@[simp] theorem State.raise_msu (s : State) (b : Attention) : (s.raise b).msu = s.msu := rfl
@[simp] theorem State.raise_cap (s : State) (b : Attention) : (s.raise b).cap = s.cap := rfl
@[simp] theorem State.raise_lkc (s : State) (b : Attention) : (s.raise b).lkc = s.lkc := rfl
@[simp] theorem State.raise_pim (s : State) (b : Attention) : (s.raise b).pim = s.pim := rfl
@[simp] theorem State.raise_top (s : State) (b : Attention) : (s.raise b).top = s.top := rfl
@[simp] theorem State.raise_pru (s : State) (b : Attention) : (s.raise b).pru = s.pru := rfl
@[simp] theorem State.raise_dbu (s : State) (b : Attention) : (s.raise b).dbu = s.dbu := rfl
@[simp] theorem State.raise_bcu (s : State) (b : Attention) : (s.raise b).bcu = s.bcu := rfl
@[simp] theorem State.raise_clu (s : State) (b : Attention) : (s.raise b).clu = s.clu := rfl
@[simp] theorem State.raise_syu (s : State) (b : Attention) : (s.raise b).syu = s.syu := rfl
@[simp] theorem State.raise_gcu (s : State) (b : Attention) : (s.raise b).gcu = s.gcu := rfl
@[simp] theorem State.raise_fcu (s : State) (b : Attention) : (s.raise b).fcu = s.fcu := rfl
@[simp] theorem State.raise_tru (s : State) (b : Attention) : (s.raise b).tru = s.tru := rfl
@[simp] theorem State.raise_cfp (s : State) (b : Attention) : (s.raise b).cfp = { s.cfp with attention := s.cfp.attention ||| b.word } := rfl
@[simp] theorem State.raise_pending (s : State) (b : Attention) : (s.raise b).pending = s.pending := rfl

/-! ### answer -/

@[simp] theorem State.answer_cfg (s : State) (c : ResultCode) (n : Word) (k : Nat) :
    (s.answer c n k).cfg = s.cfg := rfl
@[simp] theorem State.answer_cvp (s : State) (c : ResultCode) (n : Word) (k : Nat) :
    (s.answer c n k).cvp = s.cvp := rfl
@[simp] theorem State.answer_msu (s : State) (c : ResultCode) (n : Word) (k : Nat) :
    (s.answer c n k).msu = s.msu := rfl
@[simp] theorem State.answer_cap (s : State) (c : ResultCode) (n : Word) (k : Nat) :
    (s.answer c n k).cap = s.cap := rfl
@[simp] theorem State.answer_lkc (s : State) (c : ResultCode) (n : Word) (k : Nat) :
    (s.answer c n k).lkc = s.lkc := rfl
@[simp] theorem State.answer_pim (s : State) (c : ResultCode) (n : Word) (k : Nat) :
    (s.answer c n k).pim = s.pim := rfl
@[simp] theorem State.answer_top (s : State) (c : ResultCode) (n : Word) (k : Nat) :
    (s.answer c n k).top = s.top := rfl
@[simp] theorem State.answer_pru (s : State) (c : ResultCode) (n : Word) (k : Nat) :
    (s.answer c n k).pru = s.pru := rfl
@[simp] theorem State.answer_dbu (s : State) (c : ResultCode) (n : Word) (k : Nat) :
    (s.answer c n k).dbu = s.dbu := rfl
@[simp] theorem State.answer_bcu (s : State) (c : ResultCode) (n : Word) (k : Nat) :
    (s.answer c n k).bcu = s.bcu := rfl
@[simp] theorem State.answer_clu (s : State) (c : ResultCode) (n : Word) (k : Nat) :
    (s.answer c n k).clu = s.clu := rfl
@[simp] theorem State.answer_syu (s : State) (c : ResultCode) (n : Word) (k : Nat) :
    (s.answer c n k).syu = s.syu := rfl
@[simp] theorem State.answer_gcu (s : State) (c : ResultCode) (n : Word) (k : Nat) :
    (s.answer c n k).gcu = s.gcu := rfl
@[simp] theorem State.answer_fcu (s : State) (c : ResultCode) (n : Word) (k : Nat) :
    (s.answer c n k).fcu = s.fcu := rfl
@[simp] theorem State.answer_tru (s : State) (c : ResultCode) (n : Word) (k : Nat) :
    (s.answer c n k).tru = s.tru := rfl
@[simp] theorem State.answer_cfp (s : State) (c : ResultCode) (n : Word) (k : Nat) :
    (s.answer c n k).cfp = { s.cfp with result := { code := c, command := n, check := k } } := rfl
@[simp] theorem State.answer_pending (s : State) (c : ResultCode) (n : Word) (k : Nat) :
    (s.answer c n k).pending = s.pending := rfl

end Sys2Proof.Machine
end

