-- ==== Sys2Proof/Laws/Consequences.lean ====
section
/-! SUPPORT. What each operation the blocks share can reach: one lemma per operation, cited in place of unfolding it.
`State.Consequence` bounds what changes; the `_bcu`, `_dbu` and `_rest` lemmas say which blocks an operation leaves. -/

namespace Sys2Proof.Machine

/-! ### The relation -/

theorem State.Consequence.refl (s : State) : State.Consequence s s := ⟨rfl, by simp⟩

/-- No consequence clears a pending bit. -/
theorem State.Consequence.pendingBit {s t : State} (h : State.Consequence s t) {b : Attention}
    (k : s.pendingBit b = true) : t.pendingBit b = true := by
  unfold State.pendingBit at *
  rw [← h.bits] at k
  simp only [BitVec.getLsbD_and, Bool.and_eq_true] at k
  exact k.2

theorem word_grows_trans {a b c : Word} (h : a &&& b = a) (k : b &&& c = b) : a &&& c = a := by
  rw [← h, BitVec.and_assoc, k]

theorem word_grows_or (a b : Word) : a &&& (a ||| b) = a := by
  apply BitVec.eq_of_getLsbD_eq
  intro i hi
  simp only [BitVec.getLsbD_and, BitVec.getLsbD_or]
  cases a.getLsbD i <;> simp

theorem State.Consequence.trans {s t u : State} (h : State.Consequence s t) (k : State.Consequence t u) :
    State.Consequence s u :=
  ⟨by rw [k.rest, h.rest], word_grows_trans h.bits k.bits⟩

variable {s t : State}

theorem State.Consequence.cfg (h : State.Consequence s t) : t.cfg = s.cfg := by rw [h.rest]
theorem State.Consequence.cvp (h : State.Consequence s t) : t.cvp = s.cvp := by rw [h.rest]
theorem State.Consequence.msu (h : State.Consequence s t) : t.msu = s.msu := by rw [h.rest]
theorem State.Consequence.cap (h : State.Consequence s t) : t.cap = s.cap := by rw [h.rest]
theorem State.Consequence.lkc (h : State.Consequence s t) : t.lkc = s.lkc := by rw [h.rest]
theorem State.Consequence.pim (h : State.Consequence s t) : t.pim = s.pim := by rw [h.rest]
theorem State.Consequence.top (h : State.Consequence s t) : t.top = s.top := by rw [h.rest]
theorem State.Consequence.pru (h : State.Consequence s t) : t.pru = s.pru := by rw [h.rest]
theorem State.Consequence.pending (h : State.Consequence s t) : t.pending = s.pending := by rw [h.rest]
theorem State.Consequence.cfp (h : State.Consequence s t) : t.cfp = { s.cfp with attention := t.cfp.attention } := by
  rw [h.rest]
theorem State.Consequence.run (h : State.Consequence s t) : t.cfp.run = s.cfp.run := by rw [h.cfp]

theorem State.Consequence.withBcu (s : State) (f : Bcu → Bcu) : State.Consequence s (s.withBcu f) := ⟨rfl, by simp⟩
theorem State.Consequence.withDbu (s : State) (f : Dbu → Dbu) : State.Consequence s (s.withDbu f) := ⟨rfl, by simp⟩
theorem State.Consequence.withClu (s : State) (f : Clu → Clu) : State.Consequence s (s.withClu f) := ⟨rfl, by simp⟩
theorem State.Consequence.withSyu (s : State) (f : Syu → Syu) : State.Consequence s (s.withSyu f) := ⟨rfl, by simp⟩
theorem State.Consequence.withGcu (s : State) (f : Gcu → Gcu) : State.Consequence s (s.withGcu f) := ⟨rfl, by simp⟩
theorem State.Consequence.withFcu (s : State) (f : Fcu → Fcu) : State.Consequence s (s.withFcu f) := ⟨rfl, by simp⟩
theorem State.Consequence.withTru (s : State) (f : Tru → Tru) : State.Consequence s (s.withTru f) := ⟨rfl, by simp⟩

theorem State.Consequence.raise (s : State) (b : Attention) : State.Consequence s (s.raise b) :=
  ⟨rfl, by simp [word_grows_or]⟩

/-! ### The requesters: neither BCU nor DBU is reached -/

/-- A consequence that reaches neither the breaker nor DBU nor the bias codes, and keeps attempt and owner together. -/
structure State.Told (s t : State) : Prop extends State.Consequence s t where
  bcu : t.bcu = s.bcu
  dbu : t.dbu = s.dbu
  speed : t.gcu.speed = s.gcu.speed
  volt : t.gcu.volt = s.gcu.volt
  attempt : s.AttemptOk → t.AttemptOk

theorem State.Told.refl (s : State) : State.Told s s := ⟨.refl s, rfl, rfl, rfl, rfl, id⟩

theorem State.Told.trans {s t u : State} (h : State.Told s t) (k : State.Told t u) : State.Told s u :=
  ⟨h.toConsequence.trans k.toConsequence, by rw [k.bcu, h.bcu], by rw [k.dbu, h.dbu], by rw [k.speed, h.speed],
    by rw [k.volt, h.volt], fun a => k.attempt (h.attempt a)⟩

theorem State.Told.withClu (s : State) (f : Clu → Clu) : State.Told s (s.withClu f) :=
  ⟨.withClu s f, rfl, rfl, rfl, rfl, id⟩

theorem State.Told.withSyu (s : State) (f : Syu → Syu) (h : s.AttemptOk → (s.withSyu f).AttemptOk) :
    State.Told s (s.withSyu f) := ⟨.withSyu s f, rfl, rfl, rfl, rfl, h⟩

theorem State.Told.withGcu (s : State) (f : Gcu → Gcu) (h : (f s.gcu).speed = s.gcu.speed := by rfl)
    (k : (f s.gcu).volt = s.gcu.volt := by rfl) : State.Told s (s.withGcu f) := ⟨.withGcu s f, rfl, rfl, h, k, id⟩

theorem State.Told.withFcu (s : State) (f : Fcu → Fcu) : State.Told s (s.withFcu f) :=
  ⟨.withFcu s f, rfl, rfl, rfl, rfl, id⟩

theorem State.Told.withTru (s : State) (f : Tru → Tru) : State.Told s (s.withTru f) :=
  ⟨.withTru s f, rfl, rfl, rfl, rfl, id⟩

theorem State.Told.raise (s : State) (b : Attention) : State.Told s (s.raise b) := ⟨.raise s b, rfl, rfl, rfl, rfl, id⟩

theorem State.told_gcuSet (s : State) (u : UnitState) : State.Told s (s.gcuSet u) := by
  unfold State.gcuSet
  split
  · exact .refl s
  · exact (State.Told.withGcu ..).trans (.raise ..)

theorem State.told_cancelClaim (s : State) (o : Origin) : State.Told s (s.cancelClaim o) := by
  unfold State.cancelClaim
  split
  · exact .withClu ..
  · exact .refl s

theorem State.told_endAttempt (s : State) (a : Answer) : State.Told s (s.endAttempt a) :=
  .withSyu _ _ fun _ => by simp [State.AttemptOk]

theorem State.told_truNote (s : State) (a : Answer) : State.Told s (s.truNote a) := .withTru ..

theorem State.told_cancelAttempt (s : State) (o : SyncOwner) : State.Told s (s.cancelAttempt o) := by
  unfold State.cancelAttempt
  split
  · dsimp only
    split
    · exact (s.told_endAttempt _).trans (State.told_truNote ..)
    · exact s.told_endAttempt _
  · exact .refl s

theorem State.told_truReflag (s : State) : State.Told s s.truReflag := .withTru ..

theorem State.told_truSet (s : State) (x : TransferState) : State.Told s (s.truSet x) := by
  unfold State.truSet
  split
  · exact .refl s
  · exact ((State.Told.withTru ..).trans (State.told_truReflag _)).trans (.raise ..)

theorem State.told_truLeave (s : State) (x : TransferState) : State.Told s (s.truLeave x) := by
  unfold State.truLeave
  split
  · exact .refl s
  · exact ((s.told_cancelClaim _).trans (State.told_cancelAttempt ..)).trans (State.told_truSet ..)

theorem State.told_setMode (s : State) (m : Mode) : State.Told s (s.setMode m) := by
  unfold State.setMode
  split
  · exact .refl s
  · exact (State.Told.withTru ..).trans (.raise ..)

theorem State.told_gcuFail (s : State) (r : FailReason) : State.Told s (s.gcuFail r) :=
  (((s.told_cancelClaim _).trans (State.told_cancelAttempt ..)).trans (State.told_gcuSet ..)).trans (.withGcu ..)

theorem State.told_gcuHear (s : State) (a : Answer) : State.Told s (s.gcuHear a) := by
  unfold State.gcuHear
  repeat' split
  all_goals first
    | exact .refl s
    | exact s.told_gcuSet _
    | exact s.told_gcuFail _
    | exact .withGcu ..

theorem State.told_truFailed (s : State) : State.Told s s.truFailed := by
  unfold State.truFailed
  dsimp only
  repeat' split
  all_goals first
    | exact .refl s
    | exact (s.told_setMode _).trans (State.told_truLeave ..)
    | exact (State.Told.withTru ..).trans (State.told_truLeave ..)
    | exact .withTru ..

theorem State.told_truCompleted (s : State) : State.Told s s.truCompleted := by
  unfold State.truCompleted
  split
  all_goals first
    | exact .refl s
    | exact s.told_truLeave _

theorem State.told_truHear (s : State) (a : Answer) : State.Told s (s.truHear a) := by
  have n := s.told_truNote a
  unfold State.truHear
  dsimp only
  split
  all_goals first
    | exact n.trans (State.told_truCompleted _)
    | exact n.trans (State.told_truFailed _)
    | exact n

theorem State.told_fcuHear (s : State) (a : Answer) : State.Told s (s.fcuHear a) := by
  unfold State.fcuHear
  repeat' split
  all_goals first
    | exact .refl s
    | exact (State.Told.withFcu ..).trans (.raise ..)
    | exact .withFcu ..

theorem State.told_operatorHear (s : State) (a : Answer) : State.Told s (s.operatorHear a) := by
  unfold State.operatorHear
  dsimp only
  split
  all_goals first
    | exact .refl s
    | exact .withClu ..

/-- An answer to a claim reaches the requesting units alone. -/
theorem State.told_tellClaimant (s : State) (o : Origin) (a : Answer) : State.Told s (s.tellClaimant o a) := by
  cases o
  · unfold State.tellClaimant
    dsimp only
    split
    · exact (s.told_truHear a).trans (.withTru ..)
    · exact s.told_truHear a
  · exact s.told_gcuHear a
  · exact s.told_fcuHear a
  · exact s.told_operatorHear a

/-- An answer to an attempt reaches the requesting units alone. -/
theorem State.told_tellOwner (s : State) (o : Option SyncOwner) (a : Answer) : State.Told s (s.tellOwner o a) := by
  unfold State.tellOwner
  split
  · exact (s.told_truHear a).trans (.withTru ..)
  · exact s.told_gcuHear a
  · exact .refl s
  · exact .refl s

theorem State.told_syuEnd (s : State) (a : Answer) : State.Told s (s.syuEnd a) := by
  unfold State.syuEnd
  split
  · exact .refl s
  · exact (s.told_endAttempt a).trans (State.told_tellOwner ..)

theorem State.told_syuEndChecking (s : State) (a : Answer) : State.Told s (s.syuEndChecking a) := by
  unfold State.syuEndChecking
  split
  · exact s.told_syuEnd a
  · exact .refl s

theorem State.told_cluWithdraw (s : State) (w : WithdrawReason) : State.Told s (s.cluWithdraw w) := by
  unfold State.cluWithdraw
  split
  · exact .refl s
  · exact (State.Told.withClu ..).trans (State.told_tellClaimant ..)

theorem State.told_cluDrop (s : State) (o : Origin) (a : Answer) : State.Told s (s.cluDrop o a) := by
  unfold State.cluDrop
  dsimp only
  repeat' split
  · exact .refl s
  · exact .withClu ..
  · exact (State.Told.withClu ..).trans (State.told_tellClaimant ..)

theorem State.told_cluEnd (s : State) (o : Origin) (a : Answer) : State.Told s (s.cluEnd o a) :=
  ((State.Told.withClu ..).trans (State.told_tellClaimant ..)).trans (State.told_cluDrop ..)

theorem State.told_cluOutcome (s : State) (o : CloseOutcome) : State.Told s (s.cluOutcome o) := by
  unfold State.cluOutcome
  dsimp only
  repeat' split
  · exact .refl s
  · exact ((State.Told.withClu ..).trans (.withClu ..)).trans (State.told_tellClaimant ..)
  · exact (State.Told.withClu ..).trans (State.told_cluEnd ..)

theorem State.told_cluRaise (s : State) (o : Origin) (r : Bool) (x : Sec) (d : Bool) :
    State.Told s (s.cluRaise o r x d).1 := by
  unfold State.cluRaise
  dsimp only
  repeat' split
  · exact (State.Told.withClu ..).trans (State.told_truNote ..)
  · exact State.told_truNote ..
  · exact .withClu ..
  · exact .refl s

theorem State.told_syuStart (s : State) (o : SyncOwner) : State.Told s (s.syuStart o) := by
  have hs : State.Told s (s.withSyu fun y =>
      { y with state := .checking, owner := some o, supervision := 0, startedNow := true }) ∨ s.syu.state ≠ .idle := by
    by_cases k : s.syu.state = .idle
    · refine .inl (.withSyu _ _ fun h => ?_)
      have : s.syu.permit = false := by
        cases p : s.syu.permit with
        | false => rfl
        | true => have := h.2 p; rw [k] at this; cases this
      simp [State.AttemptOk, this]
    · exact .inr k
  have hn : s.judgeStart o = .started → s.syu.state = .idle := by
    unfold State.judgeStart
    repeat' split
    all_goals simp_all
  unfold State.syuStart
  dsimp only
  have ht : State.Told s (match s.judgeStart o with
      | .started => s.withSyu fun y =>
        { y with state := .checking, owner := some o, supervision := 0, startedNow := true }
      | .standing => s
      | _ => s.withSyu fun y => { y with lastEnding := some (s.judgeStart o, some o, s.lkc.count) }) := by
    split
    · rename_i h
      rcases hs with hs | hs
      · exact hs
      · exact absurd (hn h) hs
    · exact .refl s
    · exact .withSyu _ _ id
  split
  · exact ht.trans (State.told_truNote ..)
  · exact ht

/-! ### The breaker -/

/-- The close owner is told and cleared; every other field of BCU stands (R114). -/
theorem State.closeOutcome_bcu (s : State) (o : CloseOutcome) :
    (s.closeOutcome o).bcu =
      { s.bcu with owner := none, lastOutcome := some (o, s.lkc.count),
                   endedNow := s.bcu.endedNow || o != .completed } := by
  unfold State.closeOutcome
  dsimp only
  repeat' split
  · rw [(State.told_cluOutcome ..).bcu]; rfl
  · rw [(State.told_syuEnd ..).bcu]; rfl
  · rfl
  · rfl

theorem State.closeOutcome_dbu (s : State) (o : CloseOutcome) : (s.closeOutcome o).dbu = s.dbu := by
  unfold State.closeOutcome
  dsimp only
  repeat' split
  · rw [(State.told_cluOutcome ..).dbu]; rfl
  · rw [(State.told_syuEnd ..).dbu]; rfl
  · rfl
  · rfl

theorem State.cons_closeOutcome (s : State) (o : CloseOutcome) : State.Consequence s (s.closeOutcome o) := by
  unfold State.closeOutcome
  dsimp only
  repeat' split
  · exact (State.Consequence.withBcu ..).trans (State.told_cluOutcome ..).toConsequence
  · exact (State.Consequence.withBcu ..).trans (State.told_syuEnd ..).toConsequence
  · exact .withBcu ..
  · exact .withBcu ..

/-- BCU after the end of a close, with or without an outcome. -/
def Bcu.ended (b : Bcu) (x : BreakerState) (o : Option CloseOutcome) (n : Count) : Bcu :=
  match o with
  | some c => { b.rest x with owner := none, lastOutcome := some (c, n), endedNow := b.endedNow || c != .completed }
  | none => b.rest x

/-- BCU CLOSED, at rest, with the outcome handed out if there is one (R107). -/
theorem State.becomeClosed_bcu (s : State) (o : Option CloseOutcome) :
    (s.becomeClosed o).bcu = s.bcu.ended .closed o s.lkc.count := by
  cases o with
  | none => exact (State.told_cluWithdraw ..).bcu
  | some c => exact ((State.told_cluWithdraw ..).bcu).trans (State.closeOutcome_bcu ..)

theorem State.becomeClosed_dbu (s : State) (o : Option CloseOutcome) : (s.becomeClosed o).dbu = s.dbu := by
  cases o with
  | none => exact (State.told_cluWithdraw ..).dbu
  | some c => exact ((State.told_cluWithdraw ..).dbu).trans (State.closeOutcome_dbu ..)

theorem State.cons_becomeClosed (s : State) (o : Option CloseOutcome) : State.Consequence s (s.becomeClosed o) := by
  cases o with
  | none => exact (State.Consequence.withBcu ..).trans (State.told_cluWithdraw ..).toConsequence
  | some c =>
    exact ((State.Consequence.withBcu ..).trans (State.cons_closeOutcome ..)).trans (State.told_cluWithdraw ..).toConsequence

theorem State.becomeOpen_bcu (s : State) (o : CloseOutcome) :
    (s.becomeOpen o).bcu = s.bcu.ended .opened (some o) s.lkc.count := State.closeOutcome_bcu ..

theorem State.becomeOpen_dbu (s : State) (o : CloseOutcome) : (s.becomeOpen o).dbu = s.dbu := State.closeOutcome_dbu ..

theorem State.cons_becomeOpen (s : State) (o : CloseOutcome) : State.Consequence s (s.becomeOpen o) :=
  (State.Consequence.withBcu ..).trans (State.cons_closeOutcome ..)

/-- All a close drop can do to BCU (R108): nothing unless CLOSE is asserted in CLOSING; else CLOSE is released, and the
pair that shows a position ends the close with DROPPED. -/
theorem State.closeDrop_bcu (s : State) :
    (s.closeDrop).bcu =
      if s.bcu.state = .closing ∧ s.bcu.close = true then
        match s.pair with
        | .opened => { s.bcu with close := false }.ended .opened (some .dropped) s.lkc.count
        | .closed => { s.bcu with close := false }.ended .closed (some .dropped) s.lkc.count
        | _ => { s.bcu with close := false }
      else s.bcu := by
  unfold State.closeDrop
  dsimp only
  split
  · cases s.pair
    · rfl
    · exact State.becomeOpen_bcu ..
    · exact State.becomeClosed_bcu ..
    · rfl
  · rfl

theorem State.closeDrop_dbu (s : State) : (s.closeDrop).dbu = s.dbu := by
  unfold State.closeDrop
  dsimp only
  split
  · cases s.pair
    · rfl
    · exact State.becomeOpen_dbu ..
    · exact State.becomeClosed_dbu ..
    · rfl
  · rfl

theorem State.cons_closeDrop (s : State) : State.Consequence s s.closeDrop := by
  unfold State.closeDrop
  dsimp only
  split
  · cases s.pair
    · exact .withBcu ..
    · exact (State.Consequence.withBcu ..).trans (State.cons_becomeOpen ..)
    · exact (State.Consequence.withBcu ..).trans (State.cons_becomeClosed ..)
    · exact .withBcu ..
  · exact .refl s

/-! ### Lockout -/

/-- Setting lockout (R97): a standing flag is left, a clear one set with its source. -/
theorem State.setLockout_dbu (s : State) (c : LockoutSource) :
    (s.setLockout c).dbu = if s.dbu.lockout then s.dbu else { s.dbu with lockout := true, lockoutSource := c } := by
  unfold State.setLockout
  split
  · rfl
  · rw [(State.told_syuEndChecking ..).dbu, State.closeDrop_dbu]; rfl

/-- BCU at the setting of lockout from clear is what the close drop makes of it (R97, R108). -/
theorem State.setLockout_bcu (s : State) (c : LockoutSource) :
    (s.setLockout c).bcu = if s.dbu.lockout then s.bcu else s.closeDrop.bcu := by
  unfold State.setLockout
  split
  · rfl
  · rw [(State.told_syuEndChecking ..).bcu, State.closeDrop_bcu, State.closeDrop_bcu]; rfl

theorem State.cons_setLockout (s : State) (c : LockoutSource) : State.Consequence s (s.setLockout c) := by
  unfold State.setLockout
  split
  · exact .refl s
  · exact (((State.Consequence.withDbu ..).trans (.raise ..)).trans (State.cons_closeDrop _)).trans
      (State.told_syuEndChecking ..).toConsequence

/-! ### Trip requests -/

theorem State.bfRequest_bcu (s : State) : (s.bfRequest).bcu = s.bcu := by
  unfold State.bfRequest; split <;> rfl

theorem State.cons_bfRequest (s : State) : State.Consequence s s.bfRequest := by
  unfold State.bfRequest
  split
  · exact .withDbu ..
  · exact .refl s

/-- The BF timer at a trip request (R93): an idle one starts at 0 unless the breaker is OPEN or FAILED_OPEN. -/
theorem State.bfRequest_dbu (s : State) :
    (s.bfRequest).dbu =
      if s.dbu.timer = .idle ∧ s.bcu.state ≠ .opened ∧ s.bcu.state ≠ .failedOpen then
        { s.dbu with timer := .running 0 }
      else s.dbu := by
  unfold State.bfRequest; split <;> rfl

/-- BCU at a trip request, by the state found (R109). -/
theorem State.bcuTrip_bcu (s : State) :
    (s.bcuTrip).bcu =
      match s.bcu.state with
      | .opened => s.bcu
      | .opening => s.bcu
      | .failedOpen => s.bcu
      | .closing =>
        { s.bcu.assertTrip with owner := none, lastOutcome := some (.tripped, s.lkc.count), endedNow := true }
      | _ => s.bcu.assertTrip := by
  unfold State.bcuTrip
  cases h : s.bcu.state <;> first
    | rfl
    | exact (State.closeOutcome_bcu ..).trans (by
        rw [show ((s.withBcu Bcu.assertTrip).bcu.endedNow || CloseOutcome.tripped != .completed) = true from Bool.or_true _]
        rfl)

theorem State.bcuTrip_dbu (s : State) : (s.bcuTrip).dbu = s.dbu := by
  unfold State.bcuTrip
  cases h : s.bcu.state <;> first | rfl | exact State.closeOutcome_dbu ..

theorem State.cons_bcuTrip (s : State) : State.Consequence s s.bcuTrip := by
  unfold State.bcuTrip
  cases h : s.bcu.state <;> first
    | exact .refl s
    | exact .withBcu ..
    | exact (State.Consequence.withBcu ..).trans (State.cons_closeOutcome ..)

/-- BCU at a trip request from any source (R109). -/
theorem State.tripRequest_bcu (s : State) :
    (s.tripRequest).bcu =
      match s.bcu.state with
      | .opened => { s.bcu with trippedNow := true }
      | .opening => { s.bcu with trippedNow := true }
      | .failedOpen => { s.bcu with trippedNow := true }
      | .closing =>
        { s.bcu.assertTrip with trippedNow := true, owner := none, lastOutcome := some (.tripped, s.lkc.count),
                                 endedNow := true }
      | _ => { s.bcu.assertTrip with trippedNow := true } := by
  unfold State.tripRequest
  dsimp only
  rw [(State.told_syuEndChecking ..).bcu, State.bcuTrip_bcu, State.bfRequest_bcu,
    (State.cons_bfRequest _).lkc]
  dsimp only [State.withBcu_bcu, State.withBcu_lkc]
  cases h : s.bcu.state <;> rfl

/-- DBU at a trip request (R93). -/
theorem State.tripRequest_dbu (s : State) : (s.tripRequest).dbu = (s.bfRequest).dbu := by
  unfold State.tripRequest
  dsimp only
  rw [(State.told_syuEndChecking ..).dbu, State.bcuTrip_dbu, State.bfRequest_dbu, State.bfRequest_dbu]
  rfl

theorem State.tripRequest_lockout (s : State) : (s.tripRequest).dbu.lockout = s.dbu.lockout := by
  rw [State.tripRequest_dbu, State.bfRequest_dbu]; split <;> rfl

theorem State.cons_tripRequest (s : State) : State.Consequence s s.tripRequest :=
  (((State.Consequence.withBcu ..).trans (State.cons_bfRequest _)).trans (State.cons_bcuTrip _)).trans
    (State.told_syuEndChecking ..).toConsequence

/-! ### Pair events -/

theorem State.breakerAlarm_bcu (s : State) (f : BreakerAlarms → BreakerAlarms) :
    (s.breakerAlarm f).bcu = { s.bcu with alarms := f s.bcu.alarms } := rfl

theorem State.breakerAlarm_dbu (s : State) (f : BreakerAlarms → BreakerAlarms) : (s.breakerAlarm f).dbu = s.dbu := rfl

theorem State.cons_breakerAlarm (s : State) (f : BreakerAlarms → BreakerAlarms) :
    State.Consequence s (s.breakerAlarm f) := (State.Consequence.withBcu ..).trans (.raise ..)

theorem State.bfClear_bcu (s : State) (p : Pair) : (s.bfClear p).bcu = s.bcu := by
  unfold State.bfClear; split <;> rfl

theorem State.bfClear_lockout (s : State) (p : Pair) : (s.bfClear p).dbu.lockout = s.dbu.lockout := by
  unfold State.bfClear; split <;> rfl

theorem State.cons_bfClear (s : State) (p : Pair) : State.Consequence s (s.bfClear p) := by
  unfold State.bfClear
  split
  · exact .withDbu ..
  · exact .refl s

theorem State.releaseTest_dbu (s : State) : (s.releaseTest).dbu = s.dbu := by
  unfold State.releaseTest; split <;> rfl

theorem State.cons_releaseTest (s : State) : State.Consequence s s.releaseTest := by
  unfold State.releaseTest
  split
  · exact .withBcu ..
  · exact .refl s

theorem State.told_uncommandedOpen (s : State) : State.Told s s.uncommandedOpen := by
  unfold State.uncommandedOpen
  split
  · exact s.told_truLeave _
  · exact .refl s

theorem State.pairState_dbu (s : State) (p : Pair) : (s.pairState p).dbu = s.dbu := by
  unfold State.pairState
  split
  all_goals first
    | rfl
    | exact State.becomeClosed_dbu ..
    | exact State.becomeOpen_dbu ..
    | exact State.releaseTest_dbu ..
    | (split <;> first | rfl | exact State.becomeOpen_dbu ..)
    | (rw [(State.told_syuEndChecking ..).dbu, State.becomeClosed_dbu]; rfl)
    | (rw [(State.told_uncommandedOpen _).dbu]; rfl)

theorem State.cons_pairState (s : State) (p : Pair) : State.Consequence s (s.pairState p) := by
  unfold State.pairState
  split
  all_goals first
    | exact .refl s
    | exact .withBcu ..
    | exact State.cons_becomeClosed ..
    | exact State.cons_releaseTest ..
    | exact ((State.cons_breakerAlarm ..).trans (State.cons_becomeClosed ..)).trans
        (State.told_syuEndChecking ..).toConsequence
    | exact ((State.Consequence.withBcu ..).trans (State.cons_breakerAlarm ..)).trans
        (State.told_uncommandedOpen _).toConsequence
    | (split
       · exact .refl s
       · exact State.cons_becomeOpen ..)

theorem State.pairEvent_lockout (s : State) : (s.pairEvent).dbu.lockout = s.dbu.lockout := by
  unfold State.pairEvent
  split
  · rfl
  · rw [State.pairState_dbu, State.bfClear_lockout]

theorem State.cons_pairEvent (s : State) : State.Consequence s s.pairEvent := by
  unfold State.pairEvent
  split
  · exact .refl s
  · exact (s.cons_bfClear _).trans (State.cons_pairState ..)

/-! ### Close requests -/

theorem State.closeRequest_dbu (s : State) (u : CloseUnit) : (s.closeRequest u).1.dbu = s.dbu := by
  unfold State.closeRequest
  repeat' split
  all_goals rfl

theorem State.cons_closeRequest (s : State) (u : CloseUnit) : State.Consequence s (s.closeRequest u).1 := by
  unfold State.closeRequest
  repeat' split
  · exact .refl s
  · exact State.Consequence.withBcu s fun b => b.accept u
  · exact State.Consequence.withBcu s fun b => { b with lastRefusal := some (_, u, s.lkc.count) }

/-- A close request is accepted with every condition met (R106), and then asserts CLOSE. -/
theorem State.closeRequest_accepted {s : State} {u : CloseUnit} (h : (s.closeRequest u).2 = none) :
    s.judgeClose = none ∧ (s.closeRequest u).1 = s.withBcu fun b => b.accept u := by
  unfold State.closeRequest at h ⊢
  split at h
  · cases h
  · rename_i k
    rw [if_neg k]
    cases j : s.judgeClose with
    | none => exact ⟨rfl, rfl⟩
    | some r => simp [j] at h

/-- A refused close request leaves the breaker: at most the last refusal is written (R106, R143). -/
theorem State.closeRequest_refused {s : State} {u : CloseUnit} {r : CloseRefusal} (h : (s.closeRequest u).2 = some r) :
    (s.closeRequest u).1 = s ∨
      (s.closeRequest u).1 = s.withBcu fun b => { b with lastRefusal := some (r, u, s.lkc.count) } := by
  unfold State.closeRequest at h ⊢
  split at h
  · rename_i k; rw [if_pos k]; exact .inl rfl
  · rename_i k
    rw [if_neg k]
    cases j : s.judgeClose with
    | none => simp [j] at h
    | some r' => simp [j] at h; subst h; exact .inr rfl

/-- What acceptance says of the state (R106). -/
theorem State.judgeClose_none {s : State} (h : s.judgeClose = none) :
    s.bcu.state = .opened ∧ s.dbu.lockout = false ∧ s.top.ownLocked s.cfg = false ∧ s.pruStands = false
      ∧ s.fnActive .extTrip = false ∧ s.bcu.trippedNow = false ∧ s.fnActive .extBlockClose = false
      ∧ (s.cfg.isRole .incomer = true → s.tru.healthy = true) := by
  unfold State.judgeClose at h
  repeat' split at h
  all_goals simp_all

end Sys2Proof.Machine
end

