-- ==== Sys2Proof/Laws/Outputs.lean ====
section
/-! SUPPORT. The shared operations keep the condition on the breaker's outputs (`State.CloseUnlocked`). -/

namespace Sys2Proof.Machine

/-- The condition on the outputs, of a BCU and a lockout flag. -/
def BcuOk (b : Bcu) (lockout : Bool) : Prop :=
  (b.close = true → b.state = .closing) ∧ (b.trip = true ↔ b.state = .opening ∨ b.state = .failedOpen)
    ∧ (b.owner.isSome = true ↔ b.state = .closing) ∧ (b.close = true → lockout = false)

theorem State.closeUnlocked_iff (s : State) : s.CloseUnlocked ↔ BcuOk s.bcu s.dbu.lockout := by
  simp only [State.CloseUnlocked, State.OutputsOk, State.closeOnlyClosing, State.tripExactly, State.ownedExactly, BcuOk,
    and_assoc]

/-- The condition depends on BCU and on the lockout flag alone. -/
theorem State.CloseUnlocked.of_eq {s t : State} (h : s.CloseUnlocked) (hb : t.bcu = s.bcu)
    (hd : t.dbu.lockout = s.dbu.lockout) : t.CloseUnlocked := by
  rw [State.closeUnlocked_iff] at *
  rwa [hb, hd]

theorem State.CloseUnlocked.told {s t : State} (h : s.CloseUnlocked) (k : State.Told s t) : t.CloseUnlocked :=
  h.of_eq k.bcu (by rw [k.dbu])

theorem bcuOk_rest (b : Bcu) (x : BreakerState) (l : Bool) (h : b.owner = none) (h₁ : x ≠ .closing) (h₂ : x ≠ .opening)
    (h₃ : x ≠ .failedOpen) : BcuOk (b.rest x) l := by
  simp [BcuOk, Bcu.rest, h, h₁, h₂, h₃]

theorem bcuOk_ended (b : Bcu) (x : BreakerState) (o : CloseOutcome) (n : Count) (l : Bool) (h₁ : x ≠ .closing)
    (h₂ : x ≠ .opening) (h₃ : x ≠ .failedOpen) : BcuOk (b.ended x (some o) n) l := by
  simp [BcuOk, Bcu.ended, Bcu.rest, h₁, h₂, h₃]

theorem State.CloseUnlocked.owner_none {s : State} (h : s.CloseUnlocked) (k : s.bcu.state ≠ .closing) :
    s.bcu.owner = none := by
  have := h.1.2.2
  cases j : s.bcu.owner with
  | none => rfl
  | some u => exact absurd (this.mp (by simp [j])) k

theorem State.CloseUnlocked.withBcu {s : State} {f : Bcu → Bcu} (h : BcuOk (f s.bcu) s.dbu.lockout) :
    (s.withBcu f).CloseUnlocked := (State.closeUnlocked_iff _).mpr h

theorem State.CloseUnlocked.becomeClosed {s : State} {o : Option CloseOutcome} (h : o = none → s.bcu.owner = none) :
    (s.becomeClosed o).CloseUnlocked := by
  rw [State.closeUnlocked_iff, State.becomeClosed_bcu]
  cases o with
  | none => exact bcuOk_rest _ _ _ (h rfl) (by decide) (by decide) (by decide)
  | some c => exact bcuOk_ended _ _ _ _ _ (by decide) (by decide) (by decide)

theorem State.CloseUnlocked.becomeOpen {s : State} {o : CloseOutcome} : (s.becomeOpen o).CloseUnlocked := by
  rw [State.closeUnlocked_iff, State.becomeOpen_bcu]
  exact bcuOk_ended _ _ _ _ _ (by decide) (by decide) (by decide)

/-- A close drop leaves the outputs well and CLOSE released. -/
theorem State.closeDrop_bcuOk {s : State} (h : s.OutputsOk) (l : Bool) : BcuOk s.closeDrop.bcu l := by
  obtain ⟨h₁, h₂, h₃⟩ := h
  unfold State.closeOnlyClosing State.tripExactly State.ownedExactly at *
  rw [State.closeDrop_bcu]
  split
  · cases s.pair
    · simp_all [BcuOk]
    · exact bcuOk_ended _ _ _ _ _ (by decide) (by decide) (by decide)
    · exact bcuOk_ended _ _ _ _ _ (by decide) (by decide) (by decide)
    · simp_all [BcuOk]
  · unfold BcuOk; grind

theorem State.CloseUnlocked.closeDrop {s : State} (h : s.CloseUnlocked) : s.closeDrop.CloseUnlocked :=
  (State.closeUnlocked_iff _).mpr (State.closeDrop_bcuOk h.1 _)

theorem State.CloseUnlocked.setLockout {s : State} (h : s.CloseUnlocked) (c : LockoutSource) :
    (s.setLockout c).CloseUnlocked := by
  rw [State.closeUnlocked_iff, State.setLockout_bcu, State.setLockout_dbu]
  split
  · exact (State.closeUnlocked_iff _).mp h
  · exact State.closeDrop_bcuOk h.1 _

theorem bcuOk_assertTrip (b : Bcu) (l : Bool) (h : b.owner = none) : BcuOk b.assertTrip l := by
  simp [BcuOk, Bcu.assertTrip, h]

theorem State.CloseUnlocked.tripRequest {s : State} (h : s.CloseUnlocked) : s.tripRequest.CloseUnlocked := by
  have ho := @State.CloseUnlocked.owner_none s h
  rw [State.closeUnlocked_iff] at *
  rw [State.tripRequest_bcu, State.tripRequest_lockout]
  cases j : s.bcu.state <;> simp_all [BcuOk, Bcu.assertTrip]

theorem State.CloseUnlocked.releaseTest {s : State} (h : s.CloseUnlocked) : s.releaseTest.CloseUnlocked := by
  have ho := @State.CloseUnlocked.owner_none s h
  unfold State.releaseTest
  split
  · rename_i k
    refine State.CloseUnlocked.withBcu ?_
    have : s.bcu.state ≠ .closing := by rcases k.1 with j | j <;> simp [j]
    simp [BcuOk, Bcu.rest, ho this]
  · exact h

theorem State.CloseUnlocked.breakerAlarm {s : State} (h : s.CloseUnlocked) (f : BreakerAlarms → BreakerAlarms) :
    (s.breakerAlarm f).CloseUnlocked := (State.closeUnlocked_iff _).mpr ((State.closeUnlocked_iff s).mp h)

theorem State.CloseUnlocked.rest {s : State} (h : s.CloseUnlocked) (k : s.bcu.state ≠ .closing) {x : BreakerState}
    (h₁ : x ≠ .closing) (h₂ : x ≠ .opening) (h₃ : x ≠ .failedOpen) : (s.withBcu fun b => b.rest x).CloseUnlocked :=
  .withBcu (bcuOk_rest _ _ _ (h.owner_none k) h₁ h₂ h₃)

theorem State.CloseUnlocked.discrepancyAt {s : State} (h : s.CloseUnlocked) (p : Pair) :
    (s.withBcu fun b => b.discrepancyAt p).CloseUnlocked := by
  rw [State.closeUnlocked_iff] at *
  cases p <;> exact h

theorem State.CloseUnlocked.pairState {s : State} (h : s.CloseUnlocked) (p : Pair) : (s.pairState p).CloseUnlocked := by
  have ho := @State.CloseUnlocked.owner_none s h
  unfold State.pairState
  cases k : s.bcu.state <;> cases p <;> (try have ho := ho (by rw [k]; decide)) <;> dsimp only
  all_goals first
    | exact h
    | exact h.discrepancyAt _
    | exact h.releaseTest
    | exact h.rest (by rw [k]; decide) (by decide) (by decide) (by decide)
    | exact .becomeClosed (by intro; assumption)
    | exact .becomeClosed (by intro j; cases j)
    | (split
       · exact h
       · exact .becomeOpen)
    | exact ((State.CloseUnlocked.becomeClosed (s := s.breakerAlarm _) (by intro; exact ho)).told
        (State.told_syuEndChecking ..))
    | exact ((h.rest (by rw [k]; decide) (by decide) (by decide) (by decide)).breakerAlarm _).told
        (State.told_uncommandedOpen _)

theorem State.CloseUnlocked.pairEvent {s : State} (h : s.CloseUnlocked) : s.pairEvent.CloseUnlocked := by
  unfold State.pairEvent
  split
  · exact h
  · exact State.CloseUnlocked.pairState (h.of_eq (State.bfClear_bcu ..) (State.bfClear_lockout ..)) _

theorem State.CloseUnlocked.closeRequest {s : State} (h : s.CloseUnlocked) (u : CloseUnit) :
    (s.closeRequest u).1.CloseUnlocked := by
  cases k : (s.closeRequest u).2 with
  | none =>
    obtain ⟨j, e⟩ := State.closeRequest_accepted k
    obtain ⟨ho, hl, -⟩ := State.judgeClose_none j
    rw [e, State.closeUnlocked_iff] at *
    simp_all [BcuOk, Bcu.accept]
  | some r =>
    rcases State.closeRequest_refused k with e | e
    · rw [e]; exact h
    · rw [e, State.closeUnlocked_iff] at *; exact h

end Sys2Proof.Machine
end

