-- ==== Sys2Proof/Laws/Samples.lean ====
section
/-! SUPPORT. The sample memory of a capture bank: a read after a write, a write elsewhere, and the canonical form kept by
every memory operation. -/

namespace Sys2Proof.Machine

/-- Every address of `m` is above `lo`, in the form the proofs recurse on. -/
theorem risesAbove_cons (lo : Option Nat) (k : Nat) (v : Word) (m : SampleMem) :
    risesAbove lo ((k, v) :: m) = true ↔ (∀ b, lo = some b → b < k) ∧ v ≠ 0 ∧ risesAbove (some k) m = true := by
  cases lo <;> simp [risesAbove, and_assoc]

theorem risesAbove_weaken {a b : Nat} (h : a ≤ b) :
    ∀ {m : SampleMem}, risesAbove (some b) m = true → risesAbove (some a) m = true
  | [], _ => rfl
  | (k, v) :: m, w => by
    rw [risesAbove_cons] at *
    exact ⟨fun c e => by cases e; have := w.1 b rfl; omega, w.2.1, w.2.2⟩

theorem risesAbove_none {b : Nat} : ∀ {m : SampleMem}, risesAbove (some b) m = true → risesAbove none m = true
  | [], _ => rfl
  | (k, v) :: m, w => by
    rw [risesAbove_cons] at *
    exact ⟨(fun c e => nomatch e), w.2.1, w.2.2⟩

/-- A position below every address of the memory reads 0. -/
theorem readSample_below {b : Nat} : ∀ {m : SampleMem}, risesAbove (some b) m = true → ∀ {a}, a ≤ b → readSample m a = 0
  | [], _, _, _ => rfl
  | (k, v) :: m, w, a, h => by
    rw [risesAbove_cons] at w
    have hk := w.1 b rfl
    unfold readSample
    rw [if_neg (by omega)]
    exact readSample_below w.2.2 (by omega)

/-- A write keeps the canonical form, above any bound that the position itself is above. -/
theorem writeSample_rises (a : Nat) (v : Word) :
    ∀ (m : SampleMem) (lo : Option Nat), risesAbove lo m = true → (∀ b, lo = some b → b < a) →
      risesAbove lo (writeSample m a v) = true
  | [], lo, _, h => by
    unfold writeSample
    split
    · rfl
    · rw [risesAbove_cons]; exact ⟨h, by assumption, rfl⟩
  | (k, x) :: m, lo, w, h => by
    have w' := (risesAbove_cons ..).mp w
    unfold writeSample
    split
    · split
      · exact w
      · refine (risesAbove_cons ..).mpr ⟨h, by assumption, (risesAbove_cons ..).mpr ⟨?_, w'.2.1, w'.2.2⟩⟩
        intro b e; cases e; assumption
    · split
      · subst_vars
        split
        · cases lo with
          | none => exact risesAbove_none w'.2.2
          | some b => exact risesAbove_weaken (by have := h b rfl; omega) w'.2.2
        · exact (risesAbove_cons ..).mpr ⟨h, by assumption, w'.2.2⟩
      · refine (risesAbove_cons ..).mpr ⟨w'.1, w'.2.1, writeSample_rises a v m (some k) w'.2.2 ?_⟩
        intro b e; cases e; omega

/-- A write keeps the canonical form. -/
theorem writeSample_wf (m : SampleMem) (a : Nat) (v : Word) (h : Memory.wf m = true) :
    Memory.wf (writeSample m a v) = true := writeSample_rises a v m none h (fun _ e => nomatch e)

/-- A read after a write: the written position reads what was written, every other as before. -/
theorem readSample_writeSample_above (a : Nat) (v : Word) (b : Nat) :
    ∀ (m : SampleMem) (lo : Option Nat), risesAbove lo m = true →
      readSample (writeSample m a v) b = if b = a then v else readSample m b
  | [], _, _ => by
    unfold writeSample
    split
    · subst_vars; simp [readSample]
    · simp [readSample, eq_comm]
  | (k, x) :: m, lo, w => by
    have w' := (risesAbove_cons ..).mp w
    unfold writeSample
    split
    · rename_i hk
      split
      · subst_vars
        split
        · subst_vars
          unfold readSample
          rw [if_neg (by omega)]
          exact readSample_below w'.2.2 (by omega)
        · rfl
      · conv => lhs; unfold readSample
        simp only [eq_comm]
    · split
      · subst_vars
        split
        · subst_vars
          split
          · subst_vars; exact readSample_below w'.2.2 (Nat.le_refl _)
          · rename_i h; conv => rhs; unfold readSample
            rw [if_neg (fun e => h e.symm)]
        · conv => lhs; unfold readSample
          split
          · subst_vars; simp
          · rename_i h; rw [if_neg (fun e => h e.symm)]; conv => rhs; unfold readSample
            rw [if_neg h]
      · conv => lhs; unfold readSample
        conv => rhs; unfold readSample
        split
        · subst_vars; rw [if_neg (by omega)]
        · exact readSample_writeSample_above a v b m (some k) w'.2.2

/-- A read after a write in a memory of the canonical form. -/
theorem readSample_writeSample (m : SampleMem) (h : Memory.wf m = true) (a : Nat) (v : Word) (b : Nat) :
    readSample (writeSample m a v) b = if b = a then v else readSample m b :=
  readSample_writeSample_above a v b m none h

/-- Equal reads at every position make equal memories of the canonical form. -/
theorem sampleMem_ext : ∀ (m n : SampleMem) (lo : Option Nat), risesAbove lo m = true → risesAbove lo n = true →
    (∀ a, readSample m a = readSample n a) → m = n
  | [], [], _, _, _, _ => rfl
  | [], (k, v) :: n, lo, _, w, h => by
    have := h k
    have w' := (risesAbove_cons ..).mp w
    simp [readSample] at this
    exact absurd this.symm w'.2.1
  | (k, v) :: m, [], lo, w, _, h => by
    have := h k
    have w' := (risesAbove_cons ..).mp w
    simp [readSample] at this
    exact absurd this w'.2.1
  | (k, v) :: m, (j, u) :: n, lo, w, x, h => by
    have w' := (risesAbove_cons ..).mp w
    have x' := (risesAbove_cons ..).mp x
    have hk := h k
    have hj := h j
    unfold readSample at hk hj
    rw [if_pos rfl] at hk hj
    have e : k = j := by
      rcases Nat.lt_trichotomy k j with l | l | l
      · rw [if_neg (by omega), readSample_below x'.2.2 (by omega)] at hk; exact absurd hk w'.2.1
      · exact l
      · rw [if_neg (by omega), readSample_below w'.2.2 (by omega)] at hj; exact absurd hj.symm x'.2.1
    subst e
    rw [if_pos rfl] at hk
    subst hk
    congr 1
    refine sampleMem_ext m n (some k) w'.2.2 x'.2.2 fun a => ?_
    by_cases l : a ≤ k
    · rw [readSample_below w'.2.2 l, readSample_below x'.2.2 l]
    · have ha := h a
      unfold readSample at ha
      rwa [if_neg (by omega), if_neg (by omega)] at ha

/-- A set written into a bank keeps the canonical form. -/
theorem writeSet_wf (m : SampleMem) (position : Nat) (x : Seven Cell) (h : Memory.wf m = true) :
    Memory.wf (writeSet m position x) = true := by
  unfold writeSet allChannels
  simp only [List.foldl]
  iterate 7 apply writeSample_wf
  exact h

/-- A bank that takes in a set keeps the canonical form. -/
theorem Bank.write_wf (b : Bank) (c : Settings) (x : Seven Cell) (h : Memory.wf b.samples = true) :
    Memory.wf (b.write c x).samples = true := by
  unfold Bank.write
  dsimp only
  split <;> exact writeSet_wf _ _ _ h

/-- The sample memories right after reset are in the canonical form. -/
theorem reset_samples_wf :
    Memory.wf State.reset.cap.a.samples = true ∧ Memory.wf State.reset.cap.b.samples = true := ⟨rfl, rfl⟩

end Sys2Proof.Machine
end

