-- ==== Sys2Proof/Laws/Effects.lean ====
section
/-! SUPPORT. What each block can do to the invariants of Safety.lean: `State.Effect` says what every effect of a timed event
keeps; one lemma per block operation, built from those of the shared operations. -/

namespace Sys2Proof.Machine

/-- What every timed event keeps: the store, the run state and the queue as they are, a set lockout set, and each invariant
of Safety.lean. -/
structure State.Keeps (s t : State) : Prop where
  cfg : t.cfg = s.cfg
  run : t.cfp.run = s.cfp.run
  pending : t.pending = s.pending
  latch : s.dbu.lockout = true → t.dbu.lockout = true
  outputs : s.CloseUnlocked → t.CloseUnlocked
  banks : s.BanksOk → t.BanksOk
  samples : s.SamplesOk → t.SamplesOk
  bias : s.cfp.run = .run → s.BiasOk → t.BiasOk
  link : s.cfp.run = .run → s.LinkOk → t.LinkOk
  counts : s.CountsOk → t.CountsOk
  attempt : s.AttemptOk → t.AttemptOk

theorem State.Keeps.refl (s : State) : State.Keeps s s :=
  ⟨rfl, rfl, rfl, id, id, id, id, fun _ => id, fun _ => id, id, id⟩

theorem State.Keeps.trans {s t u : State} (h : State.Keeps s t) (k : State.Keeps t u) : State.Keeps s u :=
  ⟨by rw [k.cfg, h.cfg], by rw [k.run, h.run], by rw [k.pending, h.pending], fun x => k.latch (h.latch x),
    fun x => k.outputs (h.outputs x), fun x => k.banks (h.banks x), fun x => k.samples (h.samples x),
    fun r x => k.bias (by rw [h.run, r]) (h.bias r x), fun r x => k.link (by rw [h.run, r]) (h.link r x),
    fun x => k.counts (h.counts x), fun x => k.attempt (h.attempt x)⟩

/-- The blocks around the ten that act at a cycle close are as they were: CVP, MSU, LKC, the image, TOP, the store, the queue,
and CFP but for its pending bits, of which none is cleared. -/
structure State.Around (s t : State) : Prop where
  rest : t = { s with
    cap := t.cap, pru := t.pru, dbu := t.dbu, bcu := t.bcu, clu := t.clu, syu := t.syu, gcu := t.gcu, fcu := t.fcu,
    tru := t.tru, cfp := { s.cfp with attention := t.cfp.attention } }
  bits : s.cfp.attention &&& t.cfp.attention = s.cfp.attention

theorem State.Around.refl (s : State) : State.Around s s := ⟨rfl, by simp⟩

theorem State.Around.trans {s t u : State} (h : State.Around s t) (k : State.Around t u) : State.Around s u :=
  ⟨by rw [k.rest, h.rest], word_grows_trans h.bits k.bits⟩

theorem State.Consequence.around {s t : State} (h : State.Consequence s t) : State.Around s t :=
  ⟨by rw [h.rest], h.bits⟩

/-- What a block's part of an event keeps. -/
structure State.Effect (s t : State) : Prop extends State.Keeps s t where
  around : State.Around s t

theorem State.Effect.refl (s : State) : State.Effect s s := ⟨.refl s, .refl s⟩

theorem State.Effect.trans {s t u : State} (h : State.Effect s t) (k : State.Effect t u) : State.Effect s u :=
  ⟨h.toKeeps.trans k.toKeeps, h.around.trans k.around⟩

/-- The items the invariants read, each the same in two states. -/
structure State.Same (s t : State) : Prop where
  cfg : t.cfg = s.cfg := by rfl
  run : t.cfp.run = s.cfp.run := by rfl
  pending : t.pending = s.pending := by rfl
  cap : t.cap = s.cap := by rfl
  bState : t.bcu.state = s.bcu.state := by rfl
  bTrip : t.bcu.trip = s.bcu.trip := by rfl
  bClose : t.bcu.close = s.bcu.close := by rfl
  bOwner : t.bcu.owner = s.bcu.owner := by rfl
  bHold : t.bcu.hold = s.bcu.hold := by rfl
  lockout : t.dbu.lockout = s.dbu.lockout := by rfl
  d1c : t.dbu.s1.confirm = s.dbu.s1.confirm := by rfl
  d1b : t.dbu.s1.blocked = s.dbu.s1.blocked := by rfl
  d2c : t.dbu.s2.confirm = s.dbu.s2.confirm := by rfl
  d2b : t.dbu.s2.blocked = s.dbu.s2.blocked := by rfl
  speed : t.gcu.speed = s.gcu.speed := by rfl
  volt : t.gcu.volt = s.gcu.volt := by rfl
  speedSent : t.cvp.speedSent = s.cvp.speedSent := by rfl
  voltSent : t.cvp.voltSent = s.cvp.voltSent := by rfl
  missing : t.cvp.missing = s.cvp.missing := by rfl
  bad : t.cvp.bad = s.cvp.bad := by rfl
  link : t.lkc.link = s.lkc.link := by rfl
  silence : t.lkc.silence = s.lkc.silence := by rfl
  mismatches : t.lkc.mismatches = s.lkc.mismatches := by rfl
  lates : t.lkc.lates = s.lkc.lates := by rfl
  relocks : t.lkc.relocks = s.lkc.relocks := by rfl
  operations : t.pru.operations = s.pru.operations := by rfl
  sState : t.syu.state = s.syu.state := by rfl
  sOwner : t.syu.owner = s.syu.owner := by rfl
  sPermit : t.syu.permit = s.syu.permit := by rfl

theorem State.Same.keeps {s t : State} (h : State.Same s t) : State.Keeps s t where
  cfg := h.cfg
  run := h.run
  pending := h.pending
  latch := by rw [h.lockout]; exact id
  outputs := by
    simp only [State.closeUnlocked_iff, BcuOk, h.bState, h.bTrip, h.bClose, h.bOwner, h.lockout]; exact id
  banks := by simp only [State.BanksOk, h.run, h.cap]; exact id
  samples := by simp only [State.SamplesOk, h.cap]; exact id
  bias := by
    intro _; simp only [State.BiasOk, h.speed, h.volt, h.speedSent, h.voltSent, h.run, h.cfg]; exact id
  link := by intro _; simp only [State.LinkOk, h.link, h.run]; exact id
  counts := by
    simp only [State.CountsOk, h.missing, h.bad, h.cap, h.silence, h.mismatches, h.lates, h.relocks, h.d1c, h.d1b, h.d2c,
      h.d2b, h.bHold, h.operations]
    exact id
  attempt := by simp only [State.AttemptOk, h.sState, h.sOwner, h.sPermit]; exact id

theorem State.Told.effect {s t : State} (h : State.Told s t) : State.Effect s t where
  around := h.around
  cfg := h.cfg
  run := h.run
  pending := h.pending
  latch := by rw [h.dbu]; exact id
  outputs x := x.told h
  banks := by simp only [State.BanksOk, h.run, h.cap]; exact id
  samples := by simp only [State.SamplesOk, h.cap]; exact id
  bias := by intro _; simp only [State.BiasOk, h.speed, h.volt, h.cvp, h.run, h.cfg]; exact id
  link := by intro _; simp only [State.LinkOk, h.lkc, h.run]; exact id
  counts := by simp only [State.CountsOk, h.cvp, h.cap, h.lkc, h.dbu, h.bcu, h.pru]; exact id
  attempt := h.attempt

/-! ### The shared operations -/

/-- A consequence that keeps the outputs, the hold count, DBU's counts, the bias codes and the attempt is an effect. -/
theorem State.Consequence.effect {s t : State} (h : State.Consequence s t)
    (latch : s.dbu.lockout = true → t.dbu.lockout = true) (outputs : s.CloseUnlocked → t.CloseUnlocked)
    (hold : s.bcu.hold ≤ 2 → t.bcu.hold ≤ 2) (d1 : t.dbu.s1 = s.dbu.s1) (d2 : t.dbu.s2 = s.dbu.s2)
    (speed : t.gcu.speed = s.gcu.speed) (volt : t.gcu.volt = s.gcu.volt) (attempt : s.AttemptOk → t.AttemptOk) :
    State.Effect s t where
  around := h.around
  cfg := h.cfg
  run := h.run
  pending := h.pending
  latch := latch
  outputs := outputs
  banks := by simp only [State.BanksOk, h.run, h.cap]; exact id
  samples := by simp only [State.SamplesOk, h.cap]; exact id
  bias := by intro _; simp only [State.BiasOk, speed, volt, h.cvp, h.run, h.cfg]; exact id
  link := by intro _; simp only [State.LinkOk, h.lkc, h.run]; exact id
  counts := by
    simp only [State.CountsOk, h.cvp, h.cap, h.lkc, d1, d2, h.pru]
    exact fun ⟨a, b, c, d, e, f⟩ => ⟨a, b, c, d, hold e, f⟩
  attempt := attempt

/-- What an operation on the breaker keeps beside the breaker itself. -/
structure State.Beside (s t : State) : Prop where
  speed : t.gcu.speed = s.gcu.speed
  volt : t.gcu.volt = s.gcu.volt
  attempt : s.AttemptOk → t.AttemptOk

theorem State.Beside.refl (s : State) : State.Beside s s := ⟨rfl, rfl, id⟩

theorem State.Beside.trans {s t u : State} (h : State.Beside s t) (k : State.Beside t u) : State.Beside s u :=
  ⟨by rw [k.speed, h.speed], by rw [k.volt, h.volt], fun x => k.attempt (h.attempt x)⟩

theorem State.Beside.told {s t : State} (h : State.Told s t) : State.Beside s t := ⟨h.speed, h.volt, h.attempt⟩

theorem State.Beside.withBcu (s : State) (f : Bcu → Bcu) : State.Beside s (s.withBcu f) := ⟨rfl, rfl, id⟩
theorem State.Beside.withDbu (s : State) (f : Dbu → Dbu) : State.Beside s (s.withDbu f) := ⟨rfl, rfl, id⟩
theorem State.Beside.raise (s : State) (b : Attention) : State.Beside s (s.raise b) := ⟨rfl, rfl, id⟩

theorem State.beside_closeOutcome (s : State) (o : CloseOutcome) : State.Beside s (s.closeOutcome o) := by
  unfold State.closeOutcome
  dsimp only
  repeat' split
  · exact (State.Beside.withBcu ..).trans (.told (State.told_cluOutcome ..))
  · exact (State.Beside.withBcu ..).trans (.told (State.told_syuEnd ..))
  · exact .withBcu ..
  · exact .withBcu ..

theorem State.beside_becomeClosed (s : State) (o : Option CloseOutcome) : State.Beside s (s.becomeClosed o) := by
  cases o with
  | none => exact (State.Beside.withBcu ..).trans (.told (State.told_cluWithdraw ..))
  | some c =>
    exact ((State.Beside.withBcu ..).trans (State.beside_closeOutcome ..)).trans (.told (State.told_cluWithdraw ..))

theorem State.beside_becomeOpen (s : State) (o : CloseOutcome) : State.Beside s (s.becomeOpen o) :=
  (State.Beside.withBcu ..).trans (State.beside_closeOutcome ..)

theorem State.beside_closeDrop (s : State) : State.Beside s s.closeDrop := by
  unfold State.closeDrop
  dsimp only
  split
  · cases s.pair
    · exact .withBcu ..
    · exact (State.Beside.withBcu ..).trans (State.beside_becomeOpen ..)
    · exact (State.Beside.withBcu ..).trans (State.beside_becomeClosed ..)
    · exact .withBcu ..
  · exact .refl s

theorem State.hold_closeDrop (s : State) : s.closeDrop.bcu.hold = s.bcu.hold := by
  rw [State.closeDrop_bcu]
  split
  · cases s.pair <;> rfl
  · rfl

theorem State.effect_closeDrop (s : State) : State.Effect s s.closeDrop :=
  (s.cons_closeDrop).effect (by rw [State.closeDrop_dbu]; exact id) (fun x => x.closeDrop)
    (by rw [State.hold_closeDrop]; exact id) (by rw [State.closeDrop_dbu]) (by rw [State.closeDrop_dbu])
    (s.beside_closeDrop).speed (s.beside_closeDrop).volt (s.beside_closeDrop).attempt

theorem State.beside_setLockout (s : State) (c : LockoutSource) : State.Beside s (s.setLockout c) := by
  unfold State.setLockout
  split
  · exact .refl s
  · exact (((State.Beside.withDbu ..).trans (.raise ..)).trans (State.beside_closeDrop _)).trans
      (.told (State.told_syuEndChecking ..))

theorem State.effect_setLockout (s : State) (c : LockoutSource) : State.Effect s (s.setLockout c) :=
  (s.cons_setLockout c).effect
    (by rw [State.setLockout_dbu]; intro h; rw [if_pos h]; exact h)
    (fun x => x.setLockout c)
    (by rw [State.setLockout_bcu]; split; exact id; rw [State.hold_closeDrop]; exact id)
    (by rw [State.setLockout_dbu]; split <;> rfl) (by rw [State.setLockout_dbu]; split <;> rfl)
    (s.beside_setLockout c).speed (s.beside_setLockout c).volt (s.beside_setLockout c).attempt

theorem State.beside_bfRequest (s : State) : State.Beside s s.bfRequest := by
  unfold State.bfRequest
  split
  · exact .withDbu ..
  · exact .refl _

theorem State.beside_bcuTrip (s : State) : State.Beside s s.bcuTrip := by
  unfold State.bcuTrip
  split <;> first
    | exact .refl _
    | exact .withBcu ..
    | exact (State.Beside.withBcu ..).trans (State.beside_closeOutcome ..)

theorem State.beside_tripRequest (s : State) : State.Beside s s.tripRequest :=
  (((State.Beside.withBcu ..).trans (State.beside_bfRequest _)).trans (State.beside_bcuTrip _)).trans
    (.told (State.told_syuEndChecking ..))

theorem State.effect_tripRequest (s : State) : State.Effect s s.tripRequest :=
  (s.cons_tripRequest).effect (by rw [State.tripRequest_lockout]; exact id) (fun x => x.tripRequest)
    (by rw [State.tripRequest_bcu]; cases s.bcu.state <;> simp [Bcu.assertTrip])
    (by rw [State.tripRequest_dbu, State.bfRequest_dbu]; split <;> rfl)
    (by rw [State.tripRequest_dbu, State.bfRequest_dbu]; split <;> rfl)
    (s.beside_tripRequest).speed (s.beside_tripRequest).volt (s.beside_tripRequest).attempt

theorem State.hold_releaseTest (s : State) (h : s.bcu.hold ≤ 2) : s.releaseTest.bcu.hold ≤ 2 := by
  unfold State.releaseTest
  split
  · simp
  · exact h

theorem State.beside_releaseTest (s : State) : State.Beside s s.releaseTest := by
  unfold State.releaseTest
  split
  · exact .withBcu ..
  · exact .refl s

theorem State.effect_releaseTest (s : State) : State.Effect s s.releaseTest :=
  (s.cons_releaseTest).effect (by rw [State.releaseTest_dbu]; exact id) (fun x => x.releaseTest) s.hold_releaseTest
    (by rw [State.releaseTest_dbu]) (by rw [State.releaseTest_dbu]) (s.beside_releaseTest).speed
    (s.beside_releaseTest).volt (s.beside_releaseTest).attempt

theorem State.hold_pairState (s : State) (p : Pair) (h : s.bcu.hold ≤ 2) : (s.pairState p).bcu.hold ≤ 2 := by
  unfold State.pairState
  cases s.bcu.state <;> cases p <;> dsimp only
  all_goals first
    | exact h
    | (rw [State.becomeClosed_bcu]; exact h)
    | exact s.hold_releaseTest h
    | (split
       · exact h
       · rw [State.becomeOpen_bcu]; exact h)
    | (rw [(State.told_syuEndChecking ..).bcu, State.becomeClosed_bcu]; exact h)
    | (rw [(State.told_uncommandedOpen _).bcu]; exact h)

theorem State.beside_pairState (s : State) (p : Pair) : State.Beside s (s.pairState p) := by
  unfold State.pairState
  cases s.bcu.state <;> cases p <;> dsimp only
  all_goals first
    | exact .refl s
    | exact .withBcu ..
    | exact State.beside_becomeClosed ..
    | exact State.beside_releaseTest ..
    | exact ((State.Beside.withBcu ..).trans (.raise ..)).trans ((State.beside_becomeClosed ..).trans
        (.told (State.told_syuEndChecking ..)))
    | exact (State.Beside.withBcu ..).trans (((State.Beside.withBcu ..).trans (.raise ..)).trans
        (.told (State.told_uncommandedOpen _)))
    | (split
       · exact .refl s
       · exact State.beside_becomeOpen ..)

theorem State.effect_pairEvent (s : State) : State.Effect s s.pairEvent := by
  refine (s.cons_pairEvent).effect (by rw [State.pairEvent_lockout]; exact id) (fun x => x.pairEvent) ?_ ?_ ?_ ?_ ?_ ?_
  all_goals unfold State.pairEvent
  all_goals split
  all_goals first
    | exact id
    | rfl
    | (intro h; exact State.hold_pairState _ _ (by rw [State.bfClear_bcu]; exact h))
    | (rw [State.pairState_dbu]; unfold State.bfClear; split <;> rfl)
    | (rw [(State.beside_pairState ..).speed]; unfold State.bfClear; split <;> rfl)
    | (rw [(State.beside_pairState ..).volt]; unfold State.bfClear; split <;> rfl)
    | (intro h; refine (State.beside_pairState ..).attempt ?_; unfold State.bfClear; split <;> exact h)

theorem State.effect_closeRequest (s : State) (u : CloseUnit) : State.Effect s (s.closeRequest u).1 := by
  refine (s.cons_closeRequest u).effect (by rw [State.closeRequest_dbu]; exact id) (fun x => x.closeRequest u) ?_
    (by rw [State.closeRequest_dbu]) (by rw [State.closeRequest_dbu]) ?_ ?_ ?_
  all_goals unfold State.closeRequest
  all_goals (repeat' split)
  all_goals first | exact id | rfl

/-- A change of BCU alone that keeps the outputs and the hold count. -/
theorem State.effect_withBcu (s : State) (f : Bcu → Bcu) (h : s.CloseUnlocked → (s.withBcu f).CloseUnlocked)
    (k : s.bcu.hold ≤ 2 → (f s.bcu).hold ≤ 2) : State.Effect s (s.withBcu f) :=
  (State.Consequence.withBcu s f).effect id h k rfl rfl rfl rfl id

theorem State.effect_becomeClosed (s : State) (o : Option CloseOutcome)
    (h : s.CloseUnlocked → o = none → s.bcu.owner = none) : State.Effect s (s.becomeClosed o) :=
  (s.cons_becomeClosed o).effect (by rw [State.becomeClosed_dbu]; exact id) (fun x => .becomeClosed (h x))
    (by rw [State.becomeClosed_bcu]; cases o <;> exact id) (by rw [State.becomeClosed_dbu]) (by rw [State.becomeClosed_dbu])
    (s.beside_becomeClosed o).speed (s.beside_becomeClosed o).volt (s.beside_becomeClosed o).attempt

/-- BCU at rest with its close ended, the outcome told last. -/
theorem State.effect_endClose (s : State) (x : BreakerState) (f : BreakerAlarms → BreakerAlarms) (o : CloseOutcome)
    (h₁ : x ≠ .closing) (h₂ : x ≠ .opening) (h₃ : x ≠ .failedOpen) :
    State.Effect s ((((s.withBcu fun b => b.rest x).breakerAlarm f)).closeOutcome o) := by
  refine (((State.Consequence.withBcu ..).trans (State.cons_breakerAlarm ..)).trans
    (State.cons_closeOutcome ..)).effect ?_ ?_ ?_ ?_ ?_ ?_ ?_ ?_
  · rw [State.closeOutcome_dbu]; exact id
  · intro _
    rw [State.closeUnlocked_iff, State.closeOutcome_bcu]
    simp [BcuOk, State.breakerAlarm_bcu, Bcu.rest, h₁, h₂, h₃]
  · rw [State.closeOutcome_bcu]; exact id
  · rw [State.closeOutcome_dbu]; rfl
  · rw [State.closeOutcome_dbu]; rfl
  · rw [(State.beside_closeOutcome ..).speed]; rfl
  · rw [(State.beside_closeOutcome ..).volt]; rfl
  · exact fun h => (State.beside_closeOutcome ..).attempt h

/-! ### CAP -/

theorem State.banks_withCap (s : State) (f : Cap → Cap) (h : s.BanksOk → (s.withCap f).BanksOk)
    (k : s.SamplesOk → (s.withCap f).SamplesOk) (l : s.cap.lost ≤ 255 → (f s.cap).lost ≤ 255) :
    State.Effect s (s.withCap f) where
  around := ⟨rfl, by simp⟩
  cfg := rfl
  run := rfl
  pending := rfl
  latch := id
  outputs := id
  banks := h
  samples := k
  bias _ := id
  link _ := id
  counts := fun ⟨a, b, c, d, e, g⟩ => ⟨a, l b, c, d, e, g⟩
  attempt := id

theorem State.effect_raise (s : State) (b : Attention) : State.Effect s (s.raise b) := (State.Told.raise s b).effect

/-- Taking a trigger (R21). -/
theorem State.effect_takeTrigger (s : State) (src : Trigger) : State.Effect s (s.takeTrigger src) := by
  unfold State.takeTrigger
  split
  · exact .refl s
  · rename_i b hb
    split
    · rename_i h
      refine s.banks_withCap _ ?_ ?_ ?_
      · intro k; revert k; unfold State.BanksOk; cases b <;> exact id
      · intro k; revert k; unfold State.SamplesOk; cases b <;> exact id
      · cases b <;> exact id
    · split
      · refine (s.banks_withCap _ ?_ ?_ ?_).trans (State.effect_raise ..)
        · exact id
        · exact id
        · intro _; exact Nat.min_le_left ..
      · rename_i h₁ h₂
        refine s.banks_withCap _ ?_ ?_ ?_
        · intro k
          revert hb k h₁ h₂
          unfold State.BanksOk Cap.current Bank.recording
          simp only [State.withCap_cfp, State.withCap_cap]
          cases b <;> simp only [Cap.bank, Cap.setBank, Bank.capture, Bool.not_true, Bool.not_false, if_true, if_false,
            Bool.false_eq_true] <;> cases s.cap.a.state <;> cases s.cap.b.state <;> cases s.cfp.run <;>
            simp [banksRun, banksConfig]
        · intro k; revert k; unfold State.SamplesOk; cases b <;> exact id
        · cases b <;> exact id

theorem State.effect_trigger (s : State) (src : Trigger) : State.Effect s (s.trigger src) := by
  unfold State.trigger
  split
  · exact s.effect_takeTrigger src
  · exact .refl s

end Sys2Proof.Machine
end

