-- ==== Sys2Proof/Laws/Blocks.lean ====
section
/-! SUPPORT. What each block's part of a cycle close or of a strobe keeps (`State.Effect`), block by block. -/

namespace Sys2Proof.Machine

theorem State.effect_foldl {α : Type} (f : State → α → State) (h : ∀ s a, State.Effect s (f s a)) :
    ∀ (l : List α) (s : State), State.Effect s (l.foldl f s)
  | [], s => .refl s
  | a :: l, s => (h s a).trans (State.effect_foldl f h l (f s a))

theorem State.Effect.andThen {s t : State} {p : Prop} [Decidable p] (f : State → State) (k : ∀ u, State.Effect u (f u))
    (h : State.Effect s t) : State.Effect s (if p then f t else t) := by
  split
  · exact h.trans (k t)
  · exact h

/-! ### PRU -/

theorem appendOperation_length (l : List Operation) (o : Operation) (h : l.length ≤ 8) :
    (appendOperation l o).length ≤ 8 := by
  unfold appendOperation
  dsimp only
  split
  · simp; omega
  · rename_i k; simp at k ⊢; omega

theorem appendOperations_length (c : Settings) (p : Pru) (n : Count) :
    ∀ (es : List Element) (l : List Operation), l.length ≤ 8 →
      (es.foldl (fun l e => appendOperation l (operationOf c p e n)) l).length ≤ 8
  | [], _, h => h
  | _ :: es, _, h => appendOperations_length c p n es _ (appendOperation_length _ _ h)

theorem State.effect_withPru (s : State) (f : Pru → Pru)
    (h : s.pru.operations.length ≤ 8 → (f s.pru).operations.length ≤ 8) : State.Effect s (s.withPru f) where
  around := ⟨rfl, by simp⟩
  cfg := rfl
  run := rfl
  pending := rfl
  latch := id
  outputs := id
  banks := id
  samples := id
  bias _ := id
  link _ := id
  counts := fun ⟨a, b, c, d, e, g⟩ => ⟨a, b, c, d, e, h g⟩
  attempt := id

theorem State.effect_issueTrip (s : State) : State.Effect s s.issueTrip :=
  ((State.effect_withPru _ _ id).trans (State.effect_raise ..)).trans (State.effect_trigger ..)

theorem State.effect_operated (s : State) (es : List Element) (n : Count) : State.Effect s (s.operated es n) := by
  have h₁ := s.effect_withPru (fun p =>
    { p with operations := es.foldl (fun l e => appendOperation l (operationOf s.cfg p e n)) p.operations })
    (appendOperations_length s.cfg s.pru n es _)
  unfold State.operated
  dsimp only
  refine State.Effect.trans (t := ?x) ?_ (?_ : State.Effect ?x _)
  case x =>
    exact (if es.any (fun e => elementAction s.cfg s.pru e == some .trip) then
      (s.withPru fun p => { p with
        operations := es.foldl (fun l e => appendOperation l (operationOf s.cfg p e n)) p.operations }).issueTrip
      else s.withPru fun p => { p with
        operations := es.foldl (fun l e => appendOperation l (operationOf s.cfg p e n)) p.operations })
  · split
    · exact h₁.trans (State.effect_issueTrip _)
    · exact h₁
  · generalize (if es.any (fun e => elementAction s.cfg s.pru e == some .trip) then _ else _ : State) = u
    repeat' split
    all_goals first
      | exact (State.effect_tripRequest _).trans (State.effect_setLockout ..)
      | exact State.effect_setLockout ..
      | exact State.effect_tripRequest _
      | exact .refl _

theorem State.effect_tripActiveTest (s : State) : State.Effect s s.tripActiveTest := by
  unfold State.tripActiveTest
  split
  · exact State.effect_withPru _ _ id
  · exact .refl s

theorem State.effect_pruEvaluate (s : State) (r : ResultSet) : State.Effect s (s.pruEvaluate r) :=
  ((State.effect_withPru _ _ id).trans (State.effect_operated ..)).trans (State.effect_tripActiveTest _)

theorem State.effect_pruClose (s : State) : State.Effect s s.pruClose := State.effect_withPru _ _ id

/-! ### DBU -/

/-- A change of DBU that keeps the lockout flag and the tops of the counts. -/
theorem State.effect_withDbu (s : State) (f : Dbu → Dbu) (h : (f s.dbu).lockout = s.dbu.lockout := by rfl)
    (k : ((s.dbu.s1.confirm ≤ 4 ∧ s.dbu.s1.blocked ≤ 3) ∧ s.dbu.s2.confirm ≤ 4 ∧ s.dbu.s2.blocked ≤ 3) →
      ((f s.dbu).s1.confirm ≤ 4 ∧ (f s.dbu).s1.blocked ≤ 3) ∧ (f s.dbu).s2.confirm ≤ 4 ∧ (f s.dbu).s2.blocked ≤ 3 := by
        exact id) : State.Effect s (s.withDbu f) where
  around := ⟨rfl, by simp⟩
  cfg := rfl
  run := rfl
  pending := rfl
  latch := by dsimp only [State.withDbu_dbu]; rw [h]; exact id
  outputs := by
    rw [State.closeUnlocked_iff, State.closeUnlocked_iff]; dsimp only [State.withDbu_dbu, State.withDbu_bcu]
    rw [h]; exact id
  banks := id
  samples := id
  bias _ := id
  link _ := id
  counts := fun ⟨a, b, c, d, e, g⟩ => ⟨a, b, c, k d, e, g⟩
  attempt := id

theorem State.effect_setDiff (s : State) (x : Sec) (f : SectionDiff → SectionDiff)
    (h : ∀ d, d.confirm ≤ 4 → d.blocked ≤ 3 → (f d).confirm ≤ 4 ∧ (f d).blocked ≤ 3) :
    State.Effect s (s.withDbu fun d => d.setDiff x f) := by
  refine s.effect_withDbu _ ?_ ?_
  · cases x <;> rfl
  · cases x <;> rintro ⟨⟨a, b⟩, c, d⟩ <;> simp only [Dbu.setDiff]
    · exact ⟨h _ a b, c, d⟩
    · exact ⟨⟨a, b⟩, h _ c d⟩

theorem State.effect_diffIssue (s : State) (x : Sec) : State.Effect s (s.diffIssue x) := by
  unfold State.diffIssue
  split
  · exact .refl s
  · exact (s.effect_setDiff x (fun t => { t with tripping := true }) fun _ a b => ⟨a, b⟩).trans (State.effect_raise ..)

theorem State.effect_diffTrip (s : State) (x : Sec) : State.Effect s (s.diffTrip x) :=
  ((s.effect_diffIssue x).trans (State.effect_tripRequest _)).trans (State.effect_setLockout ..)

theorem confirmAfter_le (n : Nat) (e : Evaluation) : confirmAfter n e ≤ 4 := by
  unfold confirmAfter satInc; split <;> omega

theorem blockedAfter_le (n : Nat) (e : Evaluation) (l : LinkState) : blockedAfter n e l ≤ 3 := by
  unfold blockedAfter satInc; repeat' split
  all_goals omega

theorem State.effect_diffClose (s : State) (x : Sec) : State.Effect s (s.diffClose x) := by
  unfold State.diffClose
  exact .andThen (State.diffTrip · x) (State.effect_diffTrip · x)
    (.andThen (State.raise · .zoneBlocked) (State.effect_raise · _)
      (.andThen (State.trigger · .diff) (State.effect_trigger · _)
        (s.effect_setDiff x _ fun _ _ _ => ⟨confirmAfter_le .., blockedAfter_le ..⟩)))

theorem State.effect_peerBfClose (s : State) : State.Effect s s.peerBfClose := by
  unfold State.peerBfClose
  exact .andThen (fun u => u.tripRequest.setLockout .peerBf)
    (fun u => u.effect_tripRequest.trans (State.effect_setLockout ..))
    ((State.Effect.andThen (fun u => (u.raise .bf).raise .trip)
      (fun u => (u.effect_raise _).trans (State.effect_raise ..)) (.refl s)).trans (State.effect_withDbu ..))

theorem State.effect_bfSeenClose (s : State) (x : Sec) : State.Effect s (s.bfSeenClose x) := by
  unfold State.bfSeenClose
  exact (State.Effect.andThen (State.trigger · .bf) (State.effect_trigger · _) (.refl s)).trans
    (State.effect_setDiff _ x (fun y => { y with bfSeen := s.noticeIn x }) fun _ a b => ⟨a, b⟩)

theorem State.effect_bfExpire (s : State) : State.Effect s s.bfExpire := by
  unfold State.bfExpire
  dsimp only
  refine State.Effect.trans ?_ ((State.effect_setLockout ..).trans (State.effect_raise ..))
  split
  · rename_i h
    refine (State.effect_withDbu ..).trans (State.effect_withBcu _ _ ?_ id)
    intro k
    rw [State.closeUnlocked_iff] at *
    simp only [State.withDbu_bcu, State.withDbu_dbu, State.withBcu_bcu, State.withBcu_dbu] at *
    unfold BcuOk at *
    obtain ⟨a, b, c, d⟩ := k
    have := b.mp h
    rcases this with e | e <;> simp_all
  · exact State.effect_withDbu ..

theorem State.effect_bfTick (s s0 : State) : State.Effect s (s.bfTick s0) := by
  unfold State.bfTick
  split
  · dsimp only
    split
    · exact (State.effect_withDbu ..).trans (State.effect_bfExpire _)
    · exact State.effect_withDbu ..
  · exact .refl s

theorem State.effect_dbuClose (s s0 : State) : State.Effect s (s.dbuClose s0) :=
  (((State.effect_foldl _ State.effect_diffClose _ _).trans (State.effect_peerBfClose _)).trans
    (State.effect_foldl _ State.effect_bfSeenClose _ _)).trans (State.effect_bfTick ..)

/-! ### BCU -/

theorem State.effect_supervisionExpire (s : State) : State.Effect s s.supervisionExpire := by
  unfold State.supervisionExpire
  split
  · exact s.effect_endClose .opened _ _ (by decide) (by decide) (by decide)
  · exact s.effect_becomeClosed _ (by simp)
  · exact s.effect_endClose .discrepant _ _ (by decide) (by decide) (by decide)

theorem State.effect_supervisionTick (s : State) : State.Effect s s.supervisionTick := by
  unfold State.supervisionTick
  split
  · dsimp only
    split
    · exact (State.effect_withBcu _ _ id id).trans (State.effect_supervisionExpire _)
    · exact State.effect_withBcu _ _ id id
  · exact .refl s

theorem State.effect_holdTick (s s0 : State) : State.Effect s (s.holdTick s0) := by
  unfold State.holdTick
  dsimp only
  refine State.Effect.trans ?_ (State.effect_releaseTest _)
  split
  · exact State.effect_withBcu _ _ id fun _ => Nat.min_le_left ..
  · exact .refl s

theorem State.effect_discrepancyExpire (s : State) (h : countsDiscrepancy s.bcu.state = true) :
    State.Effect s s.discrepancyExpire := by
  refine State.Effect.trans (State.effect_withBcu _ _ (fun k => ?_) id)
    (State.Effect.trans (State.effect_withBcu _ _ id id) (State.effect_raise ..))
  refine k.rest ?_ (by decide) (by decide) (by decide)
  intro e; rw [e] at h; cases h

theorem State.effect_discrepancyTick (s : State) : State.Effect s s.discrepancyTick := by
  unfold State.discrepancyTick
  split
  · exact .refl s
  · split
    · dsimp only
      split
      · rename_i h _
        exact (State.effect_withBcu _ _ id id).trans (State.effect_discrepancyExpire _ h)
      · exact State.effect_withBcu _ _ id id
    · exact .refl s

theorem State.effect_bcuCounts (s s0 : State) : State.Effect s (s.bcuCounts s0) :=
  ((s.effect_supervisionTick).trans (State.effect_holdTick ..)).trans (State.effect_discrepancyTick _)

theorem State.effect_bcuDrop (s s0 : State) : State.Effect s (s.bcuDrop s0) := by
  unfold State.bcuDrop
  split
  · exact s.effect_closeDrop
  · exact .refl s

theorem State.effect_bcuExtTrip (s : State) : State.Effect s s.bcuExtTrip := by
  unfold State.bcuExtTrip
  split
  · exact s.effect_tripRequest
  · exact .refl s

theorem State.effect_takeNews (s : State) (n : ContactNews) (t : StrobeTask) : State.Effect s (s.takeNews n t) := by
  cases t <;> unfold State.takeNews <;> dsimp only
  case measure => exact .refl s
  all_goals split
  all_goals first
    | exact .refl s
    | exact s.effect_pairEvent
    | exact s.effect_tripRequest
    | exact s.effect_closeDrop
    | exact s.effect_setLockout _

/-! ### CLU -/

theorem State.told_cluTrack (s : State) : State.Told s s.cluTrack := .withClu ..
theorem State.told_cluWinners (s : State) : State.Told s s.cluWinners := .withClu ..
theorem State.told_cluWon (s : State) : State.Told s s.cluWon := .withClu ..
theorem State.told_operatorResult (s : State) (r : OperatorResult) : State.Told s (s.operatorResult r) := .withClu ..

theorem State.told_operatorRaise (s : State) (x : Sec) (d : Bool) : State.Told s (s.operatorRaise x d) := by
  unfold State.operatorRaise
  dsimp only
  split
  all_goals exact ((State.told_cluRaise ..).trans (.withClu ..)).trans (State.told_operatorResult ..)

theorem State.told_routeOperator (s : State) : State.Told s s.routeOperator := by
  unfold State.routeOperator
  dsimp only
  repeat' split
  all_goals first
    | exact (State.told_operatorResult ..).trans (State.told_syuStart ..)
    | exact State.told_operatorRaise ..
    | exact State.told_operatorResult ..

theorem State.told_cluOperator (s : State) : State.Told s s.cluOperator := by
  unfold State.cluOperator
  split
  · exact (State.Told.withClu ..).trans (State.told_routeOperator _)
  · exact .refl s

theorem State.effect_cluRequest (s : State) (k : CloseKind) (x : Sec) (o : Origin) :
    State.Effect s (s.cluRequest k x o) := by
  have h := s.effect_closeRequest .clu
  unfold State.cluRequest
  split
  · rename_i t e
    rw [e] at h
    exact h.trans (State.Told.withClu ..).effect
  · rename_i t r e
    rw [e] at h
    exact h.trans (State.told_cluEnd ..).effect

theorem State.effect_cluDeadBus (s : State) (x : Sec) : State.Effect s (s.cluDeadBus x) := by
  unfold State.cluDeadBus
  split
  · exact .refl s
  · split
    · exact State.effect_cluRequest ..
    · exact .refl s

theorem State.effect_cluRestore (s : State) : State.Effect s s.cluRestore := by
  unfold State.cluRestore
  split
  · exact State.effect_cluRequest ..
  · exact .refl s

theorem State.effect_cluAbort (s : State) : State.Effect s s.cluAbort := by
  unfold State.cluAbort
  split
  · exact .refl s
  · split
    · exact ((State.Told.withClu ..).effect.trans (State.effect_raise ..)).trans (State.effect_closeDrop _)
    · exact .refl s

theorem State.told_cluWithdrawals (s : State) : State.Told s s.cluWithdrawals := by
  unfold State.cluWithdrawals
  repeat' split
  all_goals first
    | exact .refl s
    | exact s.told_cluWithdraw _

theorem State.told_cluWindow (s : State) : State.Told s s.cluWindow := by
  unfold State.cluWindow
  dsimp only
  repeat' split
  · exact (State.Told.withClu ..).trans (State.told_cluWithdraw ..)
  · exact .withClu ..
  · exact .refl s

theorem State.effect_cluClose (s : State) : State.Effect s s.cluClose :=
  (((((((((s.told_cluTrack.effect).trans (State.told_cluWinners _).effect).trans (State.told_cluOperator _).effect).trans
    (State.effect_cluDeadBus ..)).trans (State.effect_cluDeadBus ..)).trans (State.told_cluWon _).effect).trans
    (State.effect_cluAbort _)).trans (State.effect_cluRestore _)).trans (State.told_cluWithdrawals _).effect).trans
    (State.told_cluWindow _).effect

/-! ### SYU -/

theorem State.told_permitOff (s : State) : State.Told s (s.withSyu fun y => { y with permit := false }) :=
  .withSyu _ _ fun h => ⟨h.1, by simp⟩

theorem State.effect_syncExpire (s : State) : State.Effect s s.syncExpire :=
  (State.effect_raise ..).trans (State.told_syuEnd ..).effect

theorem State.effect_syncTick (s : State) : State.Effect s s.syncTick := by
  unfold State.syncTick
  dsimp only
  split
  · exact (State.Told.withSyu _ _ id).effect.trans (State.effect_syncExpire _)
  · exact (State.Told.withSyu _ _ id).effect

theorem State.closeRequest_syu (s : State) (u : CloseUnit) : (s.closeRequest u).1.syu = s.syu := by
  unfold State.closeRequest
  repeat' split
  all_goals rfl

theorem State.effect_syncPass (s : State) (h : s.syu.state = .checking) : State.Effect s s.syncPass := by
  have k := s.effect_closeRequest .syu
  have l := s.closeRequest_syu .syu
  unfold State.syncPass
  split
  · rename_i t e
    rw [e] at k l
    refine k.trans (State.Told.withSyu _ _ fun a => ?_).effect
    have : t.syu.owner.isSome = true := a.1.mpr (by dsimp only at l; rw [l, h]; decide)
    simp [State.AttemptOk, this]
  · rename_i t r e
    rw [e] at k
    exact k.trans (State.told_syuEnd ..).effect

theorem State.effect_syuClose (s : State) : State.Effect s s.syuClose := by
  unfold State.syuClose
  dsimp only
  split
  · rename_i h
    refine (s.told_permitOff.effect).trans ?_
    repeat' split
    · exact (State.told_syuEnd ..).effect
    · exact (State.told_syuEnd ..).effect
    · exact .refl _
    · exact State.effect_syncPass _ h.1
    · exact State.effect_syncTick _
  · exact s.told_permitOff.effect

end Sys2Proof.Machine
end

