-- ==== Sys2Proof/Laws/Orders.lean ====
section
/-! SUPPORT. The order an operand gives (logs 2 and 3) lists every task exactly once, and what a fold over such an order
comes to when one task alone touches a part of the state. -/

namespace Sys2Proof.Machine

variable {α β σ : Type}

theorem mem_firstOf [DecidableEq α] (x : α) : ∀ l : List α, x ∈ firstOf l ↔ x ∈ l
  | [] => by simp [firstOf]
  | y :: ys => by
    have ih := mem_firstOf x ys
    by_cases h : x = y <;> simp [firstOf, h, ih]

theorem firstOf_nodup [DecidableEq α] : ∀ l : List α, (firstOf l).Nodup
  | [] => by simp [firstOf]
  | y :: ys => by
    simp only [firstOf, List.nodup_cons, List.mem_filter, decide_eq_true_eq, ne_eq, not_true, and_false, not_false_eq_true,
      true_and]
    exact (firstOf_nodup ys).filter _

/-- An order over `all` lists what `all` lists. -/
theorem mem_orderOver [DecidableEq α] (all o : List α) (x : α) : x ∈ orderOver all o ↔ x ∈ all := by
  unfold orderOver
  dsimp only
  simp only [List.mem_append, List.mem_filter, mem_firstOf]
  by_cases h : x ∈ all <;> by_cases k : x ∈ o <;> simp [h, k]

/-- An order over `all` lists nothing twice, where `all` does not. -/
theorem orderOver_nodup [DecidableEq α] (all o : List α) (h : all.Nodup) : (orderOver all o).Nodup := by
  unfold orderOver
  dsimp only
  rw [List.nodup_append]
  refine ⟨firstOf_nodup _, h.filter _, fun a ha b hb hab => ?_⟩
  subst hab
  simp only [List.mem_filter, decide_eq_true_eq] at hb
  exact hb.2 ha

/-- A fold none of whose tasks changes a part leaves that part. -/
theorem foldl_part (f : σ → α → σ) (p : σ → β) :
    ∀ (l : List α) (s : σ), (∀ x ∈ l, ∀ u, p (f u x) = p u) → p (l.foldl f s) = p s
  | [], _, _ => rfl
  | x :: xs, s, h => by
    rw [List.foldl_cons, foldl_part f p xs (f s x) fun y hy => h y (List.mem_cons_of_mem _ hy)]
    exact h x List.mem_cons_self s

/-- A fold over a list without repeats in which one task `a` alone changes a part: the part is what `a` makes of it, from a
state with the part as it was. -/
theorem foldl_one (f : σ → α → σ) (p : σ → β) (a : α) :
    ∀ (l : List α) (s : σ), l.Nodup → a ∈ l → (∀ x ∈ l, x ≠ a → ∀ u, p (f u x) = p u) →
      ∃ u, p u = p s ∧ p (l.foldl f s) = p (f u a)
  | [], _, _, h, _ => absurd h List.not_mem_nil
  | x :: xs, s, hn, hm, hk => by
    rw [List.nodup_cons] at hn
    by_cases hx : x = a
    · subst hx
      refine ⟨s, rfl, ?_⟩
      rw [List.foldl_cons]
      refine foldl_part f p xs _ fun y hy => hk y (List.mem_cons_of_mem _ hy) fun h => ?_
      exact hn.1 (h ▸ hy)
    · have ha : a ∈ xs := by
        rcases List.mem_cons.mp hm with h | h
        · exact absurd h.symm hx
        · exact h
      obtain ⟨u, h1, h2⟩ := foldl_one f p a xs (f s x) hn.2 ha fun y hy => hk y (List.mem_cons_of_mem _ hy)
      exact ⟨u, h1.trans (hk x List.mem_cons_self hx s), h2⟩

end Sys2Proof.Machine
end

