-- ==== Sys2Proof/Laws/Sequences.lean ====
section
/-! SUPPORT. What GCU, FCU and TRU keep at a cycle close, and what a cycle close as a whole keeps (`State.Effect`). -/

namespace Sys2Proof.Machine

/-! ### GCU -/

theorem State.told_gcuCancel (s : State) : State.Told s s.gcuCancel :=
  (s.told_cancelClaim _).trans (State.told_cancelAttempt ..)

theorem State.told_gcuEnterSync (s : State) : State.Told s s.gcuEnterSync :=
  (s.told_gcuSet _).trans (State.told_syuStart ..)

theorem State.told_gcuEnterDeadbus (s : State) : State.Told s s.gcuEnterDeadbus :=
  (s.told_gcuSet _).trans (State.told_cluRaise ..)

theorem State.effect_openCooldown (s : State) : State.Effect s (s.tripRequest.gcuSet .cooldown) :=
  s.effect_tripRequest.trans (State.told_gcuSet ..).effect

theorem State.effect_gcuCommon (s t : State) (h : s.gcuCommon = some t) : State.Effect s t := by
  unfold State.gcuCommon at h
  dsimp only at h
  repeat' split at h
  all_goals cases h
  all_goals first
    | exact (s.told_gcuFail _).effect
    | exact (s.told_gcuCancel.trans (State.told_gcuSet ..)).effect
    | exact (s.told_gcuSet _).effect
    | exact s.effect_openCooldown

theorem State.told_gcuStarting (s : State) : State.Told s s.gcuStarting := by
  unfold State.gcuStarting
  dsimp only
  repeat' split
  all_goals first
    | exact .refl s
    | exact s.told_gcuSet _
    | exact s.told_gcuEnterDeadbus
    | exact s.told_gcuEnterSync
    | exact (State.Told.withGcu ..).trans (State.told_gcuFail ..)
    | exact .withGcu ..

theorem State.told_gcuDeadbus (s : State) : State.Told s s.gcuDeadbus := by
  unfold State.gcuDeadbus
  repeat' split
  all_goals first
    | exact .refl s
    | exact (s.told_cancelClaim _).trans (State.told_gcuSet ..)
    | exact (s.told_cancelClaim _).trans (State.told_gcuEnterSync _)
    | exact State.told_cluRaise ..

theorem State.told_gcuSync (s : State) : State.Told s s.gcuSync := by
  unfold State.gcuSync
  repeat' split
  all_goals first
    | exact .refl s
    | exact (s.told_cancelAttempt _).trans (State.told_gcuSet ..)
    | exact s.told_gcuEnterDeadbus
    | exact State.told_syuStart ..

theorem State.told_gcuSyncWait (s : State) : State.Told s s.gcuSyncWait := by
  unfold State.gcuSyncWait
  dsimp only
  repeat' split
  all_goals first
    | exact s.told_gcuSet _
    | exact (State.Told.withGcu ..).trans (State.told_gcuEnterSync _)
    | exact .withGcu ..

theorem State.told_gcuOnline (s : State) : State.Told s s.gcuOnline := by
  unfold State.gcuOnline
  split
  · exact (s.told_gcuSet _).trans (.withGcu ..)
  · exact .refl s

theorem State.effect_gcuUnload (s : State) : State.Effect s s.gcuUnload := by
  unfold State.gcuUnload
  dsimp only
  repeat' split
  all_goals first
    | exact (s.told_gcuSet _).effect
    | exact s.effect_openCooldown
    | exact (State.Told.withGcu ..).effect.trans (State.effect_openCooldown _)
    | exact ((State.Told.withGcu ..).trans (.withGcu ..)).effect

theorem State.told_gcuCooldown (s : State) : State.Told s s.gcuCooldown := by
  unfold State.gcuCooldown
  dsimp only
  repeat' split
  all_goals first
    | exact .refl s
    | exact s.told_gcuSet _
    | exact (State.Told.withGcu ..).trans (State.told_gcuSet ..)
    | exact .withGcu ..

theorem State.effect_gcuFailed (s : State) : State.Effect s s.gcuFailed := by
  unfold State.gcuFailed
  split
  · exact .refl s
  · exact s.effect_tripRequest

theorem State.effect_gcuState (s : State) : State.Effect s s.gcuState := by
  unfold State.gcuState
  split
  · split
    · exact (s.told_gcuSet _).effect
    · exact .refl s
  · exact s.told_gcuStarting.effect
  · exact s.told_gcuDeadbus.effect
  · exact s.told_gcuSync.effect
  · exact s.told_gcuSyncWait.effect
  · exact s.told_gcuOnline.effect
  · exact s.effect_gcuUnload
  · exact s.told_gcuCooldown.effect
  · exact s.effect_gcuFailed

theorem State.effect_gcuTests (s : State) : State.Effect s s.gcuTests := by
  unfold State.gcuTests
  split
  · exact .refl s
  · split
    · rename_i h; exact s.effect_gcuCommon _ h
    · exact s.effect_gcuState

theorem clamp_range (lo hi x : Int) (h : lo ≤ hi) : lo ≤ clamp lo hi x ∧ clamp lo hi x ≤ hi := by
  unfold clamp; repeat' split
  all_goals omega

theorem biasAfter_range (m : BiasMode) (b : Int) (d : Option Int) (h : biasCode b) : biasCode (biasAfter m b d) := by
  unfold biasAfter biasCode at *
  split
  · omega
  · split
    · exact clamp_range _ _ _ (by omega)
    · exact h

/-- The bias arithmetic keeps its codes in range; it runs in a generator alone (R162). -/
theorem State.effect_gcuBias (s : State) (g : s.cfg.isRole .generator = true) : State.Effect s s.gcuBias := by
  unfold State.gcuBias
  refine State.Effect.trans (t := if modeOf s.gcu.unit (s.droopNow != .none) s.top.own = .droop ∧ s.gcu.mode ≠ .droop then
    s.raise .droop else s) ?_ ⟨⟨rfl, rfl, rfl, id, id, id, id, ?_, fun _ => id, id, id⟩, ⟨rfl, by simp⟩⟩
  · exact .andThen (State.raise · .droop) (State.effect_raise · _) (.refl s)
  · intro r k
    have gt : (if modeOf s.gcu.unit (s.droopNow != .none) s.top.own = .droop ∧ s.gcu.mode ≠ .droop then
        s.raise .droop else s).cfg = s.cfg := by split <;> rfl
    refine ⟨⟨biasAfter_range _ _ _ k.1.1, biasAfter_range _ _ _ k.1.2⟩, k.2.1, ?_⟩
    rintro (e | e)
    · rw [State.withGcu_cfp, r] at e; cases e
    · rw [State.withGcu_cfg, gt, g] at e; cases e

theorem State.told_gcuView (s : State) : State.Told s s.gcuView := .withGcu ..

theorem State.effect_gcuClose (s : State) : State.Effect s s.gcuClose := by
  unfold State.gcuClose
  split
  · rename_i g
    have h := (s.told_gcuView.effect).trans (State.effect_gcuTests _)
    exact h.trans (State.effect_gcuBias _ (by rw [h.cfg]; exact g))
  · exact .refl s

/-! ### FCU -/

theorem State.effect_shed (s : State) (r : ShedReason) : State.Effect s (s.shed r) :=
  (s.effect_tripRequest.trans (State.Told.withFcu ..).effect).trans (State.effect_raise ..)

theorem State.told_fcuRestore (s : State) : State.Told s s.fcuRestore := by
  have h := s.told_cluRaise .fcu true s.cfg.ownSec false
  unfold State.fcuRestore
  split
  · split
    · split
      · rename_i e; rw [e] at h; exact h.trans (.withFcu ..)
      · rename_i e; rw [e] at h; exact h
    · exact .refl s
  · split
    · exact .refl s
    · exact (s.told_cancelClaim _).trans (.withFcu ..)
  · exact .refl s

theorem State.effect_fcuOperator (s : State) : State.Effect s s.fcuOperator := by
  unfold State.fcuOperator
  split
  · exact ((s.told_cancelClaim _).effect.trans (State.effect_tripRequest _)).trans (State.Told.withFcu ..).effect
  · exact .refl s

theorem State.told_fcuCounts (s : State) : State.Told s s.fcuCounts := .withFcu ..

/-- What follows FCU's counts at a cycle close: a shed that is due, a breaker found CLOSED, or the restoration. -/
theorem State.effect_fcuEnd (u : State) :
    State.Effect u (match u.shedDue with
      | some r => u.shed r
      | none => if u.foundClosed then u.withFcu fun f => { f.toNormal with cause := .none } else u.fcuRestore) := by
  split
  · exact u.effect_shed _
  · split
    · exact (State.Told.withFcu ..).effect
    · exact u.told_fcuRestore.effect

theorem State.effect_fcuClose (s : State) : State.Effect s s.fcuClose := by
  unfold State.fcuClose
  split
  · exact ((State.Told.withFcu ..).effect.trans (State.effect_fcuOperator _)).trans
      ((State.told_fcuCounts _).effect.trans (State.effect_fcuEnd _))
  · exact .refl s

/-! ### TRU -/

theorem State.told_truHealth (s : State) : State.Told s s.truHealth := by
  unfold State.truHealth
  split
  · exact .withTru ..
  · exact .refl s

theorem State.told_truRaise (s : State) (x : Sec) : State.Told s (s.truRaise x) := State.told_cluRaise ..

theorem State.told_truCancelUnlessClosing (s : State) : State.Told s s.truCancelUnlessClosing := by
  unfold State.truCancelUnlessClosing
  split
  · exact .refl s
  · exact s.told_cancelClaim _

theorem State.told_truEnterResync (s : State) : State.Told s s.truEnterResync :=
  (s.told_truLeave _).trans (State.told_syuStart ..)

theorem State.told_truNormal (s : State) : State.Told s s.truNormal := by
  unfold State.truNormal
  repeat' split
  all_goals first
    | exact s.told_truLeave _
    | exact .refl s

theorem State.effect_tripLeave (s : State) (x : TransferState) : State.Effect s (s.tripRequest.truLeave x) :=
  s.effect_tripRequest.trans (State.told_truLeave ..).effect

theorem State.effect_truLossConfirm (s : State) : State.Effect s s.truLossConfirm := by
  unfold State.truLossConfirm
  dsimp only
  repeat' split
  all_goals first
    | exact (s.told_truLeave _).effect
    | exact (State.Told.withTru ..).effect.trans (State.effect_tripLeave ..)
    | exact (State.Told.withTru ..).effect
    | exact .refl s

theorem State.effect_truIsolating (s : State) : State.Effect s s.truIsolating := by
  unfold State.truIsolating
  split
  · exact (s.told_truLeave _).effect
  · exact s.effect_tripRequest

theorem State.told_truDeadWait (s : State) : State.Told s s.truDeadWait := by
  unfold State.truDeadWait
  dsimp only
  repeat' split
  all_goals first
    | exact s.told_truLeave _
    | exact s.told_truCancelUnlessClosing.trans (State.told_truRaise ..)
    | exact s.told_truRaise _
    | exact s.told_truCancelUnlessClosing
    | exact .refl s

theorem State.told_truOnAlternate (s : State) : State.Told s s.truOnAlternate := by
  unfold State.truOnAlternate
  repeat' split
  all_goals first
    | exact s.told_truLeave _
    | exact .refl s

theorem State.told_truReturnWait (s : State) : State.Told s s.truReturnWait := by
  unfold State.truReturnWait
  dsimp only
  repeat' split
  all_goals first
    | exact s.told_truLeave _
    | exact (State.Told.withTru ..).trans (State.told_truEnterResync _)
    | exact .withTru ..
    | exact .refl s

theorem State.told_truResyncOut (s : State) : State.Told s s.truResyncOut := by
  unfold State.truResyncOut
  split
  · exact s.told_truLeave _
  · exact (s.told_truLeave _).trans (.withTru ..)

theorem State.told_truResync (s : State) : State.Told s s.truResync := by
  unfold State.truResync
  dsimp only
  repeat' split
  all_goals first
    | exact s.told_truLeave _
    | exact (State.Told.withTru ..).trans (State.told_truResyncOut _)
    | exact (State.Told.withTru ..).trans (State.told_syuStart ..)
    | exact .withTru ..
    | exact .refl s

theorem State.told_truParallelTick (s : State) : State.Told s s.truParallelTick := .withTru ..

theorem State.effect_truParallel (s : State) : State.Effect s s.truParallel := by
  unfold State.truParallel
  repeat' split
  all_goals first
    | exact (s.told_truLeave _).effect
    | exact s.effect_tripLeave _
    | exact s.told_truParallelTick.effect

theorem State.told_truOpenReturn (s : State) : State.Told s s.truOpenReturn := by
  unfold State.truOpenReturn
  repeat' split
  all_goals first
    | exact s.told_truLeave _
    | exact s.told_truSet _
    | exact s.told_truRaise _
    | exact .refl s

theorem State.effect_truIncomerState (s : State) : State.Effect s s.truIncomerState := by
  unfold State.truIncomerState
  repeat' split
  all_goals first
    | exact .refl s
    | exact (s.told_truLeave _).effect
    | exact s.told_truNormal.effect
    | exact s.effect_truLossConfirm
    | exact s.effect_truIsolating
    | exact s.told_truDeadWait.effect
    | exact s.told_truOnAlternate.effect
    | exact s.told_truReturnWait.effect
    | exact s.told_truResync.effect
    | exact s.effect_truParallel
    | exact s.told_truOpenReturn.effect

theorem State.told_truDerive (s : State) : State.Told s s.truDerive := by
  unfold State.truDerive
  split
  · exact (s.told_truSet _).trans (.withTru ..)
  · exact .refl s

theorem State.told_tieOpenTests (s : State) : State.Told s s.tieOpenTests := by
  unfold State.tieOpenTests
  repeat' split
  all_goals first
    | exact (s.told_truLeave _).trans (State.told_truRaise ..)
    | exact .refl s

theorem State.told_tieClaimTests (s : State) (x : Sec) : State.Told s (s.tieClaimTests x) := by
  unfold State.tieClaimTests
  repeat' split
  all_goals first
    | exact s.told_truLeave _
    | exact s.told_truRaise _
    | exact .refl s

theorem State.effect_tieFeedingTests (s : State) (x : Sec) : State.Effect s (s.tieFeedingTests x) := by
  unfold State.tieFeedingTests
  repeat' split
  all_goals first
    | exact (s.told_truLeave _).effect
    | exact s.effect_tripLeave _
    | exact .refl s

theorem State.effect_truTieState (s : State) : State.Effect s s.truTieState := by
  unfold State.truTieState
  repeat' split
  all_goals first
    | exact s.told_tieOpenTests.effect
    | exact (s.told_tieClaimTests _).effect
    | exact s.effect_tieFeedingTests _
    | exact .refl s

theorem State.effect_truTests (s : State) : State.Effect s s.truTests := by
  unfold State.truTests
  split
  · refine .andThen State.truDerive (fun u => u.told_truDerive.effect) ?_
    repeat' split
    all_goals first
      | exact .refl s
      | exact s.effect_truIncomerState
      | exact s.effect_truTieState
  · exact .refl s

theorem State.told_truReference (s : State) : State.Told s s.truReference := by
  unfold State.truReference
  split
  · exact .withTru ..
  · exact .refl s

theorem State.effect_truClose (s : State) : State.Effect s s.truClose := by
  unfold State.truClose
  split
  · exact (s.effect_truTests.trans (State.told_truReference _).effect).trans (State.told_truReflag _).effect
  · exact .refl s

/-! ### The cycle close -/

/-- A block of a cycle close. -/
theorem State.effect_closeBlock (s s0 : State) (b : CloseBlock) : State.Effect s (s.closeBlock s0 b) := by
  cases b
  · exact s.effect_pruClose
  · exact s.effect_dbuClose s0
  · exact s.effect_bcuCounts s0
  · exact s.effect_bcuDrop s0
  · exact s.effect_bcuExtTrip
  · exact s.effect_cluClose
  · exact s.effect_syuClose
  · exact s.effect_gcuClose
  · exact s.effect_fcuClose
  · exact s.effect_truClose

/-- The blocks of a cycle close, whatever their order. -/
theorem State.effect_closeBlocks (s s0 : State) (o : List CloseBlock) : State.Effect s (s.closeBlocks s0 o) :=
  State.effect_foldl _ (fun t b => t.effect_closeBlock s0 b) _ s

end Sys2Proof.Machine
end

