-- ==== Sys2Proof/Laws/Close.lean ====
section
/-! SUPPORT. What a cycle close comes to: the link's part, TOP, and the blocks, of which PRU's part alone changes PRU. -/

namespace Sys2Proof.Machine

/-! ### PRU changes in its own part alone -/

theorem State.Told.pru {s t : State} (h : State.Told s t) : t.pru = s.pru := h.toConsequence.pru

theorem State.trigger_pru (s : State) (k : Trigger) : (s.trigger k).pru = s.pru := by
  unfold State.trigger State.takeTrigger
  repeat' split
  all_goals rfl

/-- A fold of parts that leave PRU leaves PRU. -/
theorem State.foldl_pru {α : Type} (f : State → α → State) (h : ∀ u a, (f u a).pru = u.pru) (l : List α) (s : State) :
    (l.foldl f s).pru = s.pru :=
  foldl_part f State.pru l s fun x _ u => h u x

theorem State.diffTrip_pru (s : State) (x : Sec) : (s.diffTrip x).pru = s.pru := by
  unfold State.diffTrip
  rw [(State.cons_setLockout ..).pru, (State.cons_tripRequest _).pru]
  unfold State.diffIssue
  split <;> rfl

theorem State.diffClose_pru (s : State) (x : Sec) : (s.diffClose x).pru = s.pru := by
  unfold State.diffClose
  dsimp only
  repeat' split
  all_goals
    first
    | rfl
    | exact State.trigger_pru _ _
    | (rw [State.diffTrip_pru]; first | rfl | exact State.trigger_pru _ _)

theorem State.peerBfClose_pru (s : State) : s.peerBfClose.pru = s.pru := by
  unfold State.peerBfClose
  dsimp only
  repeat' split
  all_goals
    first
    | rfl
    | (rw [(State.cons_setLockout ..).pru, (State.cons_tripRequest _).pru]; rfl)

theorem State.bfSeenClose_pru (s : State) (x : Sec) : (s.bfSeenClose x).pru = s.pru := by
  unfold State.bfSeenClose
  dsimp only
  split
  · exact State.trigger_pru ..
  · rfl

theorem State.bfExpire_pru (s : State) : s.bfExpire.pru = s.pru := by
  unfold State.bfExpire
  dsimp only
  rw [(State.Consequence.raise ..).pru, (State.cons_setLockout ..).pru]
  split <;> rfl

theorem State.bfTick_pru (s s0 : State) : (s.bfTick s0).pru = s.pru := by
  unfold State.bfTick
  split
  · dsimp only
    split
    · exact State.bfExpire_pru _
    · rfl
  · rfl

theorem State.dbuClose_pru (s s0 : State) : (s.dbuClose s0).pru = s.pru := by
  unfold State.dbuClose
  dsimp only
  rw [State.bfTick_pru, State.foldl_pru _ State.bfSeenClose_pru, State.peerBfClose_pru, State.foldl_pru _ State.diffClose_pru]

theorem State.bcuCounts_pru (s s0 : State) : (s.bcuCounts s0).pru = s.pru := by
  have a : ∀ u : State, u.supervisionExpire.pru = u.pru := by
    intro u
    unfold State.supervisionExpire
    split
    · exact (State.cons_closeOutcome ..).pru
    · exact (State.cons_becomeClosed ..).pru
    · exact (State.cons_closeOutcome ..).pru
  have b : (s.supervisionTick.holdTick s0).pru = s.pru := by
    unfold State.holdTick
    dsimp only
    rw [(State.cons_releaseTest _).pru]
    have c : s.supervisionTick.pru = s.pru := by
      unfold State.supervisionTick
      split
      · dsimp only
        split
        · exact a _
        · rfl
      · rfl
    split
    · exact c
    · exact c
  have d : ∀ u : State, u.discrepancyTick.pru = u.pru := by
    intro u
    unfold State.discrepancyTick
    dsimp only
    repeat' split
    all_goals rfl
  unfold State.bcuCounts
  rw [d, b]

theorem State.cluRequest_pru (s : State) (k : CloseKind) (x : Sec) (o : Origin) : (s.cluRequest k x o).pru = s.pru := by
  have c := (State.cons_closeRequest s .clu).pru
  unfold State.cluRequest
  split
  · rename_i h; rw [h] at c; exact c
  · rename_i h; rw [h] at c; exact (State.told_cluEnd ..).pru.trans c

theorem State.cluClose_pru (s : State) : s.cluClose.pru = s.pru := by
  have d : ∀ (u : State) (x : Sec), (u.cluDeadBus x).pru = u.pru := by
    intro u x
    unfold State.cluDeadBus
    repeat' split
    all_goals first | rfl | exact State.cluRequest_pru ..
  have a : ∀ u : State, u.cluAbort.pru = u.pru := by
    intro u
    unfold State.cluAbort
    repeat' split
    all_goals first | rfl | exact (State.cons_closeDrop _).pru
  have r : ∀ u : State, u.cluRestore.pru = u.pru := by
    intro u
    unfold State.cluRestore
    split
    · exact State.cluRequest_pru ..
    · rfl
  unfold State.cluClose State.cluActs
  rw [(State.told_cluWindow _).pru, (State.told_cluWithdrawals _).pru, r, a, (State.told_cluWon _).pru, d, d,
    (State.told_cluOperator _).pru, (State.told_cluWinners _).pru, (State.told_cluTrack _).pru]

theorem State.syuClose_pru (s : State) : s.syuClose.pru = s.pru := by
  unfold State.syuClose
  dsimp only
  repeat' split
  all_goals try rfl
  · exact (State.told_syuEnd ..).pru
  · exact (State.told_syuEnd ..).pru
  · unfold State.syncPass
    have c := (State.cons_closeRequest (s.withSyu fun y => { y with permit := false }) .syu).pru
    split
    · rename_i h; rw [h] at c; exact c
    · rename_i h; rw [h] at c; exact (State.told_syuEnd ..).pru.trans c
  · unfold State.syncTick
    dsimp only
    split
    · exact (State.told_syuEnd ..).pru
    · rfl

theorem State.gcuClose_pru (s : State) : s.gcuClose.pru = s.pru := by
  have common : ∀ u t : State, u.gcuCommon = some t → t.pru = u.pru := by
    intro u t h
    unfold State.gcuCommon at h
    dsimp only at h
    repeat' split at h
    all_goals cases h
    · exact (State.told_gcuFail ..).pru
    · exact ((State.told_gcuCancel _).trans (State.told_gcuSet ..)).pru
    · exact (State.told_gcuSet ..).pru
    · exact (State.told_gcuSet ..).pru.trans (State.cons_tripRequest _).pru
    · exact ((State.told_gcuCancel _).trans (State.told_gcuSet ..)).pru
  have state : ∀ u : State, u.gcuState.pru = u.pru := by
    intro u
    unfold State.gcuState
    split
    · split
      · exact (State.told_gcuSet ..).pru
      · rfl
    · exact (State.told_gcuStarting _).pru
    · exact (State.told_gcuDeadbus _).pru
    · exact (State.told_gcuSync _).pru
    · exact (State.told_gcuSyncWait _).pru
    · exact (State.told_gcuOnline _).pru
    · unfold State.gcuUnload
      dsimp only
      repeat' split
      all_goals
        first
        | rfl
        | exact (State.told_gcuSet ..).pru
        | exact (State.told_gcuSet ..).pru.trans (State.cons_tripRequest _).pru
    · exact (State.told_gcuCooldown _).pru
    · unfold State.gcuFailed
      split
      · rfl
      · exact (State.cons_tripRequest _).pru
  have tests : ∀ u : State, u.gcuTests.pru = u.pru := by
    intro u
    unfold State.gcuTests
    split
    · rfl
    · split
      · rename_i h; exact common _ _ h
      · exact state _
  unfold State.gcuClose
  split
  · have b : ∀ u : State, u.gcuBias.pru = u.pru := by
      intro u
      unfold State.gcuBias
      dsimp only
      split <;> rfl
    rw [b, tests]; rfl
  · rfl

theorem State.fcuClose_pru (s : State) : s.fcuClose.pru = s.pru := by
  have o : ∀ u : State, u.fcuOperator.pru = u.pru := by
    intro u
    unfold State.fcuOperator
    split
    · exact (State.Consequence.withFcu ..).pru.trans ((State.cons_tripRequest _).pru.trans (State.told_cancelClaim ..).pru)
    · rfl
  have sh : ∀ (u : State) (r : ShedReason), (u.shed r).pru = u.pru := by
    intro u r
    unfold State.shed
    rw [(State.Consequence.raise ..).pru, (State.Consequence.withFcu ..).pru, (State.cons_tripRequest _).pru]
  unfold State.fcuClose
  dsimp only
  split
  · split
    · rw [sh, (State.told_fcuCounts _).pru, o]; rfl
    · split
      · rw [(State.Consequence.withFcu ..).pru, (State.told_fcuCounts _).pru, o]; rfl
      · rw [(State.told_fcuRestore _).pru, (State.told_fcuCounts _).pru, o]; rfl
  · rfl

theorem State.truClose_pru (s : State) : s.truClose.pru = s.pru := by
  have lc : ∀ u : State, u.truLossConfirm.pru = u.pru := by
    intro u
    unfold State.truLossConfirm
    repeat' split
    all_goals
      first
      | rfl
      | exact (State.told_truLeave ..).pru
      | exact (State.told_truLeave ..).pru.trans (State.cons_tripRequest _).pru
  have isol : ∀ u : State, u.truIsolating.pru = u.pru := by
    intro u
    unfold State.truIsolating
    repeat' split
    all_goals
      first
      | rfl
      | exact (State.told_truLeave ..).pru
      | exact (State.cons_tripRequest _).pru
  have par : ∀ u : State, u.truParallel.pru = u.pru := by
    intro u
    unfold State.truParallel
    repeat' split
    all_goals
      first
      | rfl
      | exact (State.told_truLeave ..).pru
      | exact (State.told_truLeave ..).pru.trans (State.cons_tripRequest _).pru
  have inc : ∀ u : State, u.truIncomerState.pru = u.pru := by
    intro u
    unfold State.truIncomerState
    repeat' split
    all_goals
      first
      | rfl
      | exact (State.told_truLeave ..).pru
      | exact (State.told_truNormal _).pru
      | exact lc _
      | exact isol _
      | exact (State.told_truDeadWait _).pru
      | exact (State.told_truOnAlternate _).pru
      | exact (State.told_truReturnWait _).pru
      | exact (State.told_truResync _).pru
      | exact par _
      | exact (State.told_truOpenReturn _).pru
  have feed : ∀ (u : State) (x : Sec), (u.tieFeedingTests x).pru = u.pru := by
    intro u x
    unfold State.tieFeedingTests
    repeat' split
    all_goals
      first
      | rfl
      | exact (State.told_truLeave ..).pru
      | exact (State.told_truSet ..).pru.trans (State.cons_tripRequest _).pru
      | exact (State.told_truSet ..).pru
      | exact (State.told_truLeave ..).pru.trans (State.cons_tripRequest _).pru
  have tie : ∀ u : State, u.truTieState.pru = u.pru := by
    intro u
    unfold State.truTieState
    repeat' split
    all_goals
      first
      | rfl
      | exact (State.told_truLeave ..).pru
      | exact (State.told_tieOpenTests _).pru
      | exact (State.told_tieClaimTests ..).pru
      | exact feed _ _
  have tests : ∀ u : State, u.truTests.pru = u.pru := by
    intro u
    unfold State.truTests
    have der : ∀ v : State, (if v.tru.derive = true then v.truDerive else v).pru = v.pru := by
      intro v
      split
      · exact (State.told_truDerive _).pru
      · rfl
    dsimp only
    split
    · refine (der _).trans ?_
      repeat' split
      all_goals
        first
        | rfl
        | exact inc _
        | exact tie _
    · rfl
  unfold State.truClose
  split
  · rw [(State.told_truReflag _).pru, (State.told_truReference _).pru, tests]
  · rfl

/-- Every part of a cycle close but PRU's leaves PRU. -/
theorem State.closeBlock_pru (s s0 : State) (b : CloseBlock) (h : b ≠ .pru) : (s.closeBlock s0 b).pru = s.pru := by
  cases b
  · exact absurd rfl h
  · exact State.dbuClose_pru ..
  · exact State.bcuCounts_pru ..
  · unfold State.closeBlock State.bcuDrop
    dsimp only
    split
    · exact (State.cons_closeDrop _).pru
    · rfl
  · unfold State.closeBlock State.bcuExtTrip
    dsimp only
    split
    · exact (State.cons_tripRequest _).pru
    · rfl
  · exact State.cluClose_pru _
  · exact State.syuClose_pru _
  · exact State.gcuClose_pru _
  · exact State.fcuClose_pru _
  · exact State.truClose_pru _

/-- The blocks of a cycle close, in every order, select the groups once. -/
theorem State.closeBlocks_pru (s s0 : State) (o : List CloseBlock) :
    (s.closeBlocks s0 o).pru = s.pru.select s.cfg s.top.own := by
  let part (u : State) := (u.pru, u.cfg, u.top.own)
  have keep : ∀ (u : State) (b : CloseBlock), (u.closeBlock s0 b).cfg = u.cfg ∧ (u.closeBlock s0 b).top = u.top := by
    intro u b
    have e := (State.effect_closeBlock u s0 b).around.rest
    constructor <;> rw [e]
  obtain ⟨u, h1, h2⟩ := foldl_one (fun t b => t.closeBlock s0 b) part CloseBlock.pru (orderOver allBlocks o) s
    (orderOver_nodup _ _ (by decide)) ((mem_orderOver ..).mpr (by decide)) fun b _ hb u => by
      show (_, _, _) = (_, _, _)
      rw [(keep u b).1, (keep u b).2, State.closeBlock_pru u s0 b hb]
  have e : (s.closeBlocks s0 o).pru = (u.closeBlock s0 .pru).pru := congrArg Prod.fst h2
  have p : u.pru = s.pru ∧ u.cfg = s.cfg ∧ u.top.own = s.top.own := by
    simpa only [part, Prod.mk.injEq] using h1
  rw [e, ← p.1, ← p.2.1, ← p.2.2]
  rfl

/-! ### What is formed before the blocks act -/

/-- LKC at a cycle close changes the link and the pending bits alone, and neither number nor count. -/
theorem State.linkClose_only (s : State) : ∃ l a, s.linkClose = { s with lkc := l, cfp := { s.cfp with attention := a } } ∧
    l.number = s.lkc.number ∧ l.count = s.lkc.count := by
  have h : ∀ l : Lkc, (l.closeState).number = l.number ∧ (l.closeState).count = l.count := by
    intro l
    unfold Lkc.closeState
    repeat' split
    all_goals exact ⟨rfl, rfl⟩
  have e := h s.lkc.closeHeard
  unfold State.linkClose
  dsimp only
  split
  · unfold State.becomeSelfTimed
    dsimp only
    split
    · exact ⟨_, _, rfl, e⟩
    · exact ⟨_, _, rfl, e⟩
  · exact ⟨_, _, rfl, e⟩

/-- The utility health of a cycle close changes TRU alone. -/
theorem State.truHealth_only (s : State) : ∃ u, s.truHealth = { s with tru := u } := by
  unfold State.truHealth
  dsimp only
  repeat' split
  all_goals exact ⟨_, rfl⟩

/-- TOP reads the image, the count and number of the link, and the store. -/
theorem State.formTopology_congr {s t : State} (h1 : t.pim = s.pim) (h2 : t.lkc.number = s.lkc.number)
    (h3 : t.lkc.count = s.lkc.count) (h4 : t.cfg = s.cfg) (b : Bool) : t.formTopology b = s.formTopology b := by
  obtain ⟨cfg, _, _, _, l, pim⟩ := s
  obtain ⟨cfg', _, _, _, l', pim'⟩ := t
  cases l
  cases l'
  dsimp only at h1 h2 h3 h4
  subst h1 h2 h3 h4
  rfl

/-- What the forming of a cycle close reads stands: the store, the image, CVP, PRU, the window and its results, and the
link's number and count. -/
structure State.Stands (s t : State) : Prop where
  cfg : t.cfg = s.cfg
  pim : t.pim = s.pim
  cvp : t.cvp = s.cvp
  pru : t.pru = s.pru
  window : t.msu.window = s.msu.window
  newest : t.msu.newest = s.msu.newest
  older : t.msu.older = s.msu.older
  number : t.lkc.number = s.lkc.number
  count : t.lkc.count = s.lkc.count

theorem State.Stands.trans {s t u : State} (a : State.Stands s t) (b : State.Stands t u) : State.Stands s u :=
  ⟨b.cfg.trans a.cfg, b.pim.trans a.pim, b.cvp.trans a.cvp, b.pru.trans a.pru, b.window.trans a.window,
    b.newest.trans a.newest, b.older.trans a.older, b.number.trans a.number, b.count.trans a.count⟩

theorem State.clearMarks_stands (s : State) : State.Stands s s.clearMarks ∧ s.clearMarks.msu = s.msu := by
  have e : ∃ b c y g f u, s.clearMarks = { s with bcu := b, clu := c, syu := y, gcu := g, fcu := f, tru := u } := by
    unfold State.clearMarks State.withBcu State.withClu State.withSyu State.withGcu State.withFcu State.withTru
    exact ⟨_, _, _, _, _, _, rfl⟩
  obtain ⟨b, c, y, g, f, u, e⟩ := e
  rw [e]; exact ⟨⟨rfl, rfl, rfl, rfl, rfl, rfl, rfl, rfl, rfl⟩, rfl⟩

theorem State.linkClose_stands (s : State) : State.Stands s s.linkClose ∧ s.linkClose.msu = s.msu := by
  obtain ⟨l, a, h, hn, hc⟩ := State.linkClose_only s
  rw [h]; exact ⟨⟨rfl, rfl, rfl, rfl, rfl, rfl, rfl, hn, hc⟩, rfl⟩

theorem State.msuClose_stands (s : State) : State.Stands s s.msuClose := ⟨rfl, rfl, rfl, rfl, rfl, rfl, rfl, rfl, rfl⟩

theorem State.topClose_stands (s : State) : State.Stands s s.topClose ∧ s.topClose.msu = s.msu := ⟨⟨rfl, rfl, rfl, rfl, rfl, rfl, rfl, rfl, rfl⟩, rfl⟩

theorem State.checkClose_stands (s : State) : State.Stands s s.checkClose ∧ s.checkClose.msu = s.msu ∧ s.checkClose.top = s.top := ⟨⟨rfl, rfl, rfl, rfl, rfl, rfl, rfl, rfl, rfl⟩, rfl, rfl⟩

theorem State.truHealth_stands (s : State) : State.Stands s s.truHealth ∧ s.truHealth.msu = s.msu ∧ s.truHealth.top = s.top := by
  obtain ⟨u, h⟩ := State.truHealth_only s
  rw [h]; exact ⟨⟨rfl, rfl, rfl, rfl, rfl, rfl, rfl, rfl, rfl⟩, rfl, rfl⟩

theorem State.foretell_stands (s : State) : State.Stands s s.foretell ∧ s.foretell.msu = s.msu ∧ s.foretell.top = s.top := ⟨⟨rfl, rfl, rfl, rfl, rfl, rfl, rfl, rfl, rfl⟩, rfl, rfl⟩


theorem State.topClose_top (s : State) : ∃ f, s.topClose.top = s.formTopology f := by
  unfold State.topClose
  dsimp only
  exact ⟨_, State.formTopology_congr rfl rfl rfl rfl _⟩

/-- What a cycle close forms before its blocks act: the frequency history and ROCOF with the closing cycle, TOP of the image
as it stands, all else the blocks read standing. -/
theorem State.formClose_formed (s : State) : State.Stands s s.formClose ∧ (∃ f, s.formClose.top = s.formTopology f) ∧
    s.formClose.msu.history = appendHistory s.msu.history s.currentSet.fBus ∧
    s.formClose.msu.rocof = rocofOf s.cfg s.formClose.msu.history := by
  unfold State.formClose
  have a1 := State.clearMarks_stands s
  generalize s.clearMarks = u1 at *
  have a2 := State.linkClose_stands u1
  generalize u1.linkClose = u2 at *
  have a3 := State.msuClose_stands u2
  have m3 : u2.msuClose.msu.history = appendHistory u2.msu.history u2.currentSet.fBus ∧
      u2.msuClose.msu.rocof = rocofOf u2.cfg u2.msuClose.msu.history := ⟨rfl, rfl⟩
  generalize u2.msuClose = u3 at *
  have a4 := State.topClose_stands u3
  obtain ⟨f, hf⟩ := State.topClose_top u3
  generalize u3.topClose = u4 at *
  have a5 := State.checkClose_stands u4
  generalize u4.checkClose = u5 at *
  have a6 := State.truHealth_stands u5
  generalize u5.truHealth = u6 at *
  have a7 := State.foretell_stands u6
  generalize u6.foretell = u7 at *
  have b2 := a1.1.trans a2.1
  have b3 := b2.trans a3
  have m : u7.msu = u3.msu := by rw [a7.2.1, a6.2.1, a5.2.1, a4.2]
  refine ⟨(((b3.trans a4.1).trans a5.1).trans a6.1).trans a7.1, ⟨f, ?_⟩, ?_, ?_⟩
  · rw [a7.2.2, a6.2.2, a5.2.2, hf]
    exact State.formTopology_congr b3.pim b3.number b3.count b3.cfg f
  · rw [m, m3.1, a2.2, a1.2]
    unfold State.currentSet
    rw [b2.newest, b2.older, b2.count]
  · rw [m, m3.2, b2.cfg]

end Sys2Proof.Machine
end

