-- ==== Sys2Proof/Laws/Timed.lean ====
section
/-! SUPPORT. What a strobe, a frame and the close of a link cycle keep (`State.Keeps`). -/

namespace Sys2Proof.Machine

theorem State.Keeps.andThen {s t : State} {p : Prop} [Decidable p] (f : State → State) (k : ∀ u, State.Keeps u (f u))
    (h : State.Keeps s t) : State.Keeps s (if p then f t else t) := by
  split
  · exact h.trans (k t)
  · exact h

/-! ### Updates of one block -/

theorem State.keeps_withMsu (s : State) (f : Msu → Msu) : State.Keeps s (s.withMsu f) := State.Same.keeps {}

theorem State.keeps_raise (s : State) (b : Attention) : State.Keeps s (s.raise b) := State.Same.keeps {}

theorem State.keeps_withEntry (s : State) (k : Station) (f : Entry → Entry) : State.Keeps s (s.withEntry k f) :=
  State.Same.keeps {}

/-- A number of the bias interface is a code of it. -/
theorem biasCode_toInt (x : BitVec 12) : biasCode x.toInt :=
  ⟨BitVec.le_toInt x, Int.le_of_lt_add_one (BitVec.toInt_lt (x := x))⟩

/-- A change of CVP that keeps the tops of its counts. -/
theorem State.keeps_withCvp (s : State) (f : Cvp → Cvp)
    (k : s.cvp.missing ≤ 255 ∧ s.cvp.bad ≤ 2 → (f s.cvp).missing ≤ 255 ∧ (f s.cvp).bad ≤ 2) :
    State.Keeps s (s.withCvp f) where
  cfg := rfl
  run := rfl
  pending := rfl
  latch := id
  outputs := id
  banks := id
  samples := id
  bias _ := fun ⟨a, _, c⟩ => ⟨a, ⟨biasCode_toInt _, biasCode_toInt _⟩, c⟩
  link _ := id
  counts := fun ⟨a, b⟩ => ⟨k a, b⟩
  attempt := id

/-- A change of LKC in RUN that does not put the link OFF and keeps the tops of its counts. -/
theorem State.keeps_withLkc (s : State) (f : Lkc → Lkc) (h : s.lkc.link ≠ .off → (f s.lkc).link ≠ .off)
    (k : s.lkc.silence ≤ 3 ∧ s.lkc.mismatches ≤ 255 ∧ s.lkc.lates ≤ 255 ∧ s.lkc.relocks ≤ 255 →
      (f s.lkc).silence ≤ 3 ∧ (f s.lkc).mismatches ≤ 255 ∧ (f s.lkc).lates ≤ 255 ∧ (f s.lkc).relocks ≤ 255) :
    State.Keeps s (s.withLkc f) where
  cfg := rfl
  run := rfl
  pending := rfl
  latch := id
  outputs := id
  banks := id
  samples := id
  bias _ := id
  link r := by
    intro l
    unfold State.LinkOk at *
    rw [r] at l
    have : s.lkc.link ≠ .off := fun e => by have := l.mp e; cases this
    simp only [State.withLkc_lkc, State.withLkc_cfp, r]
    exact ⟨fun e => absurd e (h this), fun e => by cases e⟩
  counts := fun ⟨a, b, c, d⟩ => ⟨a, b, k c, d⟩
  attempt := id

theorem State.keeps_linkAlarm (s : State) (f : Lkc → Lkc) (h : s.lkc.link ≠ .off → (f s.lkc).link ≠ .off)
    (k : s.lkc.silence ≤ 3 ∧ s.lkc.mismatches ≤ 255 ∧ s.lkc.lates ≤ 255 ∧ s.lkc.relocks ≤ 255 →
      (f s.lkc).silence ≤ 3 ∧ (f s.lkc).mismatches ≤ 255 ∧ (f s.lkc).lates ≤ 255 ∧ (f s.lkc).relocks ≤ 255) :
    State.Keeps s (s.linkAlarm f) := (s.keeps_withLkc f h k).trans (State.keeps_raise ..)

theorem satInc_le (top n : Nat) : satInc top n ≤ top := Nat.min_le_left ..

/-! ### The strobe -/

theorem Cvp.take_counts (c : Cvp) (r : Reply) (h : c.missing ≤ 255 ∧ c.bad ≤ 2) :
    (c.take r).missing ≤ 255 ∧ (c.take r).bad ≤ 2 := by
  unfold Cvp.take Cvp.takeGood Cvp.takeBad
  dsimp only
  repeat' split
  all_goals dsimp only
  all_goals first
    | exact ⟨h.1, by omega⟩
    | exact ⟨satInc_le .., satInc_le ..⟩

theorem State.keeps_takeReply (s : State) (r : Reply) : State.Keeps s (s.takeReply r) := by
  unfold State.takeReply
  refine .andThen (State.raise · .measFail) (State.keeps_raise · _) (s.keeps_withCvp _ (s.cvp.take_counts r))

theorem Bank.write_state (b : Bank) (c : Settings) (x : Seven Cell) : (b.write c x).state = b.state := by
  unfold Bank.write
  dsimp only
  split
  all_goals rfl

theorem Bank.complete_state (b : Bank) (c : Settings) : (b.complete c).state = .held := rfl

theorem Bank.follow_state (b : Bank) : b.follow.state = if b.state = .free then .active else b.state := by
  unfold Bank.follow; split <;> rfl

theorem Bank.follow_samples (b : Bank) : b.follow.samples = b.samples := by unfold Bank.follow; split <;> rfl

/-- A bank in POST completed, the other made ACTIVE (R22). -/
theorem State.keeps_hold (s : State) (b : Bool) (h : (s.cap.bank b).state = .post) :
    State.Keeps s (s.withCap fun c => c.hold s.cfg b) := by
  refine (s.banks_withCap _ ?_ ?_ ?_).toKeeps
  · revert h
    unfold State.BanksOk
    simp only [State.withCap_cfp, State.withCap_cap]
    cases b <;> simp only [Cap.hold, Cap.bank, Cap.setBank, Bool.not_true, Bool.not_false, if_true, if_false,
      Bool.false_eq_true, Bank.complete_state, Bank.follow_state] <;> intro h <;> rw [h] <;>
      cases s.cfp.run <;> cases s.cap.a.state <;> cases s.cap.b.state <;> simp [banksRun, banksConfig]
  · unfold State.SamplesOk
    simp only [State.withCap_cap]
    cases b <;> simp only [Cap.hold, Cap.bank, Cap.setBank, Bool.not_true, Bool.not_false, if_true, if_false,
      Bool.false_eq_true, Bank.follow_samples] <;> exact id
  · cases b <;> exact id

theorem Cap.bank_setBank (c : Cap) (b : Bool) (x : Bank) : (c.setBank b x).bank b = x := by cases b <;> rfl

/-- A bank replaced by one of the same state in the canonical form. -/
theorem State.keeps_setBank (s : State) (b : Bool) (x : Bank) (h : x.state = (s.cap.bank b).state)
    (k : Memory.wf (s.cap.bank b).samples = true → Memory.wf x.samples = true) :
    State.Keeps s (s.withCap fun c => c.setBank b x) := by
  refine (s.banks_withCap _ ?_ ?_ ?_).toKeeps
  · unfold State.BanksOk
    simp only [State.withCap_cfp, State.withCap_cap]
    cases b <;> simp only [Cap.bank, Cap.setBank, if_true, if_false, Bool.false_eq_true] at h ⊢ <;> rw [h] <;> exact id
  · unfold State.SamplesOk
    simp only [State.withCap_cap]
    cases b <;> simp only [Cap.bank, Cap.setBank, if_true, if_false, Bool.false_eq_true] at k ⊢
    · exact fun a => ⟨k a.1, a.2⟩
    · exact fun a => ⟨a.1, k a.2⟩
  · cases b <;> exact id

theorem State.keeps_capWrite (s : State) (x : Seven Cell) : State.Keeps s (s.capWrite x) := by
  unfold State.capWrite
  split
  · exact .refl s
  · rename_i b _
    dsimp only
    have h := s.keeps_setBank b ((s.cap.bank b).write s.cfg x) (Bank.write_state ..) (Bank.write_wf _ _ _)
    split
    · rename_i f
      have : ((s.cap.bank b).write s.cfg x).state = .post := by
        unfold Bank.full at f
        rw [Bool.and_eq_true] at f
        simpa using f.1
      refine (h.trans ?_).trans (State.keeps_raise ..)
      exact State.keeps_hold _ b (by simp only [State.withCap_cap]; rw [Cap.bank_setBank]; exact this)
    · exact h

theorem State.keeps_takeIn (s : State) (r : Reply) : State.Keeps s (s.takeIn r) := by
  unfold State.takeIn State.handOn State.firstStrobe
  split
  · exact ((s.keeps_takeReply r).trans (State.keeps_withMsu ..)).trans (State.keeps_capWrite ..)
  · exact (s.keeps_withCvp _ id).trans (State.keeps_withMsu ..)

theorem Cvp.warmUp_counts (c : Cvp) : c.warmUp.missing = c.missing ∧ c.warmUp.bad = c.bad := by
  unfold Cvp.warmUp
  repeat' split
  all_goals exact ⟨rfl, rfl⟩

theorem State.keeps_phasorResults (s : State) (n : Count) : State.Keeps s (s.phasorResults n) := by
  unfold State.phasorResults
  refine ((s.keeps_withCvp _ ?_).trans (State.keeps_withMsu ..)).trans (State.effect_pruEvaluate ..).toKeeps
  rw [(Cvp.warmUp_counts _).1, (Cvp.warmUp_counts _).2]
  exact id

theorem State.keeps_measureAt (s : State) (r : Reply) (p : Bool) (n : Count) : State.Keeps s (s.measureAt r p n) :=
  .andThen (p := p = true) (State.phasorResults · n) (State.keeps_phasorResults · n) (s.keeps_takeIn r)

theorem State.keeps_strobePair (s : State) (n : ContactNews) : State.Keeps s (s.strobePair n) := by
  unfold State.strobePair
  split
  · exact (State.effect_withBcu _ _ id id).toKeeps.trans (State.effect_pairEvent ..).toKeeps
  · exact (s.effect_takeNews n .pair).toKeeps

theorem State.keeps_strobeTask (s : State) (r : Reply) (p : Bool) (n : Count) (w : ContactNews) (t : StrobeTask) :
    State.Keeps s (s.strobeTask r p n w t) := by
  cases t
  · exact s.keeps_measureAt r p n
  · exact s.keeps_strobePair w
  · exact (s.effect_takeNews w .extTrip).toKeeps
  · exact (s.effect_takeNews w .extBlock).toKeeps
  · exact (s.effect_takeNews w .extLockout).toKeeps

theorem State.keeps_foldl {α : Type} (f : State → α → State) (h : ∀ s a, State.Keeps s (f s a)) :
    ∀ (l : List α) (s : State), State.Keeps s (l.foldl f s)
  | [], s => .refl s
  | a :: l, s => (h s a).trans (State.keeps_foldl f h l (f s a))

theorem State.keeps_sampleLines (s : State) (l : Levels) : State.Keeps s (s.sampleLines l) :=
  State.Same.keeps {}

theorem State.keeps_setPins (s : State) (l : Levels) : State.Keeps s (s.setPins l) := State.Same.keeps {}

theorem State.keeps_sendBias (s : State) (g : Fin 8) : State.Keeps s (s.sendBias g) := by
  unfold State.sendBias
  split
  · exact s.keeps_withCvp _ id
  · exact .refl s

/-- The beginning of a link cycle touches neither the state of the link nor its counts. -/
theorem Lkc.begin_counts (l : Lkc) :
    l.begin.link = l.link ∧ l.begin.silence = l.silence ∧ l.begin.mismatches = l.mismatches ∧ l.begin.lates = l.lates
      ∧ l.begin.relocks = l.relocks := ⟨rfl, rfl, rfl, rfl, rfl⟩

/-- Nor does a move of the timer to the position of an event. -/
theorem Lkc.reach_counts (l : Lkc) (c : Settings) (p : Nat) :
    (l.reach c p).link = l.link ∧ (l.reach c p).silence = l.silence ∧ (l.reach c p).mismatches = l.mismatches
      ∧ (l.reach c p).lates = l.lates ∧ (l.reach c p).relocks = l.relocks := by
  unfold Lkc.reach
  dsimp only
  split <;> exact ⟨rfl, rfl, rfl, rfl, rfl⟩

/-- Nor does a strobe. -/
theorem Lkc.strobe_counts (l : Lkc) (c : Settings) (g : Fin 8) :
    ((l.atStrobe c g).madePhasor g).link = l.link ∧ ((l.atStrobe c g).madePhasor g).silence = l.silence
      ∧ ((l.atStrobe c g).madePhasor g).mismatches = l.mismatches ∧ ((l.atStrobe c g).madePhasor g).lates = l.lates
      ∧ ((l.atStrobe c g).madePhasor g).relocks = l.relocks := by
  have h : ∀ k : Lkc, (k.madePhasor g).link = k.link ∧ (k.madePhasor g).silence = k.silence
      ∧ (k.madePhasor g).mismatches = k.mismatches ∧ (k.madePhasor g).lates = k.lates
      ∧ (k.madePhasor g).relocks = k.relocks := by
    intro k
    unfold Lkc.madePhasor
    repeat' split
    all_goals exact ⟨rfl, rfl, rfl, rfl, rfl⟩
  rw [(h _).1, (h _).2.1, (h _).2.2.1, (h _).2.2.2.1, (h _).2.2.2.2]
  unfold Lkc.atStrobe
  dsimp only
  split <;> exact Lkc.reach_counts ..

/-- A change of LKC that touches neither the state of the link nor its counts. -/
theorem State.keeps_withLkcCounts (s : State) (f : Lkc → Lkc)
    (h : (f s.lkc).link = s.lkc.link ∧ (f s.lkc).silence = s.lkc.silence ∧ (f s.lkc).mismatches = s.lkc.mismatches
      ∧ (f s.lkc).lates = s.lkc.lates ∧ (f s.lkc).relocks = s.lkc.relocks) : State.Keeps s (s.withLkc f) := by
  refine s.keeps_withLkc _ ?_ ?_
  · rw [h.1]; exact id
  · rw [h.2.1, h.2.2.1, h.2.2.2.1, h.2.2.2.2]; exact id

/-- A strobe, whatever the order of its tasks. -/
theorem State.keeps_strobeAt (s : State) (g : Fin 8) (r : Reply) (l : Levels) (o : List StrobeTask) :
    State.Keeps s (s.strobeAt g r l o) := by
  unfold State.strobeAt
  split
  · refine State.Keeps.trans ?_ (State.keeps_foldl _ (fun u k => State.keeps_strobeTask u _ _ _ _ k) _ _)
    exact ((s.keeps_sampleLines l).trans (State.keeps_withLkcCounts _ _ (Lkc.strobe_counts ..))).trans
      (State.keeps_sendBias ..)
  · exact s.keeps_setPins l

/-! ### Frames -/

theorem State.keeps_crcFailed (s : State) (k : Option Station) : State.Keeps s (s.crcFailed k) := by
  unfold State.crcFailed
  cases k
  · exact s.keeps_linkAlarm _ id id
  · exact (s.keeps_linkAlarm _ id id).trans (State.keeps_withEntry ..)

theorem State.keeps_slotMismatched (s : State) : State.Keeps s s.slotMismatched :=
  s.keeps_linkAlarm _ id fun ⟨a, _, c⟩ => ⟨a, satInc_le .., c⟩

theorem State.keeps_duplicate (s : State) : State.Keeps s s.duplicate :=
  s.keeps_linkAlarm _ (fun _ => LinkState.noConfusion) id

theorem State.keeps_accept (s : State) (k : Station) (r : BayRecord) : State.Keeps s (s.accept k r) :=
  State.keeps_withEntry ..

theorem Lkc.move_counts (l : Lkc) (c : Settings) (a b : Nat) :
    (l.move c a b).link = l.link ∧ (l.move c a b).silence = l.silence ∧ (l.move c a b).mismatches = l.mismatches
      ∧ (l.move c a b).lates = l.lates ∧ (l.move c a b).relocks = l.relocks := by
  unfold Lkc.move
  dsimp only
  split <;> exact ⟨rfl, rfl, rfl, rfl, rfl⟩

theorem State.keeps_relock (s : State) (k : Station) (a : Nat) (n : BitVec 8) :
    State.Keeps s (s.withLkc fun l => l.relock s.cfg k a n) := by
  have h := s.lkc.move_counts s.cfg (frameArrival s.cfg a) (frameEnd s.cfg k)
  refine s.keeps_withLkc _ ?_ ?_ <;> unfold Lkc.relock <;> dsimp only
  · rw [h.1]; exact id
  · rw [h.2.1, h.2.2.1, h.2.2.2.1]; exact fun ⟨x, y, z, _⟩ => ⟨x, y, z, satInc_le ..⟩

theorem State.keeps_shift (s : State) (k : Station) (a : Nat) :
    State.Keeps s (s.withLkc fun l => l.shift s.cfg k a) := by
  have h := s.lkc.move_counts s.cfg (frameArrival s.cfg a) (frameEnd s.cfg k)
  refine s.keeps_withLkc _ ?_ ?_ <;> unfold Lkc.shift <;> dsimp only
  · rw [h.1]; exact id
  · rw [h.2.1, h.2.2.1, h.2.2.2.1, h.2.2.2.2]; exact id

theorem State.keeps_checkTwoFails (s : State) (r : BayRecord) (a : Nat) : State.Keeps s (s.checkTwoFails r a) := by
  unfold State.checkTwoFails
  dsimp only
  split
  · exact s.keeps_slotMismatched.trans (State.keeps_relock ..)
  · exact s.keeps_slotMismatched

theorem State.keeps_hear (s : State) (k : Station) : State.Keeps s (s.hear k) := by
  unfold State.hear
  split
  · exact s.keeps_withLkc _ id id
  · exact .refl s

theorem State.keeps_takeTiming (s : State) (r : BayRecord) (a : Nat) : State.Keeps s (s.takeTiming r a) := by
  unfold State.takeTiming
  split
  · split
    · exact s.keeps_shift ..
    · exact s.keeps_relock ..
  · exact .refl s

theorem State.keeps_validRecord (s : State) (r : BayRecord) (a : Nat) : State.Keeps s (s.validRecord r a) := by
  unfold State.validRecord
  dsimp only
  have h := (s.keeps_hear r.station).trans (State.keeps_takeTiming _ r a)
  split
  · exact h.trans (State.keeps_accept ..)
  · exact h.trans (State.keeps_linkAlarm _ _ id fun ⟨x, y, _, z⟩ => ⟨x, y, satInc_le .., z⟩)

theorem State.keeps_checkFrame (s : State) (k : Station) (r : Option BayRecord) (a : Nat) :
    State.Keeps s (s.checkFrame k r a) := by
  unfold State.checkFrame
  split
  · exact s.keeps_crcFailed _
  · repeat' split
    · exact s.keeps_checkTwoFails ..
    · exact s.keeps_validRecord ..
    · exact .refl s

theorem State.keeps_ownSlotFrame (s : State) (r : Option BayRecord) (a : Nat) : State.Keeps s (s.ownSlotFrame r a) := by
  unfold State.ownSlotFrame
  repeat' split
  · exact .refl s
  · exact s.keeps_duplicate
  · exact s.keeps_checkFrame ..
  · exact s.keeps_crcFailed _
  · exact .refl s

theorem State.keeps_judgeReadBack (s : State) (f : Frame) : State.Keeps s (s.judgeReadBack f) := by
  unfold State.judgeReadBack State.readBackFailed
  repeat' split
  · exact .refl s
  · exact s.keeps_duplicate
  · exact s.keeps_slotMismatched
  · exact s.keeps_crcFailed _

theorem State.keeps_reach (s : State) (p : Nat) : State.Keeps s (s.withLkc fun l => l.reach s.cfg p) :=
  s.keeps_withLkcCounts _ (Lkc.reach_counts ..)

theorem State.keeps_markOwnSlot (s : State) (a : Nat) : State.Keeps s (s.markOwnSlot a) := by
  unfold State.markOwnSlot
  split
  · refine s.keeps_withLkcCounts _ ?_
    split <;> exact ⟨rfl, rfl, rfl, rfl, rfl⟩
  · exact .refl s

/-- An acquisition: the heard list, the relock and the acceptance (R37). -/
theorem State.keeps_acquire (s : State) (c : Settings) (k : Station) (r : BayRecord) (a : Nat) (h : s.cfg = c) :
    State.Keeps s (((s.hear k).withLkc fun l => l.relock c k a r.cycle).accept k r) := by
  have k' := s.keeps_hear k
  refine (k'.trans ?_).trans (State.keeps_accept ..)
  rw [← h, ← k'.cfg]
  exact State.keeps_relock ..

theorem State.keeps_arrivalUnlocked (s : State) (f : Frame) : State.Keeps s (s.arrivalUnlocked f) := by
  unfold State.arrivalUnlocked
  have h := (s.keeps_reach (frameArrival s.cfg f.start)).trans (State.keeps_markOwnSlot _ f.start)
  dsimp only
  generalize ((s.withLkc fun l => l.reach s.cfg (frameArrival s.cfg f.start)).markOwnSlot f.start) = t at h ⊢
  split
  · exact h.trans (State.keeps_crcFailed ..)
  · repeat' split
    · exact h
    · exact h.trans (State.keeps_duplicate _)
    · exact h.trans (State.keeps_acquire _ _ _ _ _ h.cfg)
    · exact h

theorem State.keeps_recordArrival (s : State) (f : Frame) : State.Keeps s (s.recordArrival f) := by
  unfold State.recordArrival
  split
  · split
    · exact s.keeps_arrivalUnlocked f
    · unfold State.arrivalLocked
      dsimp only
      split
      · have h := s.keeps_reach (frameArrival s.cfg f.start)
        split
        · exact h.trans (State.keeps_crcFailed _ _)
        · exact h.trans (State.keeps_checkTwoFails ..)
      · split
        · exact .refl s
        · rename_i k _ _
          have h : State.Keeps s (s.withLkc fun l => (l.reach s.cfg (slotArrival s.cfg k f)).yield s.cfg k) :=
            s.keeps_withLkcCounts _ (Lkc.reach_counts s.lkc s.cfg (slotArrival s.cfg k f))
          repeat' split
          · exact h.trans (State.keeps_judgeReadBack ..)
          · exact h.trans (State.keeps_ownSlotFrame ..)
          · exact h.trans (State.keeps_checkFrame ..)
  · exact .refl s

theorem State.keeps_publish (s : State) : State.Keeps s s.publish := State.Same.keeps {}

/-! ### The close of a link cycle -/

theorem State.keeps_becomeSelfTimed (s : State) : State.Keeps s s.becomeSelfTimed := by
  unfold State.becomeSelfTimed
  dsimp only
  split
  · exact s.keeps_withLkc _ id id
  · exact (s.keeps_withLkc _ id id).trans (State.keeps_linkAlarm _ _ id id)

theorem Lkc.closeState_counts (l : Lkc) :
    (l.closeState.silence = l.silence ∧ l.closeState.mismatches = l.mismatches ∧ l.closeState.lates = l.lates
      ∧ l.closeState.relocks = l.relocks) ∧ (l.link ≠ .off → l.closeState.link ≠ .off) := by
  unfold Lkc.closeState
  repeat' split
  all_goals simp_all

theorem State.keeps_linkClose (s : State) : State.Keeps s s.linkClose := by
  unfold State.linkClose
  refine .andThen State.becomeSelfTimed State.keeps_becomeSelfTimed (s.keeps_withLkc _ ?_ ?_)
  · exact (Lkc.closeState_counts s.lkc.closeHeard).2
  · have h := (Lkc.closeState_counts s.lkc.closeHeard).1
    rw [h.1, h.2.1, h.2.2.1, h.2.2.2]
    rintro ⟨_, b⟩
    refine ⟨?_, b⟩
    unfold Lkc.closeHeard
    dsimp only
    split
    · exact satInc_le ..
    · omega

theorem State.keeps_clearMarks (s : State) : State.Keeps s s.clearMarks :=
  (((((s.effect_withBcu _ id id).toKeeps.trans (State.Told.withClu ..).effect.toKeeps).trans
    (State.Told.withSyu _ _ id).effect.toKeeps).trans (State.Told.withGcu _ _ rfl rfl).effect.toKeeps).trans
    (State.Told.withFcu ..).effect.toKeeps).trans (State.Told.withTru ..).effect.toKeeps

theorem State.keeps_topClose (s : State) : State.Keeps s s.topClose := State.Same.keeps {}

theorem State.keeps_checkClose (s : State) : State.Keeps s s.checkClose := State.Same.keeps {}

theorem State.keeps_foretell (s : State) : State.Keeps s s.foretell := State.Same.keeps {}

theorem State.keeps_formClose (s : State) : State.Keeps s s.formClose :=
  ((((((s.keeps_clearMarks).trans (State.keeps_linkClose _)).trans (State.keeps_withMsu ..)).trans
    (State.keeps_topClose _)).trans (State.keeps_checkClose _)).trans (State.told_truHealth _).effect.toKeeps).trans
    (State.keeps_foretell _)

/-- A cycle close, whatever the order of its blocks. -/
theorem State.keeps_cycleClose (s : State) (o : List CloseBlock) : State.Keeps s (s.cycleClose o) :=
  (s.keeps_formClose.trans (State.effect_closeBlocks ..).toKeeps).trans (State.keeps_withLkc _ _ id id)

end Sys2Proof.Machine
end

