-- ==== Sys2Proof/Laws/Commands.lean ====
section
/-! SUPPORT. What the commands keep (`State.Keeps`): every command but the resets, START, STOP, RESET_LATCH and the writes to
the store. -/

namespace Sys2Proof.Machine

theorem next_inj {s t : State} (h : (Host.Outcome.next s : Host.Outcome State Fault Refusal) = .next t) : s = t := by
  injection h

theorem State.keeps_answer (s : State) (c n k) : State.Keeps s (s.answer c n k) := State.Same.keeps {}
theorem State.Keeps.ite {s t u : State} {p : Prop} [Decidable p] (h : State.Keeps s t) (k : State.Keeps s u) :
  State.Keeps s (if p then t else u) := by split <;> assumption
theorem State.Told.keeps {s t : State} (h : State.Told s t) : State.Keeps s t := h.effect.toKeeps

theorem State.keeps_execOpenBreaker (s : State) (t) (h : execOpenBreaker s = .next t) : State.Keeps s t := by
  have h := next_inj h; subst h
  refine State.Keeps.ite ?_ (s.keeps_answer ..)
  refine State.Keeps.trans ?_ (State.keeps_answer ..)
  have h1 : State.Keeps s s.fcuOpen := by
    unfold State.fcuOpen; split
    · exact State.Told.keeps (.withFcu ..)
    · exact .refl s
  have h2 : ∀ s : State, State.Keeps s s.cluOpen := by
    intro s
    unfold State.cluOpen; dsimp only; split
    · exact State.Told.keeps ((State.Told.withClu ..).trans (State.told_cluWithdraw ..))
    · exact State.Told.keeps (.withClu ..)
  have h3 : ∀ s : State, State.Keeps s s.truOpen := by
    intro s
    unfold State.truOpen State.incomerOpen State.tieOpenedByHand; dsimp only
    repeat' split
    all_goals first
      | exact .refl s
      | exact State.Told.keeps ((State.Told.withTru ..).trans (State.told_truLeave ..))
      | exact State.Told.keeps ((State.Told.withTru ..).trans (State.told_cancelClaim ..))
      | exact State.Told.keeps (State.Told.withTru ..)
      | exact State.Told.keeps ((((s.told_setMode _).trans (State.told_cancelClaim ..)).trans (State.told_truLeave ..)).trans (.withTru ..))
  exact ((h1.trans (h2 _)).trans (State.Effect.toKeeps (State.effect_tripRequest _))).trans (h3 _)

theorem State.keeps_execCloseBreaker (s : State) (t) (h : execCloseBreaker s = .next t) : State.Keeps s t := by
  have h := next_inj h; subst h
  unfold State.incomerClose State.operatorClose
  dsimp only
  repeat' split
  all_goals first
    | exact s.keeps_answer ..
    | exact (State.Told.keeps (State.Told.withClu ..)).trans (State.keeps_answer ..)
    | exact (State.Told.keeps ((State.Told.withTru ..).trans (State.told_truLeave ..))).trans (State.keeps_answer ..)
    | exact (State.Told.keeps (State.Told.withTru ..)).trans (State.keeps_answer ..)

theorem State.keeps_execSetAuto (s : State) (t) (h : execSetAuto s = .next t) : State.Keeps s t := by
  have h := next_inj h; subst h
  dsimp only
  refine State.Keeps.ite ?_ (s.keeps_answer ..)
  refine State.Keeps.trans ?_ (State.keeps_answer ..)
  exact State.Keeps.ite (State.Told.keeps ((s.told_setMode _).trans (.withTru ..))) (.refl s)

theorem State.keeps_execSetManual (s : State) (t) (h : execSetManual s = .next t) : State.Keeps s t := by
  have h := next_inj h; subst h
  dsimp only
  refine State.Keeps.ite ?_ (s.keeps_answer ..)
  refine State.Keeps.trans ?_ (State.keeps_answer ..)
  refine State.Keeps.ite ?_ (.refl s)
  refine State.Keeps.trans (State.Keeps.trans (State.Told.keeps (s.told_setMode .manual)) (u := (s.setMode .manual).truManual) ?_) ?_
  · unfold State.truManual; split
    · exact State.Told.keeps ((((State.told_cancelClaim ..).trans (State.told_cancelAttempt ..)).trans (State.told_truSet ..)).trans (.withTru ..))
    · exact .refl _
  · unfold State.gcuManual; repeat' split
    · exact State.Told.keeps ((State.told_gcuCancel _).trans (State.told_gcuSet ..))
    · exact State.Told.keeps (State.told_gcuSet ..)
    · exact .refl _
    · exact .refl _

theorem State.keeps_execRetransferNow (s : State) (t) (h : execRetransferNow s = .next t) : State.Keeps s t := by
  have h := next_inj h; subst h
  repeat' split
  all_goals first
    | exact s.keeps_answer ..
    | exact (State.Told.keeps (s.told_truLeave _)).trans (State.keeps_answer ..)

theorem State.keeps_execReleaseCapture (s : State) (t) (h : execReleaseCapture s = .next t) : State.Keeps s t := by
  have h := next_inj h; subst h
  split
  · rename_i b hb
    refine State.Keeps.trans (State.Effect.toKeeps (s.banks_withCap _ ?_ ?_ ?_)) (State.keeps_answer ..)
    · revert hb
      unfold State.BanksOk Cap.heldBank
      simp only [State.withCap_cfp, State.withCap_cap]
      cases b <;> simp only [Cap.bank, Cap.setBank, Bank.release, if_true, if_false, Bool.false_eq_true] <;>
        cases s.cfp.run <;> cases s.cap.a.state <;> cases s.cap.b.state <;> simp [banksRun, banksConfig]
    · unfold State.SamplesOk; cases b <;> exact id
    · cases b <;> exact id
  · exact s.keeps_answer ..

theorem State.keeps_execTriggerCapture (s : State) (t) (h : execTriggerCapture s = .next t) : State.Keeps s t := by
  have h := next_inj h; subst h
  repeat' split
  all_goals first
    | exact s.keeps_answer ..
    | exact (State.Effect.toKeeps (s.effect_takeTrigger _)).trans (State.keeps_answer ..)

theorem State.keeps_acknowledge (s : State) (m) : State.Keeps s ((s.acknowledge m).answer .accepted 12) := by
  refine State.Keeps.trans ?_ (State.keeps_answer ..)
  unfold State.acknowledge; dsimp only; split <;> exact State.Same.keeps {}

theorem State.keeps_execReadBack (s : State) (x : Heard) (t) (h : execReadBack x s = .next t) : State.Keeps s t := by
  have h := next_inj h; subst h
  split
  · cases x
    · refine State.Keeps.trans (s.keeps_withLkcCounts _ ?_) (State.keeps_crcFailed ..)
      exact Lkc.reach_counts s.lkc s.cfg _
    · refine State.Keeps.trans (s.keeps_withLkcCounts _ ?_) (State.keeps_judgeReadBack ..)
      exact Lkc.reach_counts s.lkc s.cfg _
  · exact .refl s

theorem State.keeps_execContactEvent (s : State) (i : Fin 8) (x : Bool) (t)
    (h : execContactEvent i x s = .next t) : State.Keeps s t := by
  have h := next_inj h; subst h
  dsimp only
  split
  · generalize s.bcu.lines.set _ _ _ = z
    exact (State.Effect.toKeeps (s.effect_withBcu (fun b => { b with lines := z }) id id)).trans
      (State.keeps_foldl _ (fun u k => State.Effect.toKeeps (u.effect_takeNews (newsOf s.cfg s.bcu.lines z) k)) _ _)
  · exact (s.effect_withBcu _ id id).toKeeps

/-! ### The rows that stand for the last tick of a count (log 11) -/

theorem State.keeps_atClose (s : State) : State.Keeps s s.atClose :=
  (((s.keeps_clearMarks.trans (State.keeps_topClose _)).trans (State.keeps_checkClose _)).trans
    (State.told_truHealth _).keeps).trans (State.keeps_foretell _)

/-- What stands again touches nothing an invariant reads. -/
theorem State.keeps_standing (t s : State) : State.Keeps t (t.standing s) := State.Same.keeps {}

@[simp] theorem State.standing_cfg (t s : State) : (t.standing s).cfg = t.cfg := rfl
@[simp] theorem State.standing_cvp (t s : State) : (t.standing s).cvp = t.cvp := rfl
@[simp] theorem State.standing_msu (t s : State) : (t.standing s).msu = t.msu := rfl
@[simp] theorem State.standing_cap (t s : State) : (t.standing s).cap = t.cap := rfl
@[simp] theorem State.standing_lkc (t s : State) : (t.standing s).lkc = t.lkc := rfl
@[simp] theorem State.standing_pim (t s : State) : (t.standing s).pim = t.pim := rfl
@[simp] theorem State.standing_pru (t s : State) : (t.standing s).pru = t.pru := rfl
@[simp] theorem State.standing_dbu (t s : State) : (t.standing s).dbu = t.dbu := rfl
@[simp] theorem State.standing_cfp (t s : State) : (t.standing s).cfp = t.cfp := rfl
@[simp] theorem State.standing_pending (t s : State) : (t.standing s).pending = t.pending := rfl
@[simp] theorem State.standing_top (t s : State) : (t.standing s).top = s.top := rfl
@[simp] theorem State.standing_check (t s : State) : (t.standing s).syu.check = s.syu.check := rfl
@[simp] theorem State.standing_breaker (t s : State) : (t.standing s).bcu.state = t.bcu.state := rfl
@[simp] theorem State.standing_unit (t s : State) : (t.standing s).gcu.unit = t.gcu.unit := rfl
@[simp] theorem State.standing_transfer (t s : State) : (t.standing s).tru.state = t.tru.state := rfl
@[simp] theorem State.standing_claim (t s : State) : (t.standing s).clu.claim = t.clu.claim := rfl
@[simp] theorem State.standing_self (s : State) : s.standing s = s := rfl

/-! What a cycle close forms before any block acts reaches only TOP's results, the check, the health and the marks. -/

theorem State.clearMarks_cfg (s : State) : s.clearMarks.cfg = s.cfg := by simp [State.clearMarks]
theorem State.topClose_cfg (s : State) : s.topClose.cfg = s.cfg := rfl
theorem State.checkClose_cfg (s : State) : s.checkClose.cfg = s.cfg := rfl
theorem State.foretell_cfg (s : State) : s.foretell.cfg = s.cfg := rfl
@[simp] theorem State.atClose_cfg (s : State) : s.atClose.cfg = s.cfg := by
  rw [State.atClose, State.foretell_cfg, (State.told_truHealth _).cfg, State.checkClose_cfg, State.topClose_cfg,
    State.clearMarks_cfg]
theorem State.clearMarks_cvp (s : State) : s.clearMarks.cvp = s.cvp := by simp [State.clearMarks]
theorem State.topClose_cvp (s : State) : s.topClose.cvp = s.cvp := rfl
theorem State.checkClose_cvp (s : State) : s.checkClose.cvp = s.cvp := rfl
theorem State.foretell_cvp (s : State) : s.foretell.cvp = s.cvp := rfl
@[simp] theorem State.atClose_cvp (s : State) : s.atClose.cvp = s.cvp := by
  rw [State.atClose, State.foretell_cvp, (State.told_truHealth _).cvp, State.checkClose_cvp, State.topClose_cvp,
    State.clearMarks_cvp]
theorem State.clearMarks_msu (s : State) : s.clearMarks.msu = s.msu := by simp [State.clearMarks]
theorem State.topClose_msu (s : State) : s.topClose.msu = s.msu := rfl
theorem State.checkClose_msu (s : State) : s.checkClose.msu = s.msu := rfl
theorem State.foretell_msu (s : State) : s.foretell.msu = s.msu := rfl
@[simp] theorem State.atClose_msu (s : State) : s.atClose.msu = s.msu := by
  rw [State.atClose, State.foretell_msu, (State.told_truHealth _).msu, State.checkClose_msu, State.topClose_msu,
    State.clearMarks_msu]
theorem State.clearMarks_cap (s : State) : s.clearMarks.cap = s.cap := by simp [State.clearMarks]
theorem State.topClose_cap (s : State) : s.topClose.cap = s.cap := rfl
theorem State.checkClose_cap (s : State) : s.checkClose.cap = s.cap := rfl
theorem State.foretell_cap (s : State) : s.foretell.cap = s.cap := rfl
@[simp] theorem State.atClose_cap (s : State) : s.atClose.cap = s.cap := by
  rw [State.atClose, State.foretell_cap, (State.told_truHealth _).cap, State.checkClose_cap, State.topClose_cap,
    State.clearMarks_cap]
theorem State.clearMarks_lkc (s : State) : s.clearMarks.lkc = s.lkc := by simp [State.clearMarks]
theorem State.topClose_lkc (s : State) : s.topClose.lkc = s.lkc := rfl
theorem State.checkClose_lkc (s : State) : s.checkClose.lkc = s.lkc := rfl
theorem State.foretell_lkc (s : State) : s.foretell.lkc = s.lkc := rfl
@[simp] theorem State.atClose_lkc (s : State) : s.atClose.lkc = s.lkc := by
  rw [State.atClose, State.foretell_lkc, (State.told_truHealth _).lkc, State.checkClose_lkc, State.topClose_lkc,
    State.clearMarks_lkc]
theorem State.clearMarks_pim (s : State) : s.clearMarks.pim = s.pim := by simp [State.clearMarks]
theorem State.topClose_pim (s : State) : s.topClose.pim = s.pim := rfl
theorem State.checkClose_pim (s : State) : s.checkClose.pim = s.pim := rfl
theorem State.foretell_pim (s : State) : s.foretell.pim = s.pim := rfl
@[simp] theorem State.atClose_pim (s : State) : s.atClose.pim = s.pim := by
  rw [State.atClose, State.foretell_pim, (State.told_truHealth _).pim, State.checkClose_pim, State.topClose_pim,
    State.clearMarks_pim]
theorem State.clearMarks_pru (s : State) : s.clearMarks.pru = s.pru := by simp [State.clearMarks]
theorem State.topClose_pru (s : State) : s.topClose.pru = s.pru := rfl
theorem State.checkClose_pru (s : State) : s.checkClose.pru = s.pru := rfl
theorem State.foretell_pru (s : State) : s.foretell.pru = s.pru := rfl
@[simp] theorem State.atClose_pru (s : State) : s.atClose.pru = s.pru := by
  rw [State.atClose, State.foretell_pru, (State.told_truHealth _).pru, State.checkClose_pru, State.topClose_pru,
    State.clearMarks_pru]
theorem State.clearMarks_dbu (s : State) : s.clearMarks.dbu = s.dbu := by simp [State.clearMarks]
theorem State.topClose_dbu (s : State) : s.topClose.dbu = s.dbu := rfl
theorem State.checkClose_dbu (s : State) : s.checkClose.dbu = s.dbu := rfl
theorem State.foretell_dbu (s : State) : s.foretell.dbu = s.dbu := rfl
@[simp] theorem State.atClose_dbu (s : State) : s.atClose.dbu = s.dbu := by
  rw [State.atClose, State.foretell_dbu, (State.told_truHealth _).dbu, State.checkClose_dbu, State.topClose_dbu,
    State.clearMarks_dbu]
theorem State.clearMarks_cfp (s : State) : s.clearMarks.cfp = s.cfp := by simp [State.clearMarks]
theorem State.topClose_cfp (s : State) : s.topClose.cfp = s.cfp := rfl
theorem State.checkClose_cfp (s : State) : s.checkClose.cfp = s.cfp := rfl
theorem State.foretell_cfp (s : State) : s.foretell.cfp = s.cfp := rfl
theorem State.truHealth_cfp (s : State) : s.truHealth.cfp = s.cfp := by unfold State.truHealth; split <;> rfl
@[simp] theorem State.atClose_cfp (s : State) : s.atClose.cfp = s.cfp := by
  rw [State.atClose, State.foretell_cfp, State.truHealth_cfp, State.checkClose_cfp, State.topClose_cfp, State.clearMarks_cfp]
theorem State.clearMarks_pending (s : State) : s.clearMarks.pending = s.pending := by simp [State.clearMarks]
theorem State.topClose_pending (s : State) : s.topClose.pending = s.pending := rfl
theorem State.checkClose_pending (s : State) : s.checkClose.pending = s.pending := rfl
theorem State.foretell_pending (s : State) : s.foretell.pending = s.pending := rfl
@[simp] theorem State.atClose_pending (s : State) : s.atClose.pending = s.pending := by
  rw [State.atClose, State.foretell_pending, (State.told_truHealth _).pending, State.checkClose_pending, State.topClose_pending,
    State.clearMarks_pending]

/-- A row's effect, made on what its cycle close forms, with the results standing again. -/
theorem State.Keeps.row {s : State} {p : Prop} [Decidable p] (f : State → State) (h : ∀ u, State.Keeps u (f u)) :
    State.Keeps s (if p then (f s.atClose).standing s else s) :=
  .ite ((s.keeps_atClose.trans (h _)).trans (State.keeps_standing ..)) (.refl s)

theorem State.effect_lastConfirm (s : State) (x : Sec) : State.Effect s (s.lastConfirm x) := by
  unfold State.lastConfirm
  dsimp only
  refine State.Effect.trans ?_ (State.effect_diffTrip ..)
  exact .andThen (State.trigger · .diff) (State.effect_trigger · _) (s.effect_setDiff x
    (fun y => { y with confirm := confirmAfter (s.dbu.diff x).confirm (s.evaluateSection x), last := s.evaluateSection x })
    fun _ _ b => ⟨confirmAfter_le .., b⟩)

theorem State.keeps_execRestoreDelayExpiry (s : State) (t) (h : execRestoreDelayExpiry s = .next t) : State.Keeps s t := by
  have h := next_inj h; subst h
  exact State.Keeps.row (fun u => u.cluTrack.cluRestore) fun u =>
    (State.told_cluTrack u).keeps.trans (State.effect_cluRestore _).toKeeps

theorem State.told_fcuView (s : State) : State.Told s s.fcuView := .withFcu ..

/-- A shed row's effect. -/
theorem State.keeps_shedRow (u : State) : State.Keeps u u.fcuView.firstShed := by
  have v := (State.told_fcuView u).keeps
  unfold State.firstShed
  split
  · exact v.trans (State.effect_shed ..).toKeeps
  · exact v

/-- Neither a reset, START, STOP, RESET_LATCH nor a write to the store. -/
def plainCommand : Instr → Bool
  | .powerOnReset => false
  | .resetN => false
  | .start => false
  | .stop => false
  | .softReset => false
  | .resetLatch => false
  | .broadcastTrimWrite _ _ => false
  | .configurationWrite _ => false
  | _ => true

/-- What every plain command keeps. -/
theorem State.keeps_plain (c : Instr) (hc : plainCommand c = true) (s t : State) (h : exec c s = .next t) : State.Keeps s t := by
  cases c <;> simp only [plainCommand, Bool.false_eq_true] at hc <;> unfold exec at h <;> dsimp only at h
  case sampleStrobe => have h := next_inj h; subst h; exact s.keeps_strobeAt ..
  case phasorInstant => have h := next_inj h; subst h; exact s.keeps_strobeAt ..
  case measurementFail =>
    have h := next_inj h; subst h
    exact State.Keeps.ite ((s.keeps_withCvp _ (fun h => ⟨h.1, Nat.le_refl _⟩)).trans (State.keeps_raise ..)) (.refl s)
  case goodRunComplete =>
    have h := next_inj h; subst h
    exact State.Keeps.ite (s.keeps_withCvp _ (fun h => ⟨h.1, Nat.zero_le _⟩)) (.refl s)
  case crossingListTimeout c =>
    have h := next_inj h; subst h
    cases c <;> exact State.Keeps.ite (s.keeps_withMsu ..) (.refl s)
  case warmupComplete =>
    have h := next_inj h; subst h
    exact State.Keeps.ite (s.keeps_withCvp _ id) (.refl s)
  case elementOperate e =>
    have h := next_inj h; subst h
    dsimp only
    refine State.Keeps.ite ?_ (.refl s)
    generalize (Eight.ofFn fun d => if d = e then _ else Eight.get _ d) = z
    exact State.Effect.toKeeps ((s.effect_withPru (fun p => { p with elements := z }) id).trans (State.effect_operated ..))
  case captureHeld =>
    have h := next_inj h; subst h
    split
    · exact .refl s
    · rename_i b _
      split
      · rename_i k
        simp only [Bool.and_eq_true, beq_iff_eq] at k
        have h1 := s.keeps_setBank b { s.cap.bank b with post := s.cfg.post } rfl id
        refine State.Keeps.trans ?_ (State.keeps_raise ..)
        refine h1.trans (State.keeps_hold _ b ?_)
        simp only [State.withCap_cap]; rw [Cap.bank_setBank]; exact k.1.2
      · exact .refl s
  case ownSlot =>
    have h := next_inj h; subst h
    dsimp only
    repeat' split
    · exact (s.keeps_reach _).trans (State.keeps_publish _)
    · exact s.keeps_reach _
    · exact .refl s
  case readBack hd => exact State.keeps_execReadBack s hd t h
  case recordArrival => have h := next_inj h; subst h; exact s.keeps_recordArrival ..
  case cycleClose =>
    have h := next_inj h; subst h
    repeat' split
    · exact s.keeps_withLkcCounts _ (Lkc.begin_counts _)
    · exact s.keeps_cycleClose ..
    · exact .refl s
  case listenComplete =>
    have h := next_inj h; subst h
    exact State.Keeps.ite (s.keeps_withLkc _ (fun _ => LinkState.noConfusion) id) (.refl s)
  case silentSlotExpiry =>
    have h := next_inj h; subst h
    exact State.Keeps.ite (s.keeps_withLkc _ (fun _ => LinkState.noConfusion) id) (.refl s)
  case selfTimed =>
    have h := next_inj h; subst h
    exact State.Keeps.ite ((s.keeps_withLkc _ id fun h => ⟨Nat.le_refl _, h.2⟩).trans (State.keeps_becomeSelfTimed _)) (.refl s)
  case differentialTrip x =>
    have h := next_inj h; subst h
    exact State.Keeps.row (State.lastConfirm · x) fun u => (State.effect_lastConfirm u x).toKeeps
  case zoneBlocked x =>
    have h := next_inj h; subst h
    refine State.Keeps.ite ?_ (.refl s)
    exact (State.Effect.toKeeps (s.effect_setDiff x (fun y => { y with blocked := 3 }) fun _ a _ => ⟨a, Nat.le_refl _⟩)).trans (State.keeps_raise ..)
  case bfExpiry => have h := next_inj h; subst h; exact State.Keeps.ite (State.Effect.toKeeps s.effect_bfExpire) (.refl s)
  case contactEvent i x => exact State.keeps_execContactEvent s i x t h
  case reconfirmation =>
    have h := next_inj h; subst h
    split
    · exact .refl s
    · exact State.Keeps.ite ((State.Effect.toKeeps (s.effect_withBcu (fun b => { b with reconfirm := none }) id id)).trans (State.Effect.toKeeps (State.effect_pairEvent _))) (.refl s)
  case closeSupervisionExpiry => have h := next_inj h; subst h; exact State.Keeps.ite (State.Effect.toKeeps s.effect_supervisionExpire) (.refl s)
  case tripRelease =>
    have h := next_inj h; subst h
    exact State.Keeps.ite (State.Effect.toKeeps ((s.effect_withBcu (fun b => { b with hold := satInc 2 b.hold }) id fun _ => satInc_le ..).trans (State.effect_releaseTest _))) (.refl s)
  case discrepancyExpiry =>
    have h := next_inj h; subst h
    split
    · exact .refl s
    · split
      · rename_i k; simp only [Bool.and_eq_true] at k; exact State.Effect.toKeeps (s.effect_discrepancyExpire k.1.2)
      · exact .refl s
  case operatorClaimExpiry =>
    have h := next_inj h; subst h
    exact State.Keeps.ite (State.Told.keeps ((State.Told.withClu ..).trans (State.told_cluWithdraw ..))) (.refl s)
  case restoreDelayExpiry => exact State.keeps_execRestoreDelayExpiry s t h
  case syncSupervisionExpiry =>
    have h := next_inj h; subst h
    exact State.Keeps.row (fun u => (u.withSyu fun y => { y with supervision := s.cfg.tSyncMax.toNat }).syncExpire) fun u =>
      (State.Told.keeps (.withSyu u _ id)).trans (State.Effect.toKeeps (State.effect_syncExpire _))
  case startFail =>
    have h := next_inj h; subst h
    exact State.Keeps.row (fun u => (u.withGcu fun g => { g with startCount := s.cfg.tStart.toNat }).gcuFail .startFail) fun u =>
      ((State.Told.withGcu u _).trans (State.told_gcuFail ..)).keeps
  case retryExpiry =>
    have h := next_inj h; subst h
    exact State.Keeps.row (fun u => (u.withGcu fun g => { g with retryCount := s.cfg.tRetry.toNat }).gcuEnterSync) fun u =>
      ((State.Told.withGcu u _).trans (State.told_gcuEnterSync _)).keeps
  case unloadExpiry =>
    have h := next_inj h; subst h
    exact State.Keeps.row (fun u => (u.withGcu fun g => { g with unloadCount := s.cfg.tUnload.toNat }).tripRequest.gcuSet .cooldown) fun u =>
      (State.Told.withGcu u _).keeps.trans (State.effect_openCooldown _).toKeeps
  case coolExpiry =>
    have h := next_inj h; subst h
    exact State.Keeps.row (fun u => (u.withGcu fun g => { g with coolCount := s.cfg.tCool.toNat }).gcuSet .idle) fun u =>
      ((State.Told.withGcu u _).trans (State.told_gcuSet ..)).keeps
  case capacityShed =>
    have h := next_inj h; subst h
    exact State.Keeps.row (fun u => u.fcuView.firstShed) State.keeps_shedRow
  case underfreqShed st =>
    have h := next_inj h; subst h
    exact State.Keeps.row (fun u => u.fcuView.firstShed) State.keeps_shedRow
  case deadbusShed =>
    have h := next_inj h; subst h
    exact State.Keeps.row (fun u => u.fcuView.firstShed) State.keeps_shedRow
  case lossConfirmExpiry =>
    have h := next_inj h; subst h
    exact State.Keeps.row (fun u => (u.withTru fun x => { x with lossCount := s.cfg.tLoss.toNat }).tripRequest.truLeave .isolating) fun u =>
      (State.Told.withTru ..).keeps.trans (State.effect_tripLeave ..).toKeeps
  case returnShortExpiry =>
    have h := next_inj h; subst h
    refine State.Keeps.ite ?_ (.refl s)
    exact ((s.keeps_atClose.trans (State.told_truRaise ..).keeps).trans (State.keeps_standing ..)).trans (State.Told.withTru ..).keeps
  case returnExpiry =>
    have h := next_inj h; subst h
    exact State.Keeps.row (fun u => (u.withTru fun x => { x with returnCount := s.cfg.tReturn.toNat }).truEnterResync) fun u =>
      ((State.Told.withTru ..).trans (State.told_truEnterResync _)).keeps
  case resyncExpiry =>
    have h := next_inj h; subst h
    exact State.Keeps.row (fun u => (u.withTru fun x => { x with resyncCount := s.cfg.tResync.toNat }).truResyncOut) fun u =>
      ((State.Told.withTru ..).trans (State.told_truResyncOut _)).keeps
  case parallelTimeout =>
    have h := next_inj h; subst h
    exact State.Keeps.row State.truParallelTick fun u => u.told_truParallelTick.keeps
  case portNop => have h := next_inj h; subst h; exact .refl s
  case openBreaker => exact State.keeps_execOpenBreaker s t h
  case closeBreaker => exact State.keeps_execCloseBreaker s t h
  case setAuto => exact State.keeps_execSetAuto s t h
  case setManual => exact State.keeps_execSetManual s t h
  case retransferNow => exact State.keeps_execRetransferNow s t h
  case releaseCapture => exact State.keeps_execReleaseCapture s t h
  case triggerCapture => exact State.keeps_execTriggerCapture s t h
  case ackAttention => have h := next_inj h; subst h; exact State.keeps_acknowledge ..
  case unknownCommand => have h := next_inj h; subst h; exact State.Same.keeps {}
  case attentionAcknowledgeWrite => have h := next_inj h; subst h; exact State.keeps_acknowledge ..
  case attentionEnableWrite => have h := next_inj h; subst h; exact State.Same.keeps {}
  case groupAccessWrite => have h := next_inj h; subst h; exact State.Same.keeps {}
  case peerImageBlockRead => have h := next_inj h; subst h; exact State.Same.keeps {}

end Sys2Proof.Machine
end

