-- ==== Sys2Proof/Laws/Readout.lean ====
section
/-! SUPPORT. A quantity of two words is read with its high word first: the other half of an item that lies at an address lies
beside it (`placedAt`, R92). -/

namespace Sys2Proof.Machine

/-- The other half of the other half is the item itself. -/
theorem StatusItem.twin_twin (i j : StatusItem) (h : Bool) (e : StatusItem.twin i = some (h, j)) :
    StatusItem.twin j = some (!h, i) := by
  unfold StatusItem.twin at e
  split at e <;> simp only [Option.some.injEq, Prod.mk.injEq, reduceCtorEq] at e <;> obtain ⟨rfl, rfl⟩ := e <;>
    simp [StatusItem.twin]

theorem SnapshotItem.twin_twin (i j : SnapshotItem) (h : Bool) (e : SnapshotItem.twin i = some (h, j)) :
    SnapshotItem.twin j = some (!h, i) := by
  unfold SnapshotItem.twin at e
  split at e <;> simp only [Option.some.injEq, Prod.mk.injEq, reduceCtorEq] at e <;> obtain ⟨rfl, rfl⟩ := e <;>
    simp [SnapshotItem.twin]

theorem CaptureItem.twin_twin (i j : CaptureItem) (h : Bool) (e : CaptureItem.twin i = some (h, j)) :
    CaptureItem.twin j = some (!h, i) := by
  unfold CaptureItem.twin at e
  split at e <;> simp only [Option.some.injEq, Prod.mk.injEq, reduceCtorEq] at e <;> obtain ⟨rfl, rfl⟩ := e <;>
    simp [CaptureItem.twin]

/-- What an item placed at an address says of the addresses beside it. -/
theorem placedAt_beside {α : Type} [DecidableEq α] {place : Word → Option α} {twin : α → Option (Bool × α)} {lo hi a : Word}
    {i : α} (back : ∀ i j h, twin i = some (h, j) → twin j = some (!h, i)) (h : placedAt place twin lo hi a = some i) (j : α) :
    (twin i = some (true, j) → placedAt place twin lo hi (a + 1) = some j) ∧
      (twin i = some (false, j) → placedAt place twin lo hi (a - 1) = some j) := by
  unfold placedAt at h
  split at h
  · rename_i r
    rw [Option.filter_eq_some_iff] at h
    obtain ⟨h1, h2⟩ := h
    refine ⟨fun e => ?_, fun e => ?_⟩
    · rw [e] at h2; simp only [Bool.and_eq_true, bne_iff_ne, ne_eq, beq_iff_eq] at h2
      have n : a.toNat ≠ hi.toNat := fun x => h2.1 (BitVec.eq_of_toNat_eq x)
      have s : (a + 1).toNat = a.toNat + 1 := by rw [BitVec.toNat_add]; have := hi.isLt; simp; omega
      unfold placedAt
      rw [if_pos (by omega), Option.filter_eq_some_iff]
      refine ⟨h2.2, ?_⟩
      rw [back _ _ _ e]; simp only [Bool.not_true, Bool.and_eq_true, bne_iff_ne, ne_eq, beq_iff_eq]
      refine ⟨fun x => ?_, by rw [BitVec.add_sub_cancel]; exact h1⟩
      have := congrArg BitVec.toNat x; omega
    · rw [e] at h2; simp only [Bool.and_eq_true, bne_iff_ne, ne_eq, beq_iff_eq] at h2
      have n : a.toNat ≠ lo.toNat := fun x => h2.1 (BitVec.eq_of_toNat_eq x)
      have s : (a - 1).toNat = a.toNat - 1 := by rw [BitVec.toNat_sub]; have := a.isLt; simp; omega
      unfold placedAt
      rw [if_pos (by omega), Option.filter_eq_some_iff]
      refine ⟨h2.2, ?_⟩
      rw [back _ _ _ e]; simp only [Bool.not_false, Bool.and_eq_true, bne_iff_ne, ne_eq, beq_iff_eq]
      refine ⟨fun x => ?_, by rw [BitVec.sub_add_cancel]; exact h1⟩
      have := congrArg BitVec.toNat x; omega
  · exact absurd h (by simp)

end Sys2Proof.Machine
end

