-- ==== Sys2Proof/Laws/Wire.lean ====
section
/-! SUPPORT. The bay record byte by byte (R44, R45): lengths, and each coded field read back from its code. -/

namespace Sys2Proof.Machine

theorem encodePart_length (p : RolePart) : (encodePart p).length = 6 := by cases p <;> rfl
theorem encodeBody_length (r : BayRecord) : (encodeBody r).length = 36 := by
  simp [encodeBody, encodeHead, encodeMeasured, wordBytes, encodePart_length]

theorem wordBytes_join (w : Word) : w.extractLsb' 8 8 ++ w.extractLsb' 0 8 = w := by
  ext i hi
  simp only [BitVec.getElem_append, BitVec.getElem_extractLsb']
  split <;> grind

theorem encodeRecord_part (r : BayRecord) :
    encodeRecord r = (encodeHead r ++ encodeMeasured r) ++ (encodePart r.part ++ wordBytes (crc16 (encodeBody r))) := by
  simp [encodeRecord, encodeBody, List.append_assoc]

theorem decode_sec (s : Option Sec) : secOf (secBits s) = some s := by
  rcases s with _ | _ | _ <;> decide
theorem decode_align (a : Alignment) : alignOf (alignBits a) = some a := by cases a <;> decide
theorem decode_meas (a : MeasState) : measOf (measBits a) = some a := by cases a <;> decide
theorem decode_summary (a : Summary) : summaryOf (summaryBits a) = some a := by cases a <;> decide
theorem decode_claim (a : ClaimType) : claimOf (claimBits a) = some a := by cases a <;> decide
theorem decode_transfer (a : TransferCode) : transferTable[(transferBits a).toNat]? = some a := by cases a <;> decide
theorem decode_unit (a : UnitState) : unitTable[(unitByte a).toNat]? = some a := by cases a <;> decide
theorem decode_bias (a : BiasMode) : biasTable[(biasByte a).toNat]? = some a := by cases a <;> decide
theorem decode_shed (a : ShedState) : shedTable[(shedByte a).toNat]? = some a := by cases a <;> decide

theorem decodePart_encode (r : BayRecord) (hp : r.part.inRange = true) (x : List Byte) (hx : x.length = 30) (y : List Byte) :
    decodePart (roleBits r.role)
      (x ++ (encodePart r.part ++ y)) = some r.part := by
  have b (i : Nat) : byteAt (x ++ (encodePart r.part ++ y)) (30 + i) = byteAt (encodePart r.part ++ y) i := by
    simp [byteAt, List.getElem?_append_right, hx]
  have w (i : Nat) : wordAt (x ++ (encodePart r.part ++ y)) (30 + i) = wordAt (encodePart r.part ++ y) i := by
    simp only [wordAt, b, Nat.add_assoc]
  have d : (x ++ (encodePart r.part ++ y)).drop 31 = (encodePart r.part ++ y).drop 1 := by
    simp [List.drop_append, hx]
  have b0 := b 0; have b1 := b 1; have b2 := b 2; have b3 := b 3; have b4 := b 4; have b5 := b 5
  have w0 := w 0; have w2 := w 2
  simp only [Nat.reduceAdd] at b0 b1 b2 b3 b4 b5 w0 w2
  unfold decodePart
  rw [b0, b1, b2, b3, b4, b5, w0, w2, d]
  have hr : r.role = r.role := rfl
  conv at hr => rhs; unfold BayRecord.role
  rw [hr]
  clear hr b w d b0 b1 b2 b3 b4 b5 w0 w2
  cases h0 : r.part with
  | incomer h ref off =>
    cases h <;> simp [roleBits, encodePart, wordBytes, byteAt, wordAt, wordBytes_join]
  | tie dd =>
    rcases dd with _ | _ | _ <;> simp [roleBits, encodePart, byteAt, secBits, secOf]
  | generator l rt u bm =>
    have h1 := decode_unit u; have h2 := decode_bias bm
    simp [roleBits, encodePart, wordBytes, byteAt, wordAt, wordBytes_join, h1, h2]
  | feeder h pr st =>
    have h1 := decode_shed st
    rw [h0] at hp; simp only [RolePart.inRange, bne_iff_ne] at hp
    have hp : ¬pr = 0#8 := hp
    simp [roleBits, encodePart, wordBytes, byteAt, wordAt, wordBytes_join, h1, hp]

/-! ### The six head bytes, field by field -/

theorem headByte0 : ∀ (s : Fin 16) (a b : BitVec 2), let x : Byte := BitVec.ofFin (w := 4) s ++ a ++ b
    (x.extractLsb' 4 4).toFin = s ∧ x.extractLsb' 2 2 = a ∧ x.extractLsb' 0 2 = b := by decide
theorem headByte2 : ∀ (a b : BitVec 2) (c : BitVec 3) (d : Bool), let x : Byte := a ++ b ++ c ++ BitVec.ofBool d
    x.extractLsb' 6 2 = a ∧ x.extractLsb' 4 2 = b ∧ x.extractLsb' 1 3 = c ∧ x.getLsbD 0 = d := by decide
theorem headByte3 : ∀ (a b c d e f g h : Bool), 
    let x : Byte := BitVec.ofBool a ++ BitVec.ofBool b ++ BitVec.ofBool c ++ BitVec.ofBool d ++ BitVec.ofBool e ++ BitVec.ofBool f ++ BitVec.ofBool g ++ BitVec.ofBool h
    x.getLsbD 7 = a ∧ x.getLsbD 6 = b ∧ x.getLsbD 5 = c ∧ x.getLsbD 4 = d ∧ x.getLsbD 3 = e ∧ x.getLsbD 2 = f
      ∧ x.getLsbD 1 = g ∧ x.getLsbD 0 = h := by decide
theorem headByte4 : ∀ (a : Bool) (b : BitVec 2) (c : Bool) (d : Fin 4), let x : Byte := BitVec.ofBool a ++ b ++ BitVec.ofBool c ++ BitVec.ofFin (w := 2) d ++ 0#2
    x.getLsbD 7 = a ∧ x.extractLsb' 5 2 = b ∧ x.getLsbD 4 = c ∧ (x.extractLsb' 2 2).toFin = d ∧ x.extractLsb' 0 2 = 0#2 := by decide
theorem headByte5 : ∀ (a : BitVec 4), let x : Byte := a ++ 0#4
    x.extractLsb' 4 4 = a ∧ x.extractLsb' 0 4 = 0#4 := by decide

end Sys2Proof.Machine
end

