-- ==== Sys2Proof/Tests/Slice0.lean ====
section
/-! SUPPORT. Tests on small states: the checks of WellFormed, the manual's worked examples, one command at a time, and a
witness for the hypotheses of each statement. Expected values are the manual's; each test names its chapter or rule. -/

namespace Sys2Proof.Tests

open Sys2Proof Sys2Proof.Machine

/-- The state a command leaves. -/
def after (c : Instr) (s : State) : State :=
  match exec c s with
  | .next t => t
  | _ => s

/-! ### WellFormed: each check refuses an ill-formed term -/

theorem test_wf_strobe_order : Instr.wf (.sampleStrobe 0 .missing (Vector.replicate 8 false) [.pair, .pair]) = false := by decide

theorem test_wf_phasor_order : Instr.wf (.phasorInstant .missing (Vector.replicate 8 false) [.pair, .pair]) = false := by decide

theorem test_wf_close_order : Instr.wf (.cycleClose [.tru, .gcu, .tru]) = false := by decide

/-- A frame of 37 bytes. -/
def shortFrame : Frame := { start := 0, bytes := List.replicate 37 0, tail := 0x7E }

/-- A frame begun after the longest link cycle. -/
def lateFrame : Frame := { start := 480000, bytes := List.replicate 38 0, tail := 0x7E }

theorem test_wf_read_back_length : Instr.wf (.readBack (.frame shortFrame)) = false := by decide

theorem test_wf_arrival_start : Instr.wf (.recordArrival lateFrame) = false := by decide

theorem test_wf_nop : Instr.wf (.portNop 0x41) = false ∧ Instr.wf (.portNop 0x3F) = true ∧ Instr.wf (.portNop 0x48) = true := by
  decide

theorem test_wf_unknown : Instr.wf (.unknownCommand 12) = false ∧ Instr.wf (.unknownCommand 13) = true
    ∧ Instr.wf (.unknownCommand 0) = true := by decide

theorem test_wf_source_half : Instr.wf (.configurationWrite (.groupNumber (.pickup .overI) 1)) = false
    ∧ Instr.wf (.configurationWrite (.groupNumber (.delay .highI) 1)) = false := by decide

theorem test_wf_own_row : Instr.wf (.configurationWrite (.other 0x0081 1)) = false := by decide

theorem test_wf_block_read : Instr.wf (.peerImageBlockRead 0 0) = false ∧ Instr.wf (.peerImageBlockRead 0 33) = false
    ∧ Instr.wf (.peerImageBlockRead 0 32) = true := by decide

/-! ### Worked examples of chapters 1, 2, 5, 8, 9 and 10 -/

/-- R33: the CRC of the nine characters 123456789. -/
theorem test_crc : crc16 [0x31, 0x32, 0x33, 0x34, 0x35, 0x36, 0x37, 0x38, 0x39] = 0x29B1 := by decide +kernel

/-- Chapter 1: the crossing at x' = −1200, 2000 and N = 1000. -/
theorem test_crossing : crossingTime 1000 (-1200) 2000 = 255840 := by decide

/-- Chapter 1: five crossings give P256 = 8212 and 4987 cHz. -/
theorem test_frequency : period { times := [100000, 108212, 116425, 124637, 132850], since := 0 } .live = 8212
    ∧ frequency Settings.default 8212 = 4987 := by decide

/-- Chapter 1: three phase pairs of (16384, 0) and (8000, 0) carry 3000 power units and Q = 0. -/
def phasors : Seven Phasor :=
  Seven.ofFn fun c => match c with
    | .va => ⟨16384, 0⟩ | .vb => ⟨16384, 0⟩ | .vc => ⟨16384, 0⟩ | .vl => ⟨0, 0⟩
    | _ => ⟨8000, 0⟩

theorem test_power : activePower phasors = 3000 ∧ reactivePower phasors = 0 := by decide

/-- Chapter 5: through load gives Iop 111 and Ires 19971, an internal fault 9513 and 10561. -/
theorem test_differential :
    phaseSum 800 32 [(8000, 0), (2000, 500), (-9900, -450)] = { iop := 111, ires := 19971, operates := false }
    ∧ phaseSum 800 32 [(8000, 0), (2000, 500), (-500, 0)] = { iop := 9513, ires := 10561, operates := true } := by decide

/-- Chapter 4, k2 to k6 of the worked example: pickup 19661, delay 3. -/
def ia (a b c : Nat) : ResultSet :=
  { ResultSet.empty with
    mag := Seven.ofFn fun ch => match ch with | .ia => a | .ib => b | .ic => c | _ => 0 }

def rec3 : ElementRec :=
  ((ElementRec.quiet.advance (some (overcurrentTest (ia 20500 18900 18400) 19661)) 3).advance
    (some (overcurrentTest (ia 19000 18800 18300) 19661)) 3)

theorem test_overcurrent :
    rec3 = { state := .pickup, count := 2, phases := { a := true, b := false, c := false } }
    ∧ rec3.advance (some (overcurrentTest (ia 21000 20000 18600) 19661)) 3
      = { state := .operate, count := 3, phases := { a := true, b := true, c := false } } := by
  decide

/-- Chapter 8: the two angles of R134 and R135, and the worked check at −296 and −292. -/
theorem test_angles : angleFrom 5000 8192 = -1403 ∧ advanceAngle Settings.default (-7) = -20
    ∧ predictedAngle (angleFrom (-296) 8192) (advanceAngle Settings.default 10) = -102
    ∧ predictedAngle (angleFrom (-292) 8192) (advanceAngle Settings.default 10) = -100 := by decide

/-- Chapter 9: load fractions of the worked case and the clamp of R146. -/
theorem test_fractions : loadFraction 2100 3000 = 2867 ∧ loadFraction 600 3000 = 819 ∧ loadFraction (-32767) 3000 = -4096 := by
  decide

/-- Chapter 10: limits of two and of three generators of 3000. -/
theorem test_limits : 6000 * Settings.default.margin.toNat / 4096 = 5399 ∧ 9000 * Settings.default.margin.toNat / 4096 = 8099 := by
  decide

/-- R17: a fall of 13 cHz over eight cycles at 50 Hz is −325 cHz per second. -/
theorem test_rocof : rocofOf Settings.default [5000, 4999, 4997, 4995, 4993, 4992, 4990, 4989, 4987] = some (-325) := by decide

/-- The default store passes every check; V_live at V_dead fails check 6 and a timer of 0 fails its group's check. -/
theorem test_checks : Settings.default.checkCode = 0 ∧ { Settings.default with vDead := 13107 }.checkCode = 6
    ∧ { Settings.default with tBf := 0 }.checkCode = 14 := by decide

/-- R190, R193: an EXEC of number 1, a WRITE of the enable mask, a byte with an unused bit, a READ of block 3's words. -/
theorem test_port : portTransfer [0xC1, 0x00, 0x01, 0x00, 0x00] = [.start]
    ∧ portTransfer [0x81, 0x00, 0x81, 0x12, 0x34] = [.attentionEnableWrite 0x1234]
    ∧ portTransfer [0x48, 0x11, 0x60, 0x00] = [.portNop 0x48]
    ∧ portTransfer [0x42, 0x11, 0x60, 0x00, 0x00, 0x00, 0x00] = [.peerImageBlockRead 3 2] := by decide

/-! ### Small states -/

/-- A station in RUN with this store and every block at its power-on values. -/
def stationIn (c : Settings) : State := { State.reset with cfg := c, cfp := { Cfp.reset with run := .run } }

/-- A feeder in RUN. -/
def feeder : State := stationIn Settings.default

/-- An incomer in RUN. -/
def incomer : State := stationIn { Settings.default with role := some .incomer }

/-- A generator in RUN. -/
def generator : State :=
  stationIn { Settings.default with
    role := some .generator, inputs := Settings.default.inputs.set 2 { fn := some .engineReady, low := false } }

/-- A tie in RUN whose transfer is enabled. -/
def tie : State := stationIn { Settings.default with role := some .tie, sect := 0, tieTransfer := true }

/-- A tie in RUN whose transfer is disabled. -/
def tieOff : State := stationIn { Settings.default with role := some .tie, sect := 0 }

/-- The breaker in a state. -/
def withBreaker (s : State) (b : BreakerState) : State := { s with bcu := { s.bcu with state := b } }

/-- The transfer in AUTO and in a state. -/
def inAuto (s : State) (x : TransferState) : State := { s with tru := { s.tru with mode := .auto, state := x } }

/-- A generator's unit state. -/
def unitIn (s : State) (u : UnitState) : State := { s with gcu := { s.gcu with unit := u } }

/-- Input line i settled at a level. -/
def line (s : State) (i : Fin 8) (level : Bool) : State :=
  { s with bcu := { s.bcu with
      lines := s.bcu.lines.set i.val { high := level, read := some level, level := some level, hold := 0 } i.isLt } }

/-- The contact pair settled: line 0 is BRK_CLOSED and line 1 BRK_OPEN in the default store. -/
def contacts (s : State) (closed : Bool) : State := line (line s 0 closed) 1 (!closed)

/-- A measured set of the current cycle: both sides LIVE at 5000 and 5010 cHz, line angle as given in crossing units. -/
def liveSet (lag : Count) : ResultSet :=
  { ResultSet.empty with
    label := some 0, meas := .valid, clsA := .live, clsB := .live, clsC := .live, clsL := .live, busClass := .live,
    fBus := 5000, fLine := 5010, periodBus := 8192, periodLine := 8175, tBus := some 0, tLine := some lag,
    mag := Seven.ofFn fun c => match c with | .vl => 16610 | .va => 16420 | _ => 16420, vMin := 16420, vMax := 16420 }

/-- The set of the current cycle. -/
def measured (s : State) (r : ResultSet) : State := { s with msu := { s.msu with newest := r } }

/-- A record of station k in section 1 with this role part, ALIGNED, VALID and CLOSED in cycle 0. -/
def record (k : Station) (p : RolePart) : BayRecord :=
  { station := k, sect := match p with | .tie _ => none | _ => some .one, cycle := 0, alignment := .aligned, meas := .valid,
    summary := .closed, lockout := false, tripActive := false, bfNotice := false, faultGroup := false, sourceGroup := false,
    mode := .auto, hold := false, startDemand := false, openDemand := false, parallelTimeout := false, claim := .none,
    claimTarget := .one, claimRank := 0, transfer := .none, iaRe := 0, iaIm := 0, ibRe := 0, ibIm := 0, icRe := 0, icIm := 0,
    busVoltage := 16384, busFrequency := 5000, lineVoltage := 0, lineFrequency := 0, p := 0, q := 0, part := p }

/-- The entry of the record's station holds it, FRESH. -/
def heard (s : State) (r : BayRecord) : State := s.withEntry r.station fun e => { e with record := some r, accepted := s.lkc.count }

/-- A feeder's role part. -/
def feederPart : RolePart := .feeder 0 8 .normal

/-- An incomer's role part. -/
def incomerPart : RolePart := .incomer true 5000 0

/-- The topology of a GENSET island with section 1's own set of station 0. -/
def island (s : State) (x : IslandState) : State :=
  { s with top := { s.top with map := .apart, own := x, state1 := x, state2 := x, expected1 := some 1, expected2 := some 0 } }

/-- Station k is expected. -/
def expect (s : State) (k : Station) : State := s.withEntry k fun e => { e with expected := true }

/-- The image of an island: a closed incomer, a closed generator, or neither. -/
def lit (s : State) (x : IslandState) : State :=
  match x with
  | .grid => heard s (record 3 incomerPart)
  | .genset => heard s (record 2 (.generator 0 100 .online .isoch))
  | _ => s

/-! ### Witnesses: a state and operands that meet the hypotheses of each statement, clause by clause -/

/-- Lockout set, in RUN. -/
def locked : State := { feeder with dbu := { feeder.dbu with lockout := true } }

/-- ResetsRestoreEveryBlock: both run states of SOFT_RESET. -/
theorem witness_ResetsRestoreEveryBlock : State.reset.cfp.run = .config ∧ feeder.cfp.run = .run := by decide

/-- CommandsCompleteAndKeepTheirBounds: lockout ends, the store changes in RUN, the run state changes. -/
theorem witness_CommandsCompleteAndKeepTheirBounds :
    (locked.dbu.lockout = true ∧ (after .resetLatch locked).dbu.lockout = false)
    ∧ (generator.cfp.run = .run ∧ (after .resetN generator).cfg ≠ generator.cfg)
    ∧ (after .start State.reset).cfp.run ≠ State.reset.cfp.run := by decide

/-- CheckCodeIsTheFirstFailure: the first and the last check fail alone, and none fails; a generator in check 11. -/
theorem witness_CheckCodeIsTheFirstFailure :
    { Settings.default with station := 16 }.checkCode = 1 ∧ { Settings.default with tLoss := 0 }.checkCode = 18
    ∧ Settings.default.checkCode = 0 ∧ { Settings.default with role := some .generator }.checkCode = 11
    ∧ generator.cfg.role = some .generator ∧ generator.cfg.checkCode = 0 := by decide

/-- The banks in these states. -/
def banks (a b : BankState) : State :=
  { feeder with cap := { feeder.cap with a := { feeder.cap.a with state := a }, b := { feeder.cap.b with state := b } } }

/-- In CONFIG with these banks. -/
def banksInConfig (a b : BankState) : State := { banks a b with cfp := State.reset.cfp }

/-- StartEntersRun: RUN, a store that fails, a store that passes with bank A FREE and with bank A HELD. -/
theorem witness_StartEntersRun : feeder.cfp.run = .run
    ∧ ({ State.reset with cfg := { Settings.default with tBf := 1 } }.cfp.run = .config
      ∧ { State.reset with cfg := { Settings.default with tBf := 1 } }.cfg.checkCode ≠ 0)
    ∧ (State.reset.cfp.run = .config ∧ State.reset.cfg.checkCode = 0 ∧ State.reset.cap.a.state = .free)
    ∧ ((banksInConfig .held .free).cfp.run = .config ∧ (banksInConfig .held .free).cfg.checkCode = 0
      ∧ (banksInConfig .held .free).cap.a.state ≠ .free) := by decide

/-- StopEntersConfigWithAnOpenBreaker: an open breaker, and a closed one. -/
theorem witness_StopEntersConfigWithAnOpenBreaker :
    ((withBreaker feeder .opened).cfp.run = .run ∧ (withBreaker feeder .opened).bcu.state = .opened
      ∧ (withBreaker feeder .opened).bcu.trip = false ∧ (withBreaker feeder .opened).bcu.close = false)
    ∧ ¬((withBreaker feeder .closed).bcu.state = .opened) := by decide

/-- CommandsOfRunAreRefusedInConfig. -/
theorem witness_CommandsOfRunAreRefusedInConfig : State.reset.cfp.run = .config := by decide

/-- OpenActsOnTheStateItFinds: RUN in each breaker state; a feeder, an incomer in AUTO and a tie in AUTO. -/
theorem witness_OpenActsOnTheStateItFinds :
    (∀ b ∈ [BreakerState.unknown, .opened, .closing, .closed, .opening, .failedOpen, .discrepant],
      (withBreaker feeder b).cfp.run = .run ∧ (withBreaker feeder b).bcu.state = b)
    ∧ (feeder.cfp.run = .run ∧ feeder.cfg.role = some .feeder)
    ∧ (∀ x ∈ [TransferState.normal, .lossConfirm, .returnWait, .resync, .parallel, .openReturn, .halted],
      (inAuto incomer x).cfp.run = .run ∧ (inAuto incomer x).cfg.role = some .incomer
      ∧ (inAuto incomer x).tru.mode = .auto ∧ (inAuto incomer x).tru.state = x)
    ∧ ((inAuto tie .tieOpen).cfp.run = .run ∧ (inAuto tie .tieOpen).cfg.role = some .tie
      ∧ (inAuto tie .tieOpen).cfg.tieTransfer = true ∧ (inAuto tie .tieOpen).tru.mode = .auto) := by decide

/-- CloseIsJudgedByTheClaimUnit: MANUAL, a feeder in AUTO, a tie whose transfer is disabled; in AUTO a generator, a tie and
the incomer's states, with and without its own lockout. -/
theorem witness_CloseIsJudgedByTheClaimUnit :
    (generator.cfp.run = .run ∧ generator.tru.mode = .manual)
    ∧ ((inAuto feeder .manual).cfp.run = .run ∧ (inAuto feeder .manual).cfg.role = some .feeder)
    ∧ ((inAuto tieOff .manual).cfp.run = .run ∧ tieOff.cfg.role = some .tie ∧ tieOff.cfg.tieTransfer = false)
    ∧ ((inAuto generator .manual).cfp.run = .run ∧ (inAuto generator .manual).tru.mode = .auto ∧ generator.cfg.role = some .generator)
    ∧ ((inAuto tie .tieOpen).cfp.run = .run ∧ (inAuto tie .tieOpen).tru.mode = .auto ∧ tie.cfg.role = some .tie
      ∧ tie.cfg.tieTransfer = true)
    ∧ (∀ x ∈ [TransferState.onAlternate, .returnWait, .deadWait, .normal], (inAuto incomer x).cfp.run = .run
      ∧ (inAuto incomer x).tru.mode = .auto ∧ (inAuto incomer x).cfg.role = some .incomer
      ∧ (inAuto incomer x).dbu.lockout = false ∧ (inAuto incomer x).tru.state = x ∧ (inAuto incomer x).tru.healthy = false
      ∧ ({ inAuto incomer x with tru := { (inAuto incomer x).tru with healthy := true } } : State).tru.healthy = true
      ∧ ({ inAuto incomer x with dbu := locked.dbu } : State).dbu.lockout = true) := by decide

/-- SetAutoAsksForADerivation: SET_AUTO in both modes; RETRANSFER_NOW in RETURN_WAIT, in MANUAL, in another state and in
another role. -/
theorem witness_SetAutoAsksForADerivation : (incomer.cfp.run = .run ∧ incomer.tru.mode = .manual)
    ∧ ((inAuto incomer .normal).cfp.run = .run ∧ (inAuto incomer .normal).tru.mode = .auto
      ∧ (inAuto incomer .normal).tru.state ≠ .returnWait)
    ∧ ((inAuto incomer .returnWait).cfp.run = .run ∧ incomer.cfg.role = some .incomer
      ∧ (inAuto incomer .returnWait).tru.mode = .auto ∧ (inAuto incomer .returnWait).tru.state = .returnWait)
    ∧ (feeder.cfp.run = .run ∧ feeder.cfg.role ≠ some .incomer) := by decide

/-- SetManualEndsTheSequence: MANUAL, and each role in AUTO, a generator in each state that it leaves. -/
theorem witness_SetManualEndsTheSequence : (incomer.cfp.run = .run ∧ incomer.tru.mode = .manual)
    ∧ (∀ s ∈ [inAuto incomer .normal, inAuto tie .tieOpen, unitIn (inAuto generator .manual) .unload, inAuto feeder .manual],
      s.cfp.run = .run ∧ s.tru.mode = .auto)
    ∧ (∀ u ∈ [UnitState.starting, .deadbus, .sync, .syncWait], (unitIn (inAuto generator .manual) u).gcu.unit = u
      ∧ (unitIn (inAuto generator .manual) u).tru.mode = .auto)
    ∧ incomer.cfg.role = some .incomer ∧ tie.cfg.role = some .tie ∧ generator.cfg.role = some .generator
    ∧ feeder.cfg.role = some .feeder := by decide

/-- A peer's record with the BF notice, in the own section. -/
def noticed : State := heard feeder { record 3 incomerPart with bfNotice := true }

/-- Line 4 gives EXT_LOCKOUT and is active. -/
def lockedOut : State :=
  let c := { Settings.default with inputs := Settings.default.inputs.set 4 { fn := some .extLockout, low := false } }
  line (stationIn c) 4 true

/-- ResetLatchClearsLockout: each of the three refusals, and none of them, in a feeder, in a generator in FAIL and in an
incomer in HALTED. -/
theorem witness_ResetLatchClearsLockout :
    (lockedOut.cfp.run = .run ∧ lockedOut.fnActive .extLockout = true)
    ∧ ({ locked with dbu := { locked.dbu with notice := true } } : State).dbu.notice = true
    ∧ (noticed.cfp.run = .run ∧ noticed.usableRec 3 = some { record 3 incomerPart with bfNotice := true }
      ∧ concerns noticed.cfg { record 3 incomerPart with bfNotice := true } = true)
    ∧ ∀ s ∈ [locked, unitIn generator .fail, inAuto incomer .halted], s.cfp.run = .run ∧ s.fnActive .extLockout = false
      ∧ s.dbu.notice = false ∧ ∀ k : Station, s.usableRec k = none := by decide

/-- ReleaseCaptureFreesTheHeldBank: bank A HELD, bank B HELD, none HELD. -/
theorem witness_ReleaseCaptureFreesTheHeldBank :
    ((banks .held .active).cap.a.state = .held)
    ∧ ((banks .active .held).cap.a.state ≠ .held ∧ (banks .active .held).cap.b.state = .held)
    ∧ ((banks .active .free).cap.a.state ≠ .held ∧ (banks .active .free).cap.b.state ≠ .held) := by decide

/-- A capture one set short of its POST of 384, triggered at position 44. -/
def almostHeld : State :=
  { feeder with cap := { feeder.cap with a := { feeder.cap.a with
      state := .post, index := 427, post := 383,
      record := { CaptureRecord.empty with trigger := 44, pre := 128 } } } }

/-- TriggerCaptureIsTakenByTheRecordingBank: a mask without COMMAND; an ACTIVE bank beside a FREE and a HELD one, a bank in
POST, none recording; the last set of a capture. -/
theorem witness_TriggerCaptureIsTakenByTheRecordingBank :
    ({ feeder with cfg := { feeder.cfg with triggers := .empty } } : State).cfg.triggers.command = false
    ∧ (feeder.cfp.run = .run ∧ feeder.cfg.triggers.command = true)
    ∧ (((banks .active .free).cap.bank false).state = .active ∧ ((banks .active .free).cap.bank true).state = .free)
    ∧ (((banks .held .active).cap.bank true).state = .active ∧ ((banks .held .active).cap.bank false).state = .held)
    ∧ (((banks .post .free).cap.bank false).state = .post ∧ ((banks .post .free).cap.bank true).state = .free)
    ∧ (∀ x : Bool, (feeder.cap.bank x).state ≠ .active ∧ (feeder.cap.bank x).state ≠ .post)
    ∧ (almostHeld.cfp.run = .run ∧ almostHeld.cfg.checkCode = 0 ∧ (almostHeld.cap.bank false).state = .post
      ∧ (almostHeld.cap.bank true).state = .free
      ∧ (almostHeld.cap.bank false).post + 1 = almostHeld.cfg.capLen.toNat - almostHeld.cfg.pre.toNat
      ∧ (almostHeld.cap.bank false).record.trigger < almostHeld.cfg.capLen.toNat) := by decide

/-- CaptureWindowReadsTheHeldBank: a HELD bank and none; the ends of the positions; a bank that fills, one in POST before
and at its last set, and none recording. -/
theorem witness_CaptureWindowReadsTheHeldBank :
    (((banks .held .active).cap.bank false).state = .held ∧ ((banks .held .active).cap.bank true).state ≠ .held)
    ∧ (∀ x : Bool, (feeder.cap.bank x).state ≠ .held)
    ∧ (Memory.wf [(0, 5), (7167, 6)] = true ∧ (0 : Nat) < 1024 ∧ (1023 : Nat) < 1024)
    ∧ (((banks .active .held).cap.bank true).state ≠ .active ∧ ((banks .active .held).cap.bank true).state ≠ .post
      ∧ ((banks .active .held).cap.bank false).state = .active)
    ∧ (((banks .post .free).cap.bank false).post + 1 < feeder.cfg.capLen.toNat - feeder.cfg.pre.toNat)
    ∧ (feeder.cfg.capLen.toNat - feeder.cfg.pre.toNat ≤ (almostHeld.cap.bank false).post + 1
      ∧ (almostHeld.cap.bank true).state ≠ .active ∧ (almostHeld.cap.bank true).state ≠ .post)
    ∧ ((feeder.cap.bank false).state ≠ .active ∧ (feeder.cap.bank false).state ≠ .post
      ∧ (feeder.cap.bank true).state ≠ .active ∧ (feeder.cap.bank true).state ≠ .post) := by decide

/-- PortItemsTakeTheirOwnWrites: both run states. -/
theorem witness_PortItemsTakeTheirOwnWrites : State.reset.cfp.run = .config ∧ feeder.cfp.run = .run := by decide

/-- StoreWritesAreAppliedInConfigAlone: a number, a coded word of the group window in each instance, an address without an
item; both run states. -/
theorem witness_StoreWritesAreAppliedInConfigAlone : State.reset.cfp.run = .config ∧ feeder.cfp.run = .run
    ∧ (ConfigWrite.wf (.number .tBf 30) = true ∧ ConfigWrite.item (.number .tBf 30) = some (.number .tBf))
    ∧ (ConfigWrite.wf (.action .overI (some .alarm) 1) = true
      ∧ ConfigWrite.item (.action .overI (some .alarm) 1) = some (.groupCoded (.action .overI)))
    ∧ (ConfigWrite.wf (.other 0x0084 1) = true ∧ ConfigWrite.item (.other 0x0084 1) = none)
    ∧ (State.reset.cfp.groupAccess = false ∧ (after (.groupAccessWrite 3) State.reset).cfp.groupAccess = true
      ∧ (after (.groupAccessWrite 3) State.reset).cfp.run = .config)
    ∧ (StoreItem.wf (.number .tLoss) = true ∧ StoreItem.number .tLoss ≠ .number .tBf) := by decide

/-- A strobe has been made and its reply is awaited. -/
def inFlight : State := { feeder with cvp := { feeder.cvp with inFlight := true } }

/-- Where the next cycle's phasor instant stands. -/
def instant (made owed : Bool) (late : Nat) : State :=
  { inFlight with lkc := { inFlight.lkc with phasorMade := made, phasorOwed := owed, phasorLate := late } }

/-- StrobeTakesInOneSet: a set awaited and none; a phasor instant at grid point 0, one owed, one owed to the cycle in
progress and two with the one before it, one made; the cycle before cycle 0. -/
theorem witness_StrobeTakesInOneSet : (inFlight.cfp.run = .run ∧ inFlight.cvp.inFlight = true ∧ inFlight.lkc.preCycle = false)
    ∧ (feeder.cfp.run = .run ∧ feeder.cvp.inFlight = false) ∧ State.reset.cfp.run = .config
    ∧ ((2 : Fin 8) = 2 ∧ (3 : Fin 8) ≠ 2)
    ∧ ((instant false false 0).lkc.phasorMade = false ∧ (0 : Fin 8) = 0 ∧ (instant false true 0).lkc.phasorOwed = true
      ∧ (instant true false 1).lkc.phasorLate ≠ 0 ∧ (instant false false 2).lkc.phasorLate ≠ 0)
    ∧ ((instant true false 0).lkc.phasorLate = 0 ∧ (instant true false 0).lkc.phasorMade = true
      ∧ (instant false false 0).lkc.phasorOwed = false ∧ (1 : Fin 8) ≠ 0)
    ∧ ({ feeder.lkc with preCycle := true, timer := 0 }.timer ≤ gridPosition feeder.cfg 0 ∧ feeder.lkc.phasorLate = 0
      ∧ feeder.lkc.phasorMade = false ∧ feeder.lkc.preCycle = false) := by decide

/-- A set of zeros with its status word. -/
def zeros : Reply := .complete (Seven.ofFn fun _ => 0) 0x007F

/-- MeasurementStateAndItsEvents. -/
theorem witness_MeasurementStateAndItsEvents :
    goodSet .missing = none ∧ goodSet zeros = some (Seven.ofFn fun _ => 0)
    ∧ (feeder.cfp.run = .run ∧ feeder.cvp.meas ≠ .fail ∧ ({ feeder.cvp with bad := 1 } : Cvp).bad = 1)
    ∧ (({ feeder.cvp with meas := .fail, goodRun := 31 } : Cvp).meas = .fail ∧ (30 : Nat) < 31)
    ∧ ({ feeder.cvp with warm := 4 } : Cvp).meas = .warmup
    ∧ (63 ≤ ({ times := [5], since := 63 } : Crossings).since) := by decide

/-- MagnitudeAndPower: the sums of three phase pairs of (16384, 0) and (8000, 0). -/
theorem witness_MagnitudeAndPower :
    (393216000 : Int) = (phasors.va.re * phasors.ia.re + phasors.va.im * phasors.ia.im)
      + (phasors.vb.re * phasors.ib.re + phasors.vb.im * phasors.ib.im)
      + (phasors.vc.re * phasors.ic.re + phasors.vc.im * phasors.ic.im)
    ∧ (0 : Int) = (phasors.va.im * phasors.ia.re - phasors.va.re * phasors.ia.im)
      + (phasors.vb.im * phasors.ib.re - phasors.vb.re * phasors.ib.im)
      + (phasors.vc.im * phasors.ic.re - phasors.vc.re * phasors.ic.im) := by decide

/-- A closed breaker with currents above I>> and a count one short of the delay of I>. -/
def overloaded : State :=
  let s := measured (withBreaker feeder .closed) { ia 50000 0 0 with label := some 0, meas := .valid }
  { s with pru := { s.pru with elements := { s.pru.elements with overI := { state := .pickup, count := 99, phases := .empty } } } }

/-- The same with I> set to ALARM. -/
def alarmed : State := { overloaded with cfg := overloaded.cfg.setAction false .overI (some .alarm) }

/-- ElementOperateEntersOperate: I> and I>> with TRIP, I> with ALARM; delay 3, with a test that holds, one that rides and one
that drops, in each element state. -/
theorem witness_ElementOperateEntersOperate : (∀ e ∈ [Element.overI, .highI],
      overloaded.cfp.run = .run
      ∧ ((overloaded.pru.elements.get e).advance (overloaded.elementTest overloaded.msu.newest e)
          (elementDelay overloaded.cfg overloaded.pru e)).state = .operate
      ∧ (overloaded.pru.elements.get e).state ≠ .operate ∧ elementAction overloaded.cfg overloaded.pru e = some .trip
      ∧ overloaded.bcu.state = .closed ∧ overloaded.pru.operations.length ≤ 8)
    ∧ (overloaded.cfg.fault overloaded.pru.faultGroup).highILockout = true
    ∧ (alarmed.cfp.run = .run
      ∧ ((alarmed.pru.elements.get .overI).advance (alarmed.elementTest alarmed.msu.newest .overI)
          (elementDelay alarmed.cfg alarmed.pru .overI)).state = .operate
      ∧ (alarmed.pru.elements.get .overI).state ≠ .operate
      ∧ elementAction alarmed.cfg alarmed.pru .overI = some .alarm ∧ alarmed.pruStands = false)
    ∧ (ElementRec.quiet.state = .quiet ∧ rec3.state = .pickup ∧ rec3.count < 3 ∧ (1 : Nat) ≤ 3
      ∧ ({ rec3 with state := .operate } : ElementRec).state = .operate
      ∧ (overcurrentTest (ia 20500 0 0) 19661).holds = true ∧ (overcurrentTest (ia 19000 0 0) 19661).holds = false
      ∧ (overcurrentTest (ia 19000 0 0) 19661).drops = false ∧ (overcurrentTest (ia 18500 0 0) 19661).drops = true) := by decide

/-- A generator with a closed breaker, every element in ALARM, and a rate of change. -/
def watching : State :=
  let s := measured (withBreaker generator .closed) { liveSet 0 with p := -3000 }
  { s with cfg := allElements.foldl (fun c e => c.setAction false e (some .alarm)) s.cfg, msu := { s.msu with rocof := some (-5) } }

/-- ElementOperateEntersOperate, PRU at a phasor instant: a test of each element, and none; elements that enter with TRIP, I>>
with lockout among them, on a closed breaker; none that enters while one with TRIP stands in OPERATE, and while none does. -/
theorem witness_ElementOperateEntersOperate_phasor :
    (∀ e ∈ allElements, (watching.elementTest watching.msu.newest e).isSome = true) ∧ watching.msu.rocof = some (-5)
    ∧ feeder.elementTest feeder.msu.newest .overI = none
    ∧ (∀ t : State, t = overloaded.pruEvaluate overloaded.msu.newest →
      ∀ e ∈ [Element.overI, .highI], (t.pru.elements.get e).state = .operate ∧ (overloaded.pru.elements.get e).state ≠ .operate
        ∧ elementAction overloaded.cfg overloaded.pru e = some .trip)
    ∧ (overloaded.bcu.state = .closed ∧ (overloaded.cfg.fault overloaded.pru.faultGroup).highILockout = true)
    ∧ (∀ s t : State, s = { overloaded with pru := (overloaded.pruEvaluate overloaded.msu.newest).pru } →
      t = s.pruEvaluate s.msu.newest →
      (∀ e ∈ allElements, ¬((t.pru.elements.get e).state = .operate ∧ (s.pru.elements.get e).state ≠ .operate))
        ∧ (t.pru.elements.get .highI).state = .operate ∧ t.pru.tripActive = true)
    ∧ (∀ t : State, t = feeder.pruEvaluate feeder.msu.newest → ∀ e ∈ allElements, (t.pru.elements.get e).state ≠ .operate) := by
  refine ⟨by decide, by decide, by decide, ?_, by decide, ?_, ?_⟩
  · intro t h; subst h; decide
  · intro s t h k; subst h k; decide
  · intro t h; subst h; decide

/-- A zone of the own station alone with 8000 counts of current, in the second cycle close of an internal fault. -/
def faulted : State :=
  let s := expect (heard (island (withBreaker feeder .closed) .grid) { record 0 feederPart with iaRe := 8000 }) 0
  { s with dbu := { s.dbu with s1 := { s.dbu.s1 with confirm := 1 } } }

/-- A zone with a STALE member, at its third cycle close, with the BF timer one short of its setting. -/
def blocked : State :=
  let s := expect (expect (heard (island feeder .grid) (record 0 feederPart)) 0) 1
  { s.withEntry 1 fun e => { e with record := some (record 1 feederPart), accepted := 0xFFFFFFFE } with
    top := { s.top with expected1 := some 3 },
    lkc := { s.lkc with link := .publish },
    dbu := { s.dbu with s1 := { s.dbu.s1 with blocked := 2 }, timer := .running 23 } }

/-- DifferentialTripOpensAndLocksOut: a trip with the breaker CLOSED and OPEN; a blocked zone at its third cycle close in
PUBLISH and in DUPLICATE; the BF timer at its last tick, with and without TRIP asserted. -/
theorem witness_DifferentialTripOpensAndLocksOut :
    (∀ b ∈ [BreakerState.closed, .opened], (withBreaker faulted b).cfp.run = .run
      ∧ (withBreaker faulted b).cfg.belongs .one = true ∧ (withBreaker faulted b).atClose.sectionTrips .one = true
      ∧ (withBreaker faulted b).bcu.state = b ∧ ((withBreaker faulted b).dbu.diff .one).tripping = false)
    ∧ (blocked.cfp.run = .run ∧ blocked.cfg.belongs .one = true
      ∧ blocked.evaluateSection .one = .blocked .notFresh (some 1) ∧ blocked.lkc.link = .publish
      ∧ (blocked.dbu.diff .one).blocked = 2 ∧ blocked.dbu.timer = .running 23 ∧ blocked.cfg.tBf.toNat ≤ 23 + 1
      ∧ blocked.dbu.lockout = false)
    ∧ ({ blocked with bcu := { blocked.bcu with state := .opening, trip := true } } : State).bcu.trip = true := by decide

/-- The differential switched OFF in both instances. -/
def switchedOff (s : State) : State :=
  { s with cfg := { s.cfg with
      fault0 := { s.cfg.fault0 with diffAction := some .off }, fault1 := { s.cfg.fault1 with diffAction := some .off } } }

/-- The fault above with the own entry STALE. -/
def ownStale : State := faulted.withEntry 0 fun e => { e with accepted := 0xFFFFFFFE }

/-- DifferentialNeedsACompleteZone: the fault above trips section 1, whose one member is the own station; the own entry not
FRESH, with an expected set and without one; the own entry FRESH with the action OFF. -/
theorem witness_DifferentialNeedsACompleteZone : (faulted.sectionTrips .one = true ∧ faulted.top.expected1 = some 1
      ∧ (1 : StationSet).getLsbD faulted.cfg.own.val = true)
    ∧ (ownStale.status ownStale.cfg.own ≠ .fresh ∧ ownStale.top.expected .one = some 1
      ∧ ({ ownStale with top := { ownStale.top with expected1 := none } } : State).top.expected .one = none
      ∧ ∀ j : Station, ¬ j < 0)
    ∧ ((switchedOff faulted).status 0 = .fresh ∧ (switchedOff faulted).heldRec 0 = some { record 0 feederPart with iaRe := 8000 }
      ∧ ((switchedOff faulted).cfg.fault false).diffAction ≠ some .trip) := by decide

/-- R53: what an entry that is not FRESH last held decides nothing, the action OFF of its group neither. -/
theorem test_ownEntryStale : ownStale.evaluateSection .one = .blocked .notFresh (some 0)
    ∧ (switchedOff ownStale).evaluateSection .one = .blocked .notFresh (some 0)
    ∧ (switchedOff faulted).evaluateSection .one = .notEvaluated := by decide

/-- Lines 3 to 6 give EXT_TRIP, EXT_LOCKOUT, nothing and EXT_BLOCK_CLOSE; the new levels of 3 to 7 have been held for three
strobes. The contact pair is settled as given, and so is the breaker. -/
def settlingIn (b : BreakerState) (closed : Bool) : State :=
  let c := { Settings.default with
    inputs := ((Settings.default.inputs.set 3 { fn := some .extTrip, low := false }).set 4
      { fn := some .extLockout, low := false }).set 6 { fn := some .extBlockClose, low := false } }
  let s := contacts (withBreaker (stationIn c) b) closed
  let l : LineState := { high := true, read := some true, level := some false, hold := 3 }
  { s with bcu := { s.bcu with
      close := b == .closing, lines := (((s.bcu.lines.set 3 l).set 4 l).set 5 l).set 6 l } }

/-- A closed breaker with those lines. -/
def settling : State := settlingIn .closed true

/-- The contact of line i has the level given, held for three strobes, with the other contact as it will be: the pair is
judged by the event alone. -/
def movingPair (b : BreakerState) (closed : Bool) : State :=
  let s := line (withBreaker feeder b) 1 (!closed)
  let l : LineState := { high := closed, read := some closed, level := some (!closed), hold := 3 }
  { s with bcu := { s.bcu with close := b == .closing, lines := s.bcu.lines.set 0 l } }

/-- The news of a contact event. -/
def news (i : Fin 8) (high : Bool) (s : State) : ContactNews := newsOf s.cfg s.bcu.lines (after (.contactEvent i high) s).bcu.lines

/-- ContactEventSettlesTheLine: each of the four consequences alone, and none; the cases in which the pin alone stands. -/
theorem witness_ContactEventSettlesTheLine :
    (∀ i ∈ [(3 : Fin 8), 4, 5, 6], settling.cfp.run = .run
      ∧ (settling.bcu.lines.get i).level ≠ some (true != (settling.cfg.inputs.get i).low)
      ∧ settling.cfg.debounce.toNat ≤ (settling.bcu.lines.get i).holdAfter (true != (settling.cfg.inputs.get i).low))
    ∧ ((news 4 true settling).extLockout = true ∧ (news 3 true settling).extTrip = true
      ∧ (news 3 true settling).pair = false ∧ settling.bcu.state = .closed)
    ∧ (∀ closed : Bool, news 6 true (settlingIn .closing closed)
          = { pair := false, extTrip := false, extBlock := true, extLockout := false }
      ∧ (settlingIn .closing closed).bcu.state = .closing ∧ (settlingIn .closing closed).bcu.close = true
      ∧ (after (.contactEvent 6 true) (settlingIn .closing closed)).pair = if closed then .closed else .opened)
    ∧ ((after (.contactEvent 6 true) (line (settlingIn .closing true) 1 true)).pair = .undecided)
    ∧ (news 0 false (movingPair .closed false) = { pair := true, extTrip := false, extBlock := false, extLockout := false }
      ∧ (after (.contactEvent 0 false) (movingPair .closed false)).pair = .opened)
    ∧ (news 0 true (movingPair .closing true) = { pair := true, extTrip := false, extBlock := false, extLockout := false }
      ∧ (movingPair .closing true).bcu.close = true ∧ (after (.contactEvent 0 true) (movingPair .closing true)).pair = .closed)
    ∧ news 5 true settling = { pair := false, extTrip := false, extBlock := false, extLockout := false }
    ∧ (State.reset.cfp.run = .config ∧ (settling.bcu.lines.get 0).level = some (true != (settling.cfg.inputs.get 0).low)
      ∧ (settling.bcu.lines.get 7).holdAfter (true != (settling.cfg.inputs.get 7).low) < settling.cfg.debounce.toNat) := by
  decide

/-- A re-confirmation at its last quiet strobe, from a breaker state and with a contact pair. -/
def reconfirming (b : BreakerState) (closed : Bool) : State :=
  let s := contacts (withBreaker feeder b) closed
  { s with bcu := { s.bcu with reconfirm := some 3 } }

/-- ReconfirmationJudgesThePair: each clause, a trip hold of 2 and less, an undecided and an unjudged pair. -/
theorem witness_ReconfirmationJudgesThePair :
    (∀ p ∈ [(BreakerState.closing, true), (.opened, true), (.closed, false), (.unknown, true), (.discrepant, false),
        (.opening, false), (.failedOpen, true)],
      (reconfirming p.1 p.2).cfp.run = .run ∧ (reconfirming p.1 p.2).bcu.reconfirm = some 3
      ∧ (reconfirming p.1 p.2).cfg.debounce.toNat ≤ 3 + 1
      ∧ (reconfirming p.1 p.2).pair = (if p.2 then .closed else .opened) ∧ (reconfirming p.1 p.2).bcu.state = p.1)
    ∧ 2 ≤ ({ (reconfirming .opening false).bcu with hold := 2 } : Bcu).hold
    ∧ (∀ b ∈ [BreakerState.unknown, .opened, .closed], (line (reconfirming b true) 1 true).pair = .undecided
      ∧ (line (reconfirming b true) 1 true).bcu.state = b ∧ (line (reconfirming b true) 1 true).bcu.reconfirm = some 3)
    ∧ ({ feeder with bcu := { feeder.bcu with reconfirm := some 3 } } : State).pair = .unjudged := by decide

/-- The counts of BCU one short of their settings. -/
def expiring (b : BreakerState) (closed : Bool) : State :=
  let s := contacts (withBreaker feeder b) closed
  { s with bcu := { s.bcu with supervision := 29, hold := 1, discrepancy := some 39, trip := b == .opening, close := b == .closing } }

/-- BreakerCountsExpire. -/
theorem witness_BreakerCountsExpire :
    (∀ c : Bool, (expiring .closing c).cfp.run = .run ∧ (expiring .closing c).bcu.state = .closing
      ∧ (expiring .closing c).cfg.tCloseMax.toNat ≤ (expiring .closing c).bcu.supervision + 1
      ∧ (expiring .closing c).pair = (if c then .closed else .opened))
    ∧ ((expiring .opening false).bcu.state = .opening ∧ (expiring .opening false).pair = .opened
      ∧ 1 ≤ (expiring .opening false).bcu.hold)
    ∧ ((line (line (withBreaker feeder .closing) 0 true) 1 true).pair = .undecided)
    ∧ ((expiring .closed true).bcu.discrepancy = some 39 ∧ (expiring .closed true).cfg.tDisc.toNat ≤ 39 + 1
      ∧ (expiring .closed true).bcu.state = .closed) := by decide

/-- An open breaker with one input function active. -/
def openWith (f : InFn) : State :=
  let c := { Settings.default with inputs := Settings.default.inputs.set 3 { fn := some f, low := false } }
  line (withBreaker (stationIn c) .opened) 3 true

/-- A utility that is not HEALTHY, or an own lockout in the view. -/
def dropping (healthy lockedView : Bool) : State :=
  { withBreaker incomer .closing with
    tru := { incomer.tru with healthy := healthy }, top := { incomer.top with locked1 := lockedView, locked2 := lockedView } }

/-- BreakerCountsExpire, BCU at a cycle close: the supervision counted, at its end and not counted; the discrepancy idle, counted,
at its end and in a state that does not count; the hold counted, not counted, and released; the drop with and without a trip
request of DBU, and without its conditions; CLOSE in CLOSING with each pair; EXT_TRIP active and not; each breaker state. -/
theorem witness_BreakerCountsExpire_cycleClose :
    ((expiring .closing false).bcu.acceptedNow = false ∧ { (expiring .closing false).bcu with acceptedNow := true }.acceptedNow = true
      ∧ (withBreaker feeder .closing).bcu.supervision + 1 < feeder.cfg.tCloseMax.toNat)
    ∧ (feeder.bcu.discrepancy = none ∧ (expiring .discrepant true).bcu.discrepancy = some 39
      ∧ ¬((expiring .discrepant true).bcu.state = .opened ∨ (expiring .discrepant true).bcu.state = .closed
        ∨ (expiring .discrepant true).bcu.state = .unknown)
      ∧ 38 + 1 < feeder.cfg.tDisc.toNat)
    ∧ ((expiring .opening false).bcu.trip = true ∧ min 2 ((expiring .opening false).bcu.hold + 1) = 2 ∧ feeder.bcu.trip = false
      ∧ (expiring .opening true).pair ≠ .opened)
    ∧ (dropping true true).top.ownLocked (dropping true true).cfg = true ∧ (dropping false false).tru.healthy = false
    ∧ (dropping true false).top.ownLocked (dropping true false).cfg = false ∧ (dropping true false).tru.healthy = true
    ∧ ((faulted.cfg.belongs .one = true ∧ faulted.sectionTrips .one = true) ∧ (dropping true true).dbuWillTrip = false)
    ∧ (∀ c : Bool, (expiring .closing c).bcu.close = true ∧ (expiring .closing c).bcu.state = .closing)
    ∧ (line (line (withBreaker feeder .closing) 0 true) 1 true).pair ≠ .opened
    ∧ (line (line (withBreaker feeder .closing) 0 true) 1 true).pair ≠ .closed
    ∧ ((openWith .extTrip).fnActive .extTrip = true ∧ feeder.fnActive .extTrip = false)
    ∧ (∀ b ∈ [BreakerState.opened, .opening, .failedOpen, .unknown, .closed, .discrepant, .closing],
      (withBreaker feeder b).bcu.state = b) := by decide

/-- CloseRequestIsJudgedInOrder: the interlock, each of the five refusals, and an acceptance. -/
theorem witness_CloseRequestIsJudgedInOrder :
    (CloseUnit.clu ≠ .syu ∧ (measured feeder (liveSet 0)).currentSet.busClass = .live
      ∧ (measured feeder (liveSet 0)).currentSet.clsL = .live)
    ∧ ¬(feeder.currentSet.busClass = .live)
    ∧ (feeder.closeRequest .clu).2 = some .notOpen
    ∧ ((withBreaker locked .opened).closeRequest .clu).2 = some .lockout
    ∧ ((openWith .extTrip).closeRequest .clu).2 = some .tripStanding
    ∧ ((openWith .extBlockClose).closeRequest .clu).2 = some .blocked
    ∧ ((withBreaker incomer .opened).closeRequest .syu).2 = some .unhealthy
    ∧ ((withBreaker feeder .opened).closeRequest .clu).2 = none := by decide

/-- An operator claim at its third counted cycle close. -/
def claiming : State :=
  { feeder with clu := { feeder.clu with
      claim := some { restore := false, target := .one, rank := 3, origin := .operator, deadDead := false }, age := 3 } }

/-- A feeder that holds its own restore claim, won, 200 cycles after the last close, with the feeder side as given. -/
def restoring (side : VClass) : State :=
  let s := withBreaker { feeder with lkc := { feeder.lkc with count := 200, number := 200 } } .opened
  let r := { record 0 feederPart with cycle := 200, claim := .restore, summary := .opened }
  let m := measured (heard (island { s with pim := s.pim.set 0 { Entry.reset with expected := true } } .grid) r)
    { liveSet 0 with label := some 200, clsL := side }
  { m with fcu := { m.fcu with state := .restoring, reason := .underfreq1 } }

/-- The same with the last feeder close of section 1 observed at count 199. -/
def restoringEarly : State := { restoring .dead with clu := { (restoring .dead).clu with lastClose1 := 199 } }

/-- The claim of an operator in a generator alone in its set: published and won, its side and its breaker ready for the close. -/
def requesting : State :=
  let s := expect (measured (withBreaker generator .opened) { liveSet 0 with busClass := .dead }) 0
  let c : Claim := { restore := false, target := .one, rank := 3, origin := .operator, deadDead := false }
  let r := { record 0 (.generator 0 6144 .idle .off) with claim := .deadBus, claimRank := 3, summary := .opened }
  let m := heard s r
  { m with clu := { m.clu with claim := some c, published := some c, won1 := true, age := 3 } }

/-- ClaimTimersExpire: the operator's claim that is not published, published and not won, locked out, and ready for its request;
the restore delay running, and run out with the feeder side DEAD and LIVE. -/
theorem witness_ClaimTimersExpire :
    (claiming.cfp.run = .run ∧ claiming.clu.inFlight = none ∧ 3 ≤ claiming.clu.age ∧ claiming.clu.pendingClose = false
      ∧ claiming.clu.claim = some { restore := false, target := .one, rank := 3, origin := .operator, deadDead := false }
      ∧ claiming.clu.published = none ∧ claiming.atClose.restoreWon = false
      ∧ claiming.atClose.top.locked .one = false ∧ claiming.dbu.lockout = false
      ∧ targetSide claiming.cfg claiming.currentSet .one ≠ .live
      ∧ ({ claiming with dbu := { claiming.dbu with lockout := true } } : State).dbu.lockout = true)
    ∧ (requesting.cfp.run = .run ∧ requesting.clu.inFlight = none ∧ 3 ≤ requesting.clu.age ∧ requesting.clu.pendingClose = false
      ∧ requesting.clu.published = requesting.clu.claim ∧ requesting.clu.spent = false ∧ requesting.clu.won1 = true
      ∧ requesting.atClose.deadBusWinner .one = some requesting.cfg.own ∧ requesting.atClose.deadBusReady .one false = true)
    ∧ (claiming.atClose.cluActs.clu.claim = claiming.clu.claim ∧ claiming.atClose.cluActs.clu.raisedNow = false
      ∧ claiming.atClose.cluActs.clu.inFlight = none ∧ 3 ≤ claiming.atClose.cluActs.clu.age
      ∧ requesting.atClose.cluActs.clu.inFlight ≠ none)
    ∧ (restoringEarly.cfp.run = .run ∧ restoringEarly.atClose.cluTrack.restoreDelayOut restoringEarly.cfg.ownSec = false)
    ∧ (∀ x ∈ [VClass.dead, .live], (restoring x).cfp.run = .run ∧ (restoring x).cfg.role = some .feeder
      ∧ (restoring x).atClose.cluTrack.restoreDelayOut (restoring x).cfg.ownSec = true ∧ (restoring x).atClose.cluTrack.restoreWon = true
      ∧ (restoring x).clu.spent = false ∧ (restoring x).clu.inFlight = none
      ∧ (restoring x).atClose.cluTrack.top.locked (restoring x).cfg.ownSec = false
      ∧ (restoring x).atClose.cluTrack.top.ownLocked (restoring x).cfg = false ∧ (restoring x).dbu.lockout = false
      ∧ (restoring x).currentSet.meas = .valid ∧ (restoring x).currentSet.busClass = .live
      ∧ (restoring x).currentSet.clsL = x ∧ (restoring x).bcu.state = .opened ∧ (restoring x).pruStands = false
      ∧ (restoring x).fnActive .extTrip = false ∧ (restoring x).atClose.cluTrack.bcu.trippedNow = false
      ∧ (restoring x).fnActive .extBlockClose = false ∧ (restoring x).fcu.state ≠ .manualOpen) := by decide +kernel

/-- A station with two valid frequencies and a given line angle, checking one short of its supervision. -/
def checkingAt (lag : Count) : State :=
  let s := measured generator (liveSet lag)
  { s with syu := { s.syu with state := .checking, owner := some .gcu, supervision := 11999 }, gcu := { s.gcu with unit := .sync } }

/-- The check fails: the predicted angle is −102 (chapter 8). -/
def checking : State := checkingAt 296

/-- SlipAngleAndAdvance: a frequency without a value, and both with theirs. -/
theorem witness_SlipAngleAndAdvance :
    (feeder.currentSet.fBus = 0) ∧ (checking.currentSet.fBus ≠ 0 ∧ checking.currentSet.fLine ≠ 0
      ∧ checking.currentSet.tBus = some 0 ∧ checking.currentSet.tLine = some 296) := by decide

/-- An attempt of GCU in CHECKING with this check record and count, and both sides as given. -/
def attempt (x : CheckRecord) (n : Nat) (side : VClass) (b : BreakerState) : State :=
  let s := measured (withBreaker generator b) { liveSet 0 with clsL := side }
  { s with syu := { s.syu with state := .checking, owner := some .gcu, supervision := n, check := x } }

/-- SyncCheckAndItsSupervision: an incomer's permit and another role; a name of the check's order; the expiry of an attempt
of GCU and of TRU, and a check that passes; a start under lockout, with the breaker not OPEN, idle, standing and busy; at a cycle close no attempt,
a lockout, a dead side, a pass accepted, refused and after a failed close, and a count before and at its end. -/
theorem witness_SyncCheckAndItsSupervision :
    (checking.cfp.run = .run ∧ checking.syu.state = .checking
      ∧ checking.dbu.lockout = false ∧ checking.atClose.top.ownLocked checking.cfg = false
      ∧ checking.currentSet.busClass ≠ .dead ∧ checking.currentSet.clsL ≠ .dead ∧ checking.formCheck.passes = false
      ∧ (checkingAt 292).formCheck.passes = true ∧ (checkingAt 292).cfp.run = .run ∧ (checkingAt 292).syu.state = .checking
      ∧ checking.cfg.tSyncMax.toNat ≤ checking.syu.supervision + 1 ∧ checking.syu.owner = some .gcu ∧ checking.gcu.unit = .sync)
    ∧ ({ checking with syu := { checking.syu with owner := some .tru } } : State).syu.owner = some .tru
    ∧ [SyncCondition.meas, .sides, .permit, .slip, .direction, .voltage, .angle][6]? = some .angle
    ∧ (SyncOwner.gcu ≠ .tru ∧ locked.dbu.lockout = true ∧ feeder.dbu.lockout = false ∧ feeder.top.ownLocked feeder.cfg = false
      ∧ feeder.bcu.state ≠ .opened ∧ (withBreaker feeder .opened).syu.state = .idle
      ∧ (attempt .empty 0 .live .opened).bcu.state = .opened ∧ (attempt .empty 0 .live .opened).syu.owner = some .gcu
      ∧ (attempt .empty 0 .live .opened).syu.owner ≠ some .operator ∧ (attempt .empty 0 .live .opened).syu.owner ≠ some .tru
      ∧ ({ (attempt .empty 0 .live .opened).syu with owner := some .tru } : Syu).owner = some .tru
      ∧ ((feeder.truNote .busy).tru = { feeder.tru with lastAnswer := some (.busy, feeder.lkc.count) }))
    ∧ (feeder.syu.state ≠ .checking ∧ (attempt .empty 0 .live .opened).syu.startedNow = false
      ∧ (attempt .empty 0 .live .opened).dbu.lockout = false
      ∧ (attempt .empty 0 .live .opened).top.ownLocked (attempt .empty 0 .live .opened).cfg = false
      ∧ ({ attempt .empty 0 .live .opened with dbu := locked.dbu } : State).dbu.lockout = true
      ∧ (attempt .empty 0 .dead .opened).currentSet.clsL = .dead
      ∧ (attempt .empty 0 .live .opened).currentSet.busClass ≠ .dead ∧ (attempt .empty 0 .live .opened).currentSet.clsL ≠ .dead)
    ∧ (∀ x : CheckRecord, x = { CheckRecord.empty with results := List.replicate 7 true } →
      (attempt x 0 .live .opened).syu.check.passes = true ∧ (attempt x 0 .live .opened).bcu.endedNow = false
      ∧ (attempt x 0 .live .opened).judgeClose = none ∧ (attempt x 0 .live .unknown).judgeClose = some .notOpen
      ∧ ({ (attempt x 0 .live .opened).bcu with endedNow := true } : Bcu).endedNow = true)
    ∧ (∀ x : CheckRecord, x = { CheckRecord.empty with results := List.replicate 7 false } →
      (attempt x 0 .live .opened).syu.check.passes = false
      ∧ (attempt x 0 .live .opened).syu.supervision + 1 < (attempt x 0 .live .opened).cfg.tSyncMax.toNat
      ∧ (attempt x 11999 .live .opened).cfg.tSyncMax.toNat ≤ (attempt x 11999 .live .opened).syu.supervision + 1) := by
  refine ⟨by decide, by decide, by decide, by decide, by decide, ?_, ?_⟩ <;> intro x h <;> subst h <;> decide

/-- A generator in AUTO whose island has an incomer that asks for start, or none, with its counts one short. -/
def unitAt (u : UnitState) (b : BreakerState) (wanted ready : Bool) : State :=
  let s := line (unitIn (inAuto (withBreaker generator b) .manual) u) 2 ready
  let m := measured (island (heard s { record 3 incomerPart with startDemand := wanted }) .grid) { liveSet 0 with p := 3000 }
  { m with gcu := { m.gcu with startCount := 1999, retryCount := 999, unloadCount := 5999, coolCount := 11999 } }

/-- GeneratorCountsExpire. -/
theorem witness_GeneratorCountsExpire :
    (∀ s ∈ [unitAt .starting .opened true false, unitAt .syncWait .opened true true, unitAt .unload .closed false true,
        unitAt .cooldown .opened false true],
      s.cfp.run = .run ∧ s.cfg.role = some .generator ∧ s.atClose.stopNow = false
      ∧ s.cfg.tStart.toNat ≤ s.gcu.startCount + 1 ∧ s.cfg.tRetry.toNat ≤ s.gcu.retryCount + 1
      ∧ s.cfg.tUnload.toNat ≤ s.gcu.unloadCount + 1 ∧ s.cfg.tCool.toNat ≤ s.gcu.coolCount + 1)
    ∧ ((unitAt .starting .opened true false).atClose.demandNow = true ∧ (unitAt .starting .opened true false).engineReady = false
      ∧ (unitAt .starting .opened true false).gcu.unit = .starting ∧ (unitAt .starting .opened true false).bcu.state = .opened)
    ∧ ((unitAt .syncWait .opened true true).atClose.demandNow = true ∧ (unitAt .syncWait .opened true true).engineReady = true
      ∧ (unitAt .syncWait .opened true true).syu.state = .idle ∧ (unitAt .syncWait .opened true true).dbu.lockout = false
      ∧ (unitAt .syncWait .opened true true).atClose.top.ownLocked (unitAt .syncWait .opened true true).cfg = false)
    ∧ ((unitAt .unload .closed false true).atClose.demandNow = false ∧ (unitAt .unload .closed false true).atClose.top.own = .grid
      ∧ (unitAt .unload .closed false true).bcu.state = .closed
      ∧ ((unitAt .unload .closed false true).cfg.lOff.toNat : Int) < (unitAt .unload .closed false true).ownL)
    ∧ (unitAt .cooldown .opened false true).atClose.demandNow = false := by decide

/-- A generator with a closed generator and an incomer in RESYNC in its island. -/
def sharingWith (m : MeasState) : State :=
  heard (heard (island (unitIn generator .online) .genset) { record 2 (.generator 100 6144 .online .isoch) with meas := m })
    { record 3 incomerPart with transfer := .resync }

/-- The same whose other generator is LOST, CLOSED when last seen. -/
def sharingLost : State :=
  let s := (sharingWith .valid).withEntry 2 fun e => { e with accepted := 0xFFFFFF00 }
  { s with gcu := { s.gcu with lastSeen := s.gcu.lastSeen.set 2 (some .closed) } }

/-- BiasModeAndCodes: units in each group of modes; a rated power; an island with a generator and an incomer in RESYNC, and
without; a generator lost, one not VALID, and an UNKNOWN map; a mode that becomes DROOP, one that stays, and one that does not. -/
theorem witness_BiasModeAndCodes : (BiasMode.sync ≠ .off ∧ (unitAt .cooldown .opened false true).gcuBias.gcu.mode = .off
      ∧ (unitIn generator .online).gcuBias.gcu.mode = .droop ∧ generator.gcu.mode ≠ .droop
      ∧ ({ generator.gcu with mode := .droop } : Gcu).mode = .droop)
    ∧ (generator.cfg.pRated.toNat ≠ 0 ∧ (6144 : Word).toNat ≠ 0)
    ∧ ((sharingWith .valid).usableRec 2 = some (record 2 (.generator 100 6144 .online .isoch))
      ∧ (sharingWith .valid).sharing = [record 2 (.generator 100 6144 .online .isoch)]
      ∧ (sharingWith .valid).usableRec 3 = some { record 3 incomerPart with transfer := .resync }
      ∧ (sharingWith .valid).top.map = .apart ∧ (sharingWith .valid).cfg.ownSec = .one)
    ∧ (generator.sharing = [] ∧ ∀ k : Station, generator.usableRec k = none)
    ∧ (generator.droopNow = .mapUnknown ∧ sharingLost.droopNow = .peerLost 2 ∧ (sharingWith .fail).droopNow = .peerNotValid 2
      ∧ (sharingWith .valid).droopNow = .none ∧ (sharingWith .valid).gcuBias.gcu.mode ≠ .droop) := by decide +kernel

/-- R147, R160: f_ref of an incomer in RESYNC and without one; L_avg of the one other generator and of none. -/
theorem test_references : (sharingWith .valid).gcuView.gcu.fRef = 5000 ∧ (sharingWith .valid).gcuView.gcu.lAvg = 100
    ∧ generator.gcuView.gcu.fRef = 5000 ∧ (heard (island generator .genset) { record 3 (.incomer true 5003 0xFB) with
      transfer := .resync }).gcuView.gcu.fRef = 4998 := by decide +kernel

/-- A feeder closed in an island, with its counts one short. -/
def loaded (x : IslandState) (p : Nat) : State :=
  let c := { Settings.default with priority := BitVec.ofNat 16 p }
  let r := { record 0 (.feeder 0 (BitVec.ofNat 8 p) .normal) with p := -100 }
  let s := lit (heard (island (withBreaker (stationIn c) .closed) x) r) x
  let m := measured s { liveSet 0 with fBus := 4700 }
  { m with fcu := { m.fcu with overCount := 1, stage1 := 39, stage2 := 9, dead := 1 } }

/-- A feeder with these shed counts. -/
def counted (s : State) (high one two dead : Nat) : State :=
  { s with fcu := { s.fcu with overCount := high, stage1 := one, stage2 := two, dead := dead } }

/-- A stage reaches its delay at the next cycle close. -/
def stageReaches (s : State) (st : Stage) (n : Nat) : Bool :=
  decide ((s.cfg.stage st).threshold.toNat ≤ s.cfg.priority.toNat) && s.currentSet.meas == .valid && s.currentSet.fBus != 0
    && decide (s.currentSet.fBus < (s.cfg.stage st).pickup.toNat) && decide ((s.cfg.stage st).delay.toNat ≤ n + 1)

/-- FeederSheds: each of the four reasons as the first that reaches, the stages at a priority at their thresholds, the dead bus at
its own; with CAPACITY first both stages reach too. -/
theorem witness_FeederSheds :
    (∀ s ∈ [loaded .genset 10, counted (loaded .genset 10) 0 39 9 1, counted (loaded .genset 10) 0 38 9 1,
        counted (loaded .dead 16) 1 0 0 1],
      s.cfp.run = .run ∧ s.cfg.role = some .feeder ∧ s.fcu.state = .normal ∧ s.bcu.state = .closed)
    ∧ ((loaded .genset 10).fcu.guard = 0 ∧ 1 ≤ (loaded .genset 10).fcu.overCount ∧ (loaded .genset 10).atClose.top.own = .genset
      ∧ (loaded .genset 10).atClose.feederView = some { capacity := 100, limit := 89, cumulative := 100, position := 1 }
      ∧ stageReaches (loaded .genset 10) .one 39 = true ∧ stageReaches (loaded .genset 10) .two 9 = true)
    ∧ (stageReaches (counted (loaded .genset 10) 0 39 9 1) .one 39 = true
      ∧ stageReaches (counted (loaded .genset 10) 0 38 9 1) .one 38 = false
      ∧ stageReaches (counted (loaded .genset 10) 0 38 9 1) .two 9 = true)
    ∧ ((loaded .dead 16).cfg.pDead.toNat ≤ (loaded .dead 16).cfg.priority.toNat
      ∧ (counted (loaded .dead 16) 1 0 0 1).atClose.top.own = .dead
      ∧ stageReaches (counted (loaded .dead 16) 1 0 0 1) .one 0 = false
      ∧ stageReaches (counted (loaded .dead 16) 1 0 0 1) .two 0 = false) := by decide +kernel

/-- An incomer in AUTO in a state of its sequence, with its counts one short. -/
def transferring (x : TransferState) (b : BreakerState) (own : IslandState) (healthy : Bool) : State :=
  let s := measured (lit (island (withBreaker (inAuto incomer x) b) own) own)
    { liveSet 0 with busClass := .dead, fLine := if healthy then 5010 else 0 }
  { s with tru := { s.tru with
      judged := true, healthy := healthy, lossCount := 99, run := 199, returnCount := 59999, resyncCount := 23999,
      parallelCount := 1999 } }

/-- A transferring incomer beside a closed generator. -/
def inParallel : State :=
  heard (transferring .parallel .closed .grid true) (record 2 (.generator 0 6144 .online .isoch))

/-- TransferCountsExpire: the five states, both ends of RESYNC. -/
theorem witness_TransferCountsExpire :
    (∀ s ∈ [transferring .lossConfirm .closed .grid false, transferring .deadWait .opened .dead true,
        transferring .returnWait .opened .grid true, transferring .resync .opened .grid true],
      s.cfp.run = .run ∧ s.cfg.role = some .incomer ∧ s.tru.mode = .auto ∧ s.dbu.lockout = false ∧ s.currentSet.meas = .valid
      ∧ s.cfg.tLoss.toNat ≤ s.tru.lossCount + 1 ∧ s.cfg.tReturnShort.toNat ≤ min 65535 (s.tru.run + 1)
      ∧ s.cfg.tReturn.toNat ≤ s.tru.returnCount + 1 ∧ s.cfg.tResync.toNat ≤ s.tru.resyncCount + 1
      ∧ s.cfg.tParallelMax.toNat ≤ s.tru.parallelCount + 1 ∧ s.clu.claim = none ∧ s.tru.hold = false
      ∧ s.currentSet.busClass = .dead ∧ s.atClose.top.locked s.cfg.ownSec = false ∧ s.syu.state = .idle
      ∧ s.atClose.top.ownLocked s.cfg = false ∧ ¬(s.syu.state = .closing ∧ s.syu.owner = some .tru))
    ∧ (inParallel.atClose.alternateClosed = true ∧ inParallel.bcu.state = .closed ∧ inParallel.tru.state = .parallel
      ∧ healthOf inParallel.cfg inParallel.currentSet = true ∧ inParallel.cfg.tParallelMax.toNat ≤ inParallel.tru.parallelCount + 1)
    ∧ (healthOf incomer.cfg (transferring .lossConfirm .closed .grid false).currentSet = false
      ∧ healthOf incomer.cfg (transferring .deadWait .opened .dead true).currentSet = true
      ∧ (transferring .deadWait .opened .dead true).atClose.top.own = .dead
      ∧ (transferring .returnWait .opened .grid true).atClose.top.own ≠ .dead
      ∧ (transferring .resync .opened .grid true).atClose.top.own ≠ .dead)
    ∧ (incomer.cfg.openTransition = false ∧ { incomer.cfg with openTransition := true }.openTransition = true) := by decide

/-- SentRecordIsReadAsSent: a feeder of priority 16, a generator of rated power 0, and a feeder of priority 0. -/
theorem witness_SentRecordIsReadAsSent :
    (∀ h p x, (record 1 (.feeder 40000 16 .normal)).part = .feeder h p x → p ≠ 0)
    ∧ (∀ h p x, (record 1 (.generator 9000 0 .idle .off)).part = .feeder h p x → p ≠ 0)
    ∧ (record 1 (.feeder 0 0 .normal)).part = .feeder 0 0 .normal := by
  refine ⟨?_, ?_, rfl⟩
  · intro h p x e; cases e; decide
  · intro h p x e; cases e

/-- R196: numbers are read as they stand, a feeder priority of 0 alone fails check 1. -/
theorem test_numbersAsSent :
    receivedRecord (encodeRecord (record 1 (.feeder 40000 16 .normal))) = some (record 1 (.feeder 40000 16 .normal))
    ∧ receivedRecord (encodeRecord (record 1 (.feeder 0 0 .normal))) = none := by decide +kernel

/-- The link in PUBLISH, locked, after the own record has gone out. -/
def published : State :=
  { feeder with
    cfg := { feeder.cfg with peerMask := 0x000B }
    lkc := { feeder.lkc with link := .publish, sent := true, txFrame := encodeRecord (record 0 feederPart) } }

/-- The frame of a record in its slot. -/
def frameOf (s : State) (r : BayRecord) : Frame :=
  { start := slotStart s.cfg r.station + frameLead, bytes := encodeRecord r, tail := 0x7E }

/-- OwnSlotPublishesTheOwnRecord: a cycle that has sent nothing, one that has, the cycle before cycle 0 outside PUBLISH; a
claim of each type, and none. -/
theorem witness_OwnSlotPublishesTheOwnRecord :
    ({ feeder.lkc with link := .publish }.link = .publish ∧ feeder.lkc.sent = false ∧ feeder.lkc.ownSkipped = false)
    ∧ (published.cfp.run = .run ∧ published.lkc.preCycle = false ∧ published.lkc.sent = true)
    ∧ ((after .start State.reset).cfp.run = .run ∧ (after .start State.reset).lkc.preCycle = true
      ∧ (after .start State.reset).lkc.link ≠ .publish)
    ∧ (feeder.clu.claim = none ∧ feeder.cfg.role = some .feeder)
    ∧ claiming.clu.claim = some { restore := false, target := .one, rank := 3, origin := .operator, deadDead := false }
    ∧ (incomer.cfg.role = some .incomer ∧ tie.cfg.role = some .tie ∧ generator.cfg.role = some .generator
      ∧ generator.cfg.pRated.toNat ≠ 0 ∧ (inAuto incomer .resync).tru.state = .resync
      ∧ (inAuto incomer .normal).tru.state ≠ .resync ∧ (inAuto incomer .normal).tru.state ≠ .parallel) := by
  decide

/-- ReadBackIsComparedWithTheFrameSent: the frame as sent, one that differs with the own station, one of station 3, one with
a bad CRC, one without its end pattern and one that ends after its slot; no transmission. -/
theorem witness_ReadBackIsComparedWithTheFrameSent :
    (published.cfp.run = .run ∧ published.lkc.link = .publish ∧ published.lkc.sent = true
      ∧ published.lkc.slotsHeard.getLsbD published.cfg.own.val = false)
    ∧ (crcGood published.lkc.txFrame = true
      ∧ (frameOf published (record 0 feederPart)).start + 15744 ≤ slotEnd published.cfg published.cfg.own)
    ∧ (encodeRecord { record 0 feederPart with p := 1 } ≠ published.lkc.txFrame
      ∧ crcGood (encodeRecord { record 0 feederPart with p := 1 }) = true
      ∧ (byteAt (encodeRecord { record 0 feederPart with p := 1 }) 0).extractLsb' 4 4
        = BitVec.ofFin (w := 4) published.cfg.own)
    ∧ (crcGood (encodeRecord (record 3 incomerPart)) = true
      ∧ (byteAt (encodeRecord (record 3 incomerPart)) 0).extractLsb' 4 4 ≠ BitVec.ofFin (w := 4) published.cfg.own)
    ∧ (shortFrame.tail = 0x7E#8 ∧ crcGood shortFrame.bytes = false)
    ∧ slotEnd published.cfg published.cfg.own < { frameOf published (record 0 feederPart) with start := 40000 }.start + 15744
    ∧ State.reset.cfp.run = .config := by decide +kernel

/-- ValidRecordEntersTheImage: station 3's record in its slot; a frame of zeros; a record of station 1 in slot 3, of another
cycle, of a slot outside the mask; a slot that has yielded its frame. -/
theorem witness_ValidRecordEntersTheImage :
    (published.cfp.run = .run ∧ published.lkc.link ≠ .off ∧ published.lkc.unlocked = false
      ∧ slotOf published.cfg (frameOf published (record 3 incomerPart)).start = some 3 ∧ (3 : Station) ≠ published.cfg.own
      ∧ published.lkc.slotsHeard.getLsbD 3 = false
      ∧ (frameOf published (record 3 incomerPart)).start + 15744 ≤ slotEnd published.cfg 3
      ∧ receivedRecord (frameOf published (record 3 incomerPart)).bytes = some (record 3 incomerPart)
      ∧ published.cfg.peerMask.getLsbD 3 = true ∧ (record 3 incomerPart).cycle = published.lkc.number)
    ∧ receivedRecord (List.replicate 38 0) = none
    ∧ (receivedRecord (encodeRecord (record 1 incomerPart)) = some (record 1 incomerPart) ∧ (record 1 incomerPart).station ≠ 3)
    ∧ ({ record 3 incomerPart with cycle := 9 }.cycle ≠ published.lkc.number)
    ∧ (slotOf published.cfg (frameOf published (record 2 incomerPart)).start = some 2
      ∧ published.cfg.peerMask.getLsbD 2 = false
      ∧ receivedRecord (frameOf published (record 2 incomerPart)).bytes = some (record 2 incomerPart))
    ∧ (after (.recordArrival (frameOf published (record 3 incomerPart))) published).lkc.slotsHeard.getLsbD 3 = true := by
  decide +kernel

/-- EntryAgeAndStatus: no record, and ages 0, 7 and 8. -/
theorem witness_EntryAgeAndStatus : Entry.reset.record = none
    ∧ ({ Entry.reset with record := some (record 3 incomerPart) }.age 0 = 0)
    ∧ ({ Entry.reset with record := some (record 3 incomerPart) }.status 7 7 = .stale)
    ∧ ({ Entry.reset with record := some (record 3 incomerPart) }.status 8 8 = .lost) := by decide

/-- A link whose counts are one short, in a state. -/
def linked (x : LinkState) : State :=
  { feeder with lkc := { feeder.lkc with
      link := x, listenCount := 7, silentCount := 63, silence := 2, selfTimed := false } }

/-- LinkTimersMoveTheLink: each state, with and without a lower station in the mask. -/
theorem witness_LinkTimersMoveTheLink : (linked .listen).cfp.run = .run ∧ 7 ≤ (linked .listen).lkc.listenCount
    ∧ (linked .duplicate).lkc.ownHeard = false ∧ 63 ≤ (linked .duplicate).lkc.silentCount
    ∧ ((linked .publish).lkc.link ≠ .off ∧ (linked .publish).lkc.selfTimed = false ∧ (linked .publish).lkc.heardNow = 0
      ∧ 2 ≤ (linked .publish).lkc.silence ∧ (linked .publish).cfg.isLowest = true)
    ∧ { Settings.default with station := 3, peerMask := 0x000A }.isLowest = false := by decide

/-- CycleCloseEndsTheCycle: the moment at which cycle 0 begins, and a cycle close; a DUPLICATE that has heard its slot, and
the third close without a lower station in a station that is not the lowest; a tie, and a role with a section. -/
theorem witness_CycleCloseEndsTheCycle :
    ((after .start State.reset).cfp.run = .run ∧ (after .start State.reset).lkc.preCycle = true)
    ∧ (feeder.cfp.run = .run ∧ feeder.lkc.preCycle = false)
    ∧ (feeder.lkc.listenCount < 7 ∧ { (linked .duplicate).lkc with ownHeard := true }.ownHeard = true
      ∧ feeder.lkc.silentCount < 63)
    ∧ (∀ s : State, s = { linked .publish with cfg := { Settings.default with station := 3, peerMask := 0x000A } } →
      s.cfg.isLowest = false ∧ s.lkc.selfTimed = false ∧ (after (.cycleClose []) s).lkc.selfTimed = true)
    ∧ (tie.cfg.role = some .tie ∧ feeder.cfg.role ≠ some .tie ∧ feeder.cfg.sec = some .one) := by
  refine ⟨by decide, by decide, by decide, ?_, by decide⟩; intro s h; subst h; decide +kernel

/-- Running with one cycle close waiting. -/
def running : State := (after .start State.reset).withPending [.cycleClose []]

/-- The invariants' witness: the station that START has put in RUN meets each of them, and its step is a cycle close. -/
theorem witness_StepKeeps : running.CheckedOk ∧ running.LinkOk ∧ running.CountsOk ∧ running.AttemptOk
    ∧ running.CloseUnlocked ∧ running.BiasOk ∧ running.BanksOk ∧ running.SamplesOk := by
  refine ⟨?_, ?_, ?_, ?_, ?_, ?_, ?_, ?_⟩ <;>
    simp only [State.CheckedOk, State.LinkOk, State.CountsOk, State.AttemptOk, State.CloseUnlocked, State.OutputsOk,
      State.closeOnlyClosing, State.tripExactly, State.ownedExactly, State.BiasOk, biasCode, State.BanksOk, State.SamplesOk] <;>
    decide

theorem witness_step : step running = .next (after (.cycleClose []) (running.withPending [])) := rfl

theorem witness_StepKeepsCloseUnlocked : running.CloseUnlocked ∧ ∃ t, step running = .next t :=
  ⟨witness_StepKeeps.2.2.2.2.1, _, witness_step⟩

theorem witness_StepKeepsTheCaptureBanks : running.BanksOk ∧ running.SamplesOk ∧ ∃ t, step running = .next t :=
  ⟨witness_StepKeeps.2.2.2.2.2.2.1, witness_StepKeeps.2.2.2.2.2.2.2, _, witness_step⟩

theorem witness_StepKeepsTheBiasCodes : running.BiasOk ∧ ∃ t, step running = .next t :=
  ⟨witness_StepKeeps.2.2.2.2.2.1, _, witness_step⟩

theorem witness_StepKeepsRunControlAndCounts :
    (running.CheckedOk ∧ running.LinkOk ∧ running.CountsOk ∧ running.AttemptOk) ∧ ∃ t, step running = .next t :=
  ⟨⟨witness_StepKeeps.1, witness_StepKeeps.2.1, witness_StepKeeps.2.2.1, witness_StepKeeps.2.2.2.1⟩, _, witness_step⟩

/-- A board of two: the own feeder and a closed incomer, both expected and FRESH. -/
def board (s : State) : State :=
  heard (heard { s with pim := (s.pim.set 0 { Entry.reset with expected := true }).set 3 { Entry.reset with expected := true } }
    (record 0 feederPart)) (record 3 incomerPart)

/-- BoardTopologyFollowsTheImage: a known set, a tie as the identity, a map that is known with an island that has no grid, a
tie and other roles, a peer that is locked out. -/
theorem witness_BoardTopologyFollowsTheImage :
    (board feeder).expectedSet .one = some 0x0009 ∧ (board feeder).tieIdentity = .none
    ∧ (heard (board feeder) (record 5 (.tie none))).tieIdentity = .station 5
    ∧ (IslandMap.apart ≠ .unknown ∧ feeder.islandState .apart .one ≠ .grid)
    ∧ (feeder.cfg.role ≠ some .tie ∧ feeder.cfg.sec = some .one ∧ tie.cfg.role = some .tie
      ∧ { Settings.default with sect := 2 }.sec = some .two)
    ∧ ((3 : Station) ≠ feeder.cfg.own
      ∧ (heard feeder { record 3 incomerPart with lockout := true }).usableRec 3
        = some { record 3 incomerPart with lockout := true }) := by decide +kernel

/-- A fault of a zone whose count stands at 0. -/
def faultBegins : State := { faulted with dbu := Dbu.reset }

/-- DifferentialAtACycleClose: a complete zone, tripping and not; a blocked zone that reaches 3; a notice that concerns the
station, new, and none; the BF timer before and at its end, started before and at this cycle close. -/
theorem witness_DifferentialAtACycleClose :
    (∃ a b c, faulted.evaluateSection .one = .complete a b c) ∧ (faulted.sectionTrips .one = true ∧ faulted.bcu.state = .closed)
    ∧ (faultBegins.sectionTrips .one = false ∧ (faultBegins.dbu.diff .one).confirm = 0
      ∧ (faultBegins.evaluateSection .one).holds = true)
    ∧ (((blocked.diffClose .one).dbu.diff .one).blocked = 3 ∧ (blocked.dbu.diff .one).blocked ≠ 3)
    ∧ ((3 : Station) ≠ noticed.cfg.own ∧ noticed.usableRec 3 = some { record 3 incomerPart with bfNotice := true }
      ∧ noticed.cfg.sec = some .one ∧ (record 3 incomerPart).sect = some .one ∧ noticed.dbu.peerSeen = false
      ∧ (withBreaker noticed .closed).bcu.state = .closed)
    ∧ (noticed.noticeIn .one = true ∧ (noticed.dbu.diff .one).bfSeen = false ∧ feeder.noticeIn .one = false)
    ∧ (∀ k : Station, feeder.usableRec k = none)
    ∧ (blocked.dbu.timer = .running 23 ∧ feeder.dbu.timer = .idle ∧ blocked.cfg.tBf.toNat ≤ 23 + 1 ∧ 22 + 1 < blocked.cfg.tBf.toNat
      ∧ ({ blocked with dbu := { blocked.dbu with timer := .running 22 } } : State).dbu.timer = .running 22) := by
  refine ⟨?_, by decide +kernel⟩
  have h : (match faulted.evaluateSection .one with | .complete _ _ _ => true | _ => false) = true := by decide +kernel
  revert h; cases faulted.evaluateSection .one with
  | complete a b c => intro _; exact ⟨a, b, c, rfl⟩
  | _ => intro h; cases h

/-- MeasurementOfAWindow: a current of either polarity; a crossing and none; a list that is empty, one whose newest entry is
within the interval and one outside; five entries and a class that is not LIVE; nine in the history, one of them 0. -/
theorem witness_MeasurementOfAWindow :
    ({ Settings.default with polarity := 0xFFFF#16 }.polarity = 0xFFFF#16 ∧ Settings.default.polarity ≠ 0xFFFF#16)
    ∧ ((-1200 : Int) < 0 ∧ (0 : Int) ≤ 2000 ∧ ¬((0 : Int) < 0 ∧ (0 : Int) ≤ 2000 ∧ VClass.live = .live))
    ∧ (5120 ≤ ((5120 : Count) - 0).toNat ∧ ((5120 : Count) - 0).toNat ≤ 12288 ∧ 5120 ≤ ((12288 : Count) - 0).toNat
      ∧ ((12288 : Count) - 0).toNat ≤ 12288)
    ∧ ([(0 : Count)].getLast? = some 0 ∧ ¬(5120 ≤ ((12289 : Count) - 0).toNat ∧ ((12289 : Count) - 0).toNat ≤ 12288))
    ∧ (VClass.dead ≠ .live ∧ Crossings.times { times := [0, 8192, 16384, 24576, 32768], since := 0 } = [0, 8192, 16384, 24576, 32768])
    ∧ ([5000, 4999, 4997, 4995, 4993, 4992, 4990, 4989, 4987].length = 9
      ∧ 0 ∉ [5000, 4999, 4997, 4995, 4993, 4992, 4990, 4989, 4987]
      ∧ [5000, 4999, 4997, 4995, 4993, 4992, 4990, 4989, 4987].head? = some 5000
      ∧ [5000, 4999, 4997, 4995, 4993, 4992, 4990, 4989, 4987].getLast? = some 4987)
    ∧ (0 ∈ [5000, 0, 4997, 4995, 4993, 4992, 4990, 4989, 4987]) := by decide

/-- A range that places the two words of a sum at 0FFE and 0FFF. -/
def lastTwo (a : Word) : Option StatusItem :=
  if a = 0x0FFE#16 then some (.iop .one 0 true) else if a = 0x0FFF#16 then some (.iop .one 0 false) else none

/-- WhatTheOutsideReads: both run states, a line with a source, the ends of the status addresses and of the store's, both halves
of a quantity at the end of the status range, a section not evaluated and one with its sums; a READ, a WRITE and a READ with a count of 1; a block's first word and the word after it. -/
theorem witness_WhatTheOutsideReads : State.reset.cfp.run = .config ∧ feeder.cfp.run = .run
    ∧ (feeder.cfg.outputs.get 0).src = some .trip
    ∧ (0x800 ≤ (0x0800 : Word).toNat ∧ (0x0FFF : Word).toNat < 0x1000 ∧ 0x100 ≤ (0x0100 : Word).toNat
      ∧ (0x04FF : Word).toNat < 0x500)
    ∧ (placedAt lastTwo StatusItem.twin 0x0800 0x0FFF 0x0FFE = some (.iop .one 0 true)
      ∧ placedAt lastTwo StatusItem.twin 0x0800 0x0FFF 0x0FFF = some (.iop .one 0 false))
    ∧ (feeder.sourceLevel .lockout = false ∧ locked.sourceLevel .lockout = true)
    ∧ (feeder.dbu.diff .one).last = .notEvaluated
    ∧ ({ feeder.msu with rocof := some (-169200) } : Msu).rocof = some (-169200)
    ∧ ((after (.differentialTrip .one) faulted).dbu.diff .one).last = .complete { iop := 8000, ires := 8000, operates := true }
        { iop := 0, ires := 0, operates := false } { iop := 0, ires := 0, operates := false }
    ∧ (portKind 0x42 = .read ∧ portKind 0x81 ≠ .read ∧ portCount 0x42 = 2 ∧ portCount 0x40 = 0)
    ∧ ([feeder][0]? = some feeder ∧ (0 : Nat) < portCount 0x42
      ∧ ¬(0x1100 ≤ (portWord 0x08 0x00 + BitVec.ofNat 16 0).toNat ∧ (portWord 0x08 0x00 + BitVec.ofNat 16 0).toNat < 0x1300))
    ∧ (blockAt 0x1160 = some 3 ∧ blockAt 0x1161 = none ∧ 0x1100 ≤ (0x1161 : Word).toNat ∧ (0x1161 : Word).toNat < 0x1300) := by
  decide +kernel

/-- Station 2 in PUBLISH whose mask holds 0, 2 and 3, its timer locked or not. -/
def second (unlocked : Bool) : State :=
  { feeder with
    cfg := { feeder.cfg with station := 2, peerMask := 0x000D }
    lkc := { feeder.lkc with link := .publish, unlocked := unlocked } }

/-- ArrivalsUnlockedAndTheirTiming. Unlocked: a frame without its end pattern, a frame of the own number, of a station outside
the mask and of one in it. Locked: the own slot in LISTEN and in a cycle of PUBLISH without a transmission; the reference on
time and late, a higher station, and frames in slots of other stations. A move forward and back over the own slot. -/
theorem witness_ArrivalsUnlockedAndTheirTiming :
    ((second true).cfp.run = .run ∧ (second true).lkc.link ≠ .off ∧ (second true).lkc.unlocked = true
      ∧ (second true).lkc.link ≠ .duplicate ∧ ({ shortFrame with tail := 0 } : Frame).tail ≠ 0x7E#8)
    ∧ (∀ k ∈ [(0 : Station), 1, 2, 3], receivedRecord (encodeRecord (record k incomerPart)) = some (record k incomerPart))
    ∧ ((second true).cfg.own = 2 ∧ (second true).cfg.peerMask.getLsbD 1 = false ∧ (second true).cfg.peerMask.getLsbD 3 = true)
    ∧ ((second false).lkc.unlocked = false ∧ (second false).lkc.preCycle = false ∧ (second false).lkc.sent = false
      ∧ ({ (second false).lkc with link := .listen } : Lkc).link = .listen
      ∧ ∀ k ∈ [(0 : Station), 2, 3], slotOf (second false).cfg (frameOf (second false) (record k incomerPart)).start = some k
        ∧ (second false).lkc.slotsHeard.getLsbD k.val = false
        ∧ (frameOf (second false) (record k incomerPart)).start + 15744 ≤ slotEnd (second false).cfg k
        ∧ (second false).cfg.peerMask.getLsbD k.val = true)
    ∧ ((0 : Station) < (second false).cfg.own ∧ (second false).lkc.heardNow ||| (second false).lkc.heardBefore = 0
      ∧ (second false).cfg.own < 3 ∧ (second false).lkc.reference = none)
    ∧ (periodUnits (second false).cfg / 16 = 3750
      ∧ ((((slotStart (second false).cfg 0 + 960 + 3750 : Nat) : Int)) - ((slotStart (second false).cfg 0 : Int) + 960)).natAbs
        = periodUnits (second false).cfg / 16
      ∧ (record 0 incomerPart).cycle = (second false).lkc.number
      ∧ ¬((((slotStart (second false).cfg 0 + 960 + 3751 : Nat) : Int)) - ((slotStart (second false).cfg 0 : Int) + 960)).natAbs
        ≤ periodUnits (second false).cfg / 16)
    ∧ ((0 : Station) ≠ 3 ∧ (0 : Station) < (second false).cfg.own ∧ ¬((3 : Station) < (second false).cfg.own))
    ∧ (slotStart (second false).cfg (second false).cfg.own - 1 < slotStart (second false).cfg (second false).cfg.own
      ∧ (second false).lkc.phasorMade = false ∧ gridPosition (second false).cfg 0 - 1 < gridPosition (second false).cfg 0) := by
  decide +kernel

/-- A claim for section 1. -/
def claimOf (o : Origin) (restore dd : Bool) : Claim := { restore := restore, target := .one, rank := 0, origin := o, deadDead := dd }

/-- A state with this claim. -/
def withClaim (s : State) (c : Claim) : State := { s with clu := { s.clu with claim := some c } }

/-- A set of the current cycle with these sides. -/
def sides (bus ln : VClass) : ResultSet := { liveSet 0 with busClass := bus, clsL := ln }

/-- ClaimsAreRaisedWithdrawnAndRouted: each line of the raise and of the withdrawal, the ages 2 and 3, the roles, and each
route of an operator close. -/
theorem witness_ClaimsAreRaisedWithdrawnAndRouted :
    (locked.dbu.lockout = true ∧ feeder.dbu.lockout = false ∧ feeder.top.locked .one = false
      ∧ targetSide feeder.cfg feeder.currentSet .one ≠ .live
      ∧ targetSide feeder.cfg (measured feeder (liveSet 0)).currentSet .one = .live)
    ∧ ((feeder.cluRaise .gcu false .one false).2 = .raised
      ∧ ((withClaim feeder (claimOf .tru false false)).cluRaise .gcu false .one false).2 = .taken
      ∧ ((withClaim feeder (claimOf .gcu false false)).cluRaise .gcu false .one false).2 = .raised
      ∧ ((withClaim feeder (claimOf .gcu false false)).cluRaise .gcu true .one false).2 = .raised
      ∧ (locked.cluRaise .gcu false .one false).2 ≠ .raised ∧ Origin.gcu ≠ .tru)
    ∧ ((withClaim feeder (claimOf .gcu false false)).clu.claim = some (claimOf .gcu false false) ∧ feeder.clu.claim = none)
    ∧ (∀ s ∈ [incomer, tie, generator, feeder], s.cfp.run = .run) ∧ incomer.cfg.role = some .incomer
    ∧ (tie.cfg.role = some .tie ∧ generator.cfg.role = some .generator ∧ feeder.cfg.role = some .feeder)
    ∧ ((withClaim (measured feeder (liveSet 0)) (claimOf .gcu false false)).clu.inFlight = none)
    ∧ ((withClaim feeder (claimOf .operator false false)).clu.raisedNow = false
      ∧ { feeder.clu with age := 2, raisedNow := true }.raisedNow = true ∧ { feeder.clu with age := 2 }.age < 3
      ∧ 3 ≤ claiming.clu.age ∧ claiming.clu.inFlight = none)
    ∧ (feeder.clu.pendingClose = false ∧ ({ feeder.clu with pendingClose := true } : Clu).pendingClose = true
      ∧ operatorTarget feeder.cfg feeder.currentSet = .one)
    ∧ (sourceLive feeder.cfg (measured feeder (liveSet 0)).currentSet .one = true
      ∧ targetSide feeder.cfg (measured feeder (sides .dead .live)).currentSet .one = .dead
      ∧ sourceLive feeder.cfg (measured feeder (sides .dead .live)).currentSet .one = true
      ∧ sourceSide feeder.cfg (measured feeder (sides .dead .dead)).currentSet .one = .dead ∧ feeder.cfg.deadDead = false
      ∧ { feeder.cfg with deadDead := true }.deadDead = true
      ∧ targetSide feeder.cfg (measured feeder (sides .indeterminate .live)).currentSet .one = .indeterminate) := by decide

/-- A generator whose own DEAD_BUS claim for section 1 is published, alone in its expected set, on a dead bus with a live
source, with the won flag as given. -/
def contesting (won dd : Bool) : State :=
  let s := measured (island (withBreaker generator .opened) .dead) (sides .dead (if dd then .dead else .live))
  let c := claimOf .gcu false dd
  let r := { record 0 (.generator 0 6144 .deadbus .off) with claim := .deadBus, summary := .opened }
  let m := heard s r
  { m with clu := { m.clu with claim := some c, published := some c, won1 := won } }

/-- The same with a close for it in flight and the bus as given. -/
def aborting (bus : VClass) : State :=
  let s := measured (withBreaker (contesting true false) .closing) (sides bus .live)
  { s with clu := { s.clu with inFlight := some { kind := .deadBus, target := .one, origin := .gcu } } }

/-- ContestsDecideTheCloses: a win twice with the conditions met, a win once, a dead-dead claim; a request accepted and one
refused; a close that is aborted and one that goes on; a restore claim that wins and none. -/
theorem witness_ContestsDecideTheCloses :
    (feeder.top.map = .unknown ∧ (contesting true false).top.map ≠ .unknown)
    ∧ (∀ dd : Bool, (contesting true dd).clu.published = some (claimOf .gcu false dd) ∧ (contesting true dd).clu.spent = false
      ∧ (contesting true dd).clu.failed = false ∧ (contesting true dd).bcu.endedNow = false ∧ (contesting true dd).deadBusWinner .one = some (contesting true dd).cfg.own
      ∧ (contesting true dd).clu.won1 = true ∧ (contesting true dd).deadBusReady .one dd = true)
    ∧ (contesting false false).clu.won1 = false
    ∧ (((contesting true false).closeRequest .clu).2 = none ∧ ((withBreaker (contesting true false) .closed).closeRequest .clu).2
        = some .notOpen)
    ∧ ((aborting .live).clu.inFlight = some { kind := .deadBus, target := .one, origin := .gcu }
      ∧ (aborting .live).bcu.state = .closing ∧ targetSide (aborting .live).cfg (aborting .live).currentSet .one = .live
      ∧ targetSide (aborting .dead).cfg (aborting .dead).currentSet .one ≠ .live)
    ∧ ((restoring .dead).clu.spent = false ∧ (restoring .dead).bcu.endedNow = false
      ∧ (restoring .dead).restoreWinner (restoring .dead).cfg.ownSec = some (restoring .dead).cfg.own
      ∧ ((restoring .dead).freshRec (restoring .dead).cfg.own).map BayRecord.claim = some .restore
      ∧ (restoring .dead).restoreDelayOut (restoring .dead).cfg.ownSec = true
      ∧ (restoring .dead).top.locked (restoring .dead).cfg.ownSec = false ∧ (restoring .dead).dbu.lockout = false
      ∧ (restoring .dead).currentSet.meas = .valid ∧ (restoring .dead).currentSet.busClass = .live)
    ∧ feeder.restoreWinner feeder.cfg.ownSec ≠ some feeder.cfg.own
    ∧ (∀ c : Settings, c = feeder.cfg → ¬(c.role = some .tie ∧ Sec.two = .two)) ∧ (tie.cfg.role = some .tie ∧ Sec.two = .two)
    ∧ ((island feeder .grid).top.map ≠ .joined
      ∧ ({ feeder with top := { feeder.top with map := .joined } } : State).top.map = .joined) := by
  refine ⟨by decide, by decide, by decide, by decide, by decide, by decide +kernel, by decide, ?_, by decide, by decide⟩
  intro c h; subst h; decide

/-- R128: a usable feeder record newly CLOSED is a close of its section at the cycle count; one seen CLOSED before is none. -/
theorem test_restoreTracking :
    (∀ s : State, s = heard feeder (record 5 feederPart) → s.feederClosed .one = true ∧ s.feederClosed .two = false
      ∧ (s.cluTrack.feederClosed .one) = false) ∧ feeder.restoreDelayOut .one = false := by
  refine ⟨?_, by decide⟩; intro s h; subst h; decide

/-- A generator's unit with its own claim in flight. -/
def unitCloses (u : UnitState) : State :=
  let s := unitAt u .closing true true
  { s with clu := { s.clu with inFlight := some { kind := .deadBus, target := .one, origin := .gcu } } }

/-- A generator's unit on a bus of this class. -/
def unitOn (u : UnitState) (bus : VClass) (wanted ready : Bool) : State :=
  let s := measured (unitAt u .opened wanted ready) { sides bus .live with p := 3000 }
  { s with gcu := { s.gcu with demand := wanted } }

/-- A unit ordered to stop. -/
def unitStops (u : UnitState) (b : BreakerState) : State :=
  let s := unitAt u b false true
  { s with gcu := { s.gcu with stopNotice := true } }

/-- GeneratorUnitAtACycleClose: another role, a unit entered at this cycle close; each common test; none of them, in each unit
state with and without demand, engine, bus and attempt; an answer heard in DEADBUS, in SYNC and elsewhere. -/
theorem witness_GeneratorUnitAtACycleClose :
    (feeder.cfg.role ≠ some .generator ∧ generator.cfg.role = some .generator
      ∧ ({ generator.gcu with enteredNow := true } : Gcu).enteredNow = true ∧ generator.gcu.unit ≠ .starting
      ∧ ((unitIn generator .sync).gcuHear (.outcome .dropped)).gcu.heardNow = true
      ∧ ((unitIn generator .sync).gcuHear (.outcome .dropped)).gcuCommon = none)
    ∧ ((unitAt .online .failedOpen true true).breakerAtClose = .failedOpen ∧ (unitAt .idle .closed true true).breakerAtClose = .closed
      ∧ (unitAt .online .opening true true).breakerAtClose = .opening
      ∧ (unitStops .online .closed).gcu.stopNotice = true ∧ (unitStops .online .closed).breakerAtClose = .closed
      ∧ (unitStops .starting .opened).gcu.stopNotice = true ∧ (unitStops .starting .opened).breakerAtClose = .opened
      ∧ (unitStops .starting .opened).clu.inFlight = none ∧ (unitStops .starting .opened).bcu.state ≠ .closing
      ∧ (unitStops .starting .opened).gcu.enteredNow = false)
    ∧ ((unitCloses .deadbus).bcu.state = .closing ∧ (unitCloses .deadbus).clu.inFlight = some { kind := .deadBus, target := .one, origin := .gcu }
      ∧ (unitCloses .deadbus).gcuCommon = none)
    ∧ (∀ u ∈ [UnitState.idle, .starting, .deadbus, .sync, .syncWait, .cooldown, .fail],
      ∀ bus ∈ [VClass.live, .dead, .indeterminate], ∀ wanted : Bool, ∀ ready : Bool,
        (unitOn u bus wanted ready).gcuCommon = none ∧ (unitOn u bus wanted ready).gcu.enteredNow = false
        ∧ (unitOn u bus wanted ready).gcu.demand = wanted ∧ (unitOn u bus wanted ready).engineReady = ready
        ∧ (unitOn u bus wanted ready).currentSet.busClass = bus ∧ (unitOn u bus wanted ready).clu.inFlight = none
        ∧ (unitOn u bus wanted ready).syu.state = .idle ∧ (unitOn u bus wanted ready).gcu.heardNow = false
        ∧ (unitOn u bus wanted ready).breakerAtClose = .opened)
    ∧ (∀ u ∈ [UnitState.online, .unload], (unitAt u .closed false true).gcuCommon = none
      ∧ (unitAt u .closed false true).tru.mode = .auto ∧ (unitAt u .closed false true).gcu.demand = false
      ∧ (unitAt u .closed false true).top.own = .grid
      ∧ ((unitAt u .closed false true).cfg.lOff.toNat : Int) < (unitAt u .closed false true).ownL
      ∧ (unitAt u .closed false true).cfg.tUnload.toNat ≤ (unitAt u .closed false true).gcu.unloadCount + 1
      ∧ (0 : Nat) + 1 < (unitAt u .closed false true).cfg.tUnload.toNat
      ∧ (measured (unitAt u .closed false true) (liveSet 0)).ownL ≤ ((unitAt u .closed false true).cfg.lOff.toNat : Int))
    ∧ ((unitIn generator .deadbus).gcu.unit = .deadbus ∧ (unitIn generator .sync).gcu.unit = .sync
      ∧ generator.gcu.unit ≠ .deadbus ∧ generator.gcu.unit ≠ .sync) := by decide +kernel

/-- IncomerAtACycleClose: the role in both modes and another; MANUAL and HALTED, own lockout, a state entered at this cycle
close; each state of the sequence, with the health as judged either way or not judged, OPEN and CLOSED. -/
theorem witness_IncomerAtACycleClose :
    (incomer.cfg.role = some .incomer ∧ incomer.tru.mode = .manual ∧ feeder.cfg.role ≠ some .incomer ∧ feeder.cfg.role ≠ some .tie
      ∧ (inAuto incomer .halted).tru.state = .halted ∧ incomer.tru.state = .manual ∧ incomer.tru.state ≠ .normal)
    ∧ ({ inAuto incomer .resync with dbu := locked.dbu } : State).dbu.lockout = true
    ∧ ({ (inAuto incomer .resync).tru with enteredNow := true } : Tru).enteredNow = true
    ∧ (∀ x ∈ [TransferState.normal, .lossConfirm, .isolating, .deadWait, .onAlternate, .returnWait, .resync, .parallel, .openReturn],
      ∀ b ∈ [BreakerState.opened, .closed], ∀ h : Bool, (transferring x b .dead h).dbu.lockout = false
        ∧ (transferring x b .dead h).tru.enteredNow = false ∧ (transferring x b .dead h).tru.judged = true
        ∧ (transferring x b .dead h).tru.healthy = h ∧ (transferring x b .dead h).tru.state = x
        ∧ (transferring x b .dead h).clu.claim = none ∧ (transferring x b .dead h).clu.inFlight = none
        ∧ (transferring x b .grid h).top.own = .grid)
    ∧ ((inAuto incomer .normal).tru.judged = false ∧ inParallel.alternateClosed = true) := by decide

/-- An incomer of section y in a transfer state. -/
def source (k : Station) (y : Sec) (x : TransferCode) : BayRecord :=
  { record k incomerPart with sect := some y, transfer := x }

/-- A tie in AUTO whose section 1 waits dead beside a section 2 on its own grid. -/
def tieBetween (x : TransferState) (b : BreakerState) : State :=
  let s := heard (heard (withBreaker (inAuto tie x) b) (source 3 .one .deadWait)) (source 4 .two .normal)
  { s with top := { s.top with map := .apart, state1 := .dead, state2 := .grid, own := .grid } }

/-- DerivationTheTieAndTheOutcomes: an incomer in each state that hears, a claiming tie; each line of the derivation, with and
without a VALID set; each state of the tie, its entry conditions met and not. -/
theorem witness_DerivationTheTieAndTheOutcomes :
    (∀ x ∈ [TransferState.deadWait, .openReturn, .resync], (inAuto incomer x).tru.state = x ∧ incomer.cfg.role = some .incomer
      ∧ ¬((inAuto incomer x).syu.state = .checking))
    ∧ ((tieBetween (.tieClaim .one) .opened).cfg.role = some .tie ∧ (tieBetween (.tieClaim .one) .opened).tru.state = .tieClaim .one)
    ∧ (locked.dbu.lockout = true ∧ incomer.dbu.lockout = false ∧ (measured incomer (liveSet 0)).currentSet.meas = .valid
      ∧ incomer.currentSet.meas ≠ .valid ∧ (withBreaker incomer .closed).bcu.state = .closed ∧ incomer.bcu.state ≠ .opened
      ∧ (transferring .deadWait .opened .grid true).top.own = .grid ∧ (transferring .deadWait .opened .dead true).top.own = .dead
      ∧ incomer.top.own = .unknown)
    ∧ (tie.cfg.tieTransfer = true ∧ (withBreaker tie .opened).bcu.state = .opened ∧ tie.dbu.lockout = false
      ∧ tieOff.cfg.tieTransfer = false)
    ∧ (∀ x ∈ [TransferState.tieOpen, .tieClaim .one, .tieFeeding .one], (tieBetween x .opened).tru.mode = .auto
      ∧ (tieBetween x .opened).tru.enteredNow = false ∧ (tieBetween x .opened).tru.derive = false
      ∧ (tieBetween x .opened).tru.heardNow = false ∧ (tieBetween x .opened).truHeard.tru.heardNow = true
      ∧ (tieBetween x .opened).tieEntry .one = true ∧ (tieBetween x .opened).tieEntry (Sec.other .one) = false
      ∧ (tieBetween x .opened).bcu.state = .opened ∧ (tieBetween x .opened).clu.inFlight = none
      ∧ (tieBetween x .opened).clu.claim = none)
    ∧ ((inAuto tie .tieOpen).tieEntry .one = (inAuto tie .tieOpen).tieEntry .two ∧ (inAuto tie (.tieClaim .one)).tieEntry .one = false)
    ∧ (({ (inAuto tie .tieOpen).tru with enteredNow := true } : Tru).enteredNow = true ∧ (inAuto tie .tieOpen).tru.mode = .auto
      ∧ (inAuto tie .tieOpen).cfg.role = some .tie)
    := by decide

/-- A feeder that has shed, in an island, with the mode in AUTO. -/
def hasShed (x : ShedState) (b : BreakerState) : State :=
  let s := measured (withBreaker (inAuto (island feeder .grid) .manual) b) (liveSet 0)
  { s with fcu := { s.fcu with state := x, reason := .capacity } }

/-- FeederAtACycleClose: the own record usable, CLOSED and VALID on a live bus, and none; the map known and not; an operator
open pending and none; a shed that is due; a breaker found closed; SHED with its conditions met, not met and heard; RESTORING,
MANUAL_OPEN and NORMAL; another role. -/
theorem witness_FeederAtACycleClose :
    ((loaded .genset 10).usableRec (loaded .genset 10).cfg.own = some { record 0 (.feeder 0 10 .normal) with p := -100 }
      ∧ (loaded .genset 10).currentSet.busClass = .live ∧ feeder.usableRec feeder.cfg.own = none
      ∧ feeder.top.map = .unknown ∧ (loaded .genset 10).top.map ≠ .unknown)
    ∧ (feeder.fcu.openPending = false ∧ ({ feeder.fcu with openPending := true } : Fcu).openPending = true)
    ∧ ((loaded .genset 10).bcu.state = .closed ∧ feeder.cfg.role = some .feeder ∧ generator.cfg.role ≠ some .feeder)
    ∧ ({ feeder with fcu := { feeder.fcu with overCount := 2 } } : State).shedDue = some .capacity ∧ feeder.shedDue = none
    ∧ ((hasShed .shed .closed).bcu.state = .closed ∧ (hasShed .shed .closed).fcu.state = .shed)
    ∧ ((hasShed .shed .opened).tru.mode = .auto ∧ (hasShed .shed .opened).bcu.state = .opened
      ∧ (hasShed .shed .opened).top.own = .grid ∧ (hasShed .shed .opened).fcu.heardNow = false
      ∧ ((hasShed .shed .opened).cluRaise .fcu true (hasShed .shed .opened).cfg.ownSec).2 = .raised
      ∧ (({ hasShed .shed .opened with dbu := locked.dbu } : State).cluRaise .fcu true .one).2 ≠ .raised)
    ∧ ((hasShed .restoring .closing).bcu.state = .closing
      ∧ ({ (hasShed .restoring .closing).bcu with acceptedNow := true } : Bcu).acceptedNow = true)
    ∧ ((hasShed .restoring .opened).fcu.state = .restoring ∧ (hasShed .manualOpen .opened).fcu.state = .manualOpen
      ∧ feeder.fcu.state = .normal) := by decide +kernel

/-! ### One command at a time: values the manual gives -/

/-- R194: the pins stand over a reset, the store and LAST_RESULT do not. -/
theorem test_powerOnReset : (after .powerOnReset generator).cfg = Settings.default
    ∧ (after .powerOnReset generator).cfp = Cfp.reset := by decide

theorem test_resetN : (after .resetN locked).dbu.lockout = false ∧ (after .resetN locked).cfp.run = .config := by decide

/-- R2, R3: the first strobe of a RUN closes no reply; a missing set is counted. -/
theorem test_sampleStrobe : (after (.sampleStrobe 1 zeros (Vector.replicate 8 false) []) feeder).cvp.sets = 0
    ∧ (after (.sampleStrobe 1 zeros (Vector.replicate 8 false) []) inFlight).cvp.sets = 1
    ∧ (after (.sampleStrobe 1 .missing (Vector.replicate 8 false) []) inFlight).cvp.missing = 1 := by decide

/-- R18: the set formed within cycle 0 is labelled for cycle 1. -/
theorem test_phasorInstant :
    (after (.phasorInstant zeros (Vector.replicate 8 false) []) feeder).msu.newest.label = some 1 := by decide

/-- R4: the second missing set in a row makes the measurement FAIL, with MEAS_FAIL pending. -/
theorem test_measurementFail :
    (after .measurementFail { feeder with cvp := { feeder.cvp with bad := 1 } }).cvp.meas = .fail
    ∧ (after .measurementFail { feeder with cvp := { feeder.cvp with bad := 1 } }).cfp.attention = 0x1000 := by decide

theorem test_goodRunComplete :
    (after .goodRunComplete { feeder with cvp := { feeder.cvp with meas := .fail, goodRun := 31 } }).cvp.meas = .warmup := by decide

/-- R15: the 64th strobe without a crossing empties the list. -/
theorem test_crossingListTimeout : (after (.crossingListTimeout .bus)
    { feeder with msu := { feeder.msu with bus := { times := [5, 6], since := 63 } } }).msu.bus.times = [] := by decide

theorem test_warmupComplete :
    (after .warmupComplete { feeder with cvp := { feeder.cvp with warm := 4 } }).cvp.meas = .valid := by decide

/-- Chapter 4: an I>> operation opens, sets lockout and the TRIP bit. -/
theorem test_elementOperate : (after (.elementOperate .highI) overloaded).bcu.trip = true
    ∧ (after (.elementOperate .highI) overloaded).dbu.lockoutSource = .highI
    ∧ (after (.elementOperate .highI) overloaded).pru.tripActive = true := by decide

/-- R22: trigger index 44 and PRE 128 of 512 give start index 428. -/
theorem test_captureHeld : (after .captureHeld almostHeld).cap.a.record.start = 428
    ∧ (after .captureHeld almostHeld).cap.b.state = .active := by decide

theorem test_ownSlot :
    ((after .ownSlot { feeder with lkc := { feeder.lkc with link := .publish } }).heldRec 0).map BayRecord.station = some 0 := by
  decide +kernel

/-- R30: a silent read-back is a CRC error of the own entry. -/
theorem test_readBack : ((after (.readBack .silent) published).entry 0).crcErrors = 1
    ∧ (after (.readBack .silent) published).lkc.crcError = true := by decide +kernel

/-- R37: while unlocked the first valid frame of a mask station relocks the timer and names the cycle. -/
theorem test_recordArrival : (after (.recordArrival (frameOf published { record 3 incomerPart with cycle := 40 }))
    { published with lkc := { published.lkc with unlocked := true } }).lkc.number = 40 := by decide +kernel

/-- R26: the cycle close ends its cycle. -/
theorem test_cycleClose : (after (.cycleClose []) feeder).lkc.count = 1 ∧ (after (.cycleClose []) feeder).lkc.number = 1 := by
  decide +kernel

/-- A close in travel whose pair shows open, in a zone that trips at its next cycle close. -/
def closingOnFault : State :=
  let s := withBreaker (contacts faulted false) .closing
  { s with bcu := { s.bcu with close := true, owner := some .clu } }

/-- R108: the trip wins over the drop whichever of the two is taken first. -/
theorem test_cycleClose_tripWins : ∀ o ∈ [[CloseBlock.bcuDrop], [.dbu]],
    (after (.cycleClose o) closingOnFault).bcu.state = .opening ∧ (after (.cycleClose o) closingOnFault).bcu.trip = true
    ∧ ((after (.cycleClose o) closingOnFault).bcu.lastOutcome.map Prod.fst) = some .tripped := by decide +kernel

/-- R90, R106, R108: below D no trip is made, and a peer's lockout seen drops the close whether DBU is taken before or after. -/
theorem test_cycleClose_dropBelowConfirm : ∀ o ∈ [[CloseBlock.bcuDrop], [.dbu]],
    let s := heard closingOnFault { record 5 feederPart with lockout := true }
    let t := after (.cycleClose o) { s with dbu := { s.dbu with s1 := { s.dbu.s1 with confirm := 0 } } }
    t.dbu.s1.confirm = 1 ∧ t.bcu.close = false ∧ t.bcu.lastOutcome.map Prod.fst = some .dropped := by decide +kernel

/-- R124, R151: a dead-bus abort leaves the unit in DEADBUS at its cycle close, the bus being LIVE, whichever block is first. -/
theorem test_cycleClose_abortWaits : ∀ o ∈ [[CloseBlock.clu], [.gcu]],
    let s := unitCloses .deadbus
    let t := after (.cycleClose o) (contacts { s with bcu := { s.bcu with close := true, owner := some .clu } } false)
    t.bcu.lastOutcome.map Prod.fst = some .dropped ∧ t.gcu.unit = .deadbus := by decide +kernel

/-- R108, R142, R152: a sync close dropped for a peer's lockout leaves the unit in SYNC at its cycle close, without demand too. -/
theorem test_cycleClose_dropWaits : ∀ o ∈ [[CloseBlock.bcuDrop], [.gcu]],
    let s := heard (unitAt .sync .closing false true) { record 5 feederPart with lockout := true }
    let t := after (.cycleClose o) (contacts { s with
      bcu := { s.bcu with close := true, owner := some .syu }, syu := { s.syu with state := .closing, owner := some .gcu } } false)
    t.syu.state = .idle ∧ t.gcu.unit = .sync := by decide +kernel

/-- R24, R93, R41: with no bank HELD a field reads 0, an idle BF timer counts 0, a SELF_TIMED station reads so while its record
shows RELOCKED. R117, R173: an idle discrepancy count and no direction read 0. R17: the worked ROCOF of −325 reads in two words. -/
theorem test_status : feeder.statusValue .discrepancy = .number 0 ∧ feeder.statusValue .direction = .number 0
    ∧ ({ feeder with msu := { feeder.msu with rocof := some (-325) } } : State).snapshotValue (.rocof true) = .number 65535
    ∧ ({ feeder with msu := { feeder.msu with rocof := some (-325) } } : State).snapshotValue (.rocof false) = .number 65211
    ∧ feeder.captureValue .retriggered = .number 0 ∧ feeder.statusValue .bfCount = .number 0
    ∧ ({ feeder.lkc with selfTimed := true, relockCycle := some 0 } : Lkc).alignState = .selfTimed
    ∧ ({ feeder.lkc with selfTimed := true, relockCycle := some 0 } : Lkc).alignment = .relocked := by decide

theorem test_listenComplete : (after .listenComplete (linked .listen)).lkc.link = .publish := by decide

theorem test_silentSlotExpiry : (after .silentSlotExpiry (linked .duplicate)).lkc.link = .listen := by decide

theorem test_selfTimed : (after .selfTimed (linked .publish)).lkc.selfTimed = true
    ∧ (after .selfTimed (linked .publish)).lkc.referenceMissing = false := by decide

/-- Chapter 5: the second operate of D = 2 trips, with TRIP and LOCKOUT pending. -/
theorem test_differentialTrip : (after (.differentialTrip .one) faulted).bcu.state = .opening
    ∧ (after (.differentialTrip .one) faulted).cfp.attention = 0x0003 := by decide

theorem test_zoneBlocked : (after (.zoneBlocked .one) blocked).cfp.attention = 0x0020 := by decide

theorem test_bfExpiry : (after .bfExpiry blocked).dbu.notice = true ∧ (after .bfExpiry blocked).cfp.attention = 0x0006 := by
  decide

theorem test_contactEvent : (after (.contactEvent 3 true) settling).bcu.trip = true
    ∧ (after (.contactEvent 4 true) settling).dbu.lockoutSource = .extLockout := by decide

/-- R103, R112: a breaker seen open while CLOSED is an uncommanded open. -/
theorem test_reconfirmation : (after .reconfirmation (reconfirming .closed false)).bcu.alarms.uncommandedOpen = some 0
    ∧ (after .reconfirmation (reconfirming .unknown true)).bcu.state = .closed := by decide

theorem test_closeSupervisionExpiry :
    (after .closeSupervisionExpiry (expiring .closing false)).bcu.lastOutcome = some (.failed, 0) := by decide

theorem test_tripRelease : (after .tripRelease (expiring .opening false)).bcu.state = .opened
    ∧ (after .tripRelease (expiring .opening false)).bcu.trip = false := by decide

theorem test_discrepancyExpiry : (after .discrepancyExpiry (expiring .closed true)).bcu.state = .discrepant := by decide

/-- R126: the claim expires; where its cycle close makes the request (R122) or withdraws it for LOCKOUT (R120) nothing expires,
and the CYCLE_CLOSE row makes that request. -/
theorem test_operatorClaimExpiry : (after .operatorClaimExpiry claiming).clu.claim = none
    ∧ (after .operatorClaimExpiry requesting).clu.claim = requesting.clu.claim
    ∧ (after (.cycleClose []) requesting).bcu.close = true
    ∧ (∀ s : State, s = { claiming with dbu := { claiming.dbu with lockout := true } } → after .operatorClaimExpiry s = s) := by
  refine ⟨by decide, by decide +kernel, by decide +kernel, ?_⟩
  intro s h; subst h; decide

theorem test_restoreDelayExpiry : (after .restoreDelayExpiry (restoring .dead)).bcu.close = true
    ∧ (after .restoreDelayExpiry (restoring .live)).fcu.cause = .feederLive := by decide

theorem test_syncSupervisionExpiry : (after .syncSupervisionExpiry checking).gcu.unit = .syncWait
    ∧ (after .syncSupervisionExpiry checking).cfp.attention = 0x00C0 := by decide

theorem test_startFail : (after .startFail (unitAt .starting .opened true false)).gcu.failReason = .startFail := by decide

theorem test_retryExpiry : (after .retryExpiry (unitAt .syncWait .opened true true)).syu.owner = some .gcu := by decide

theorem test_unloadExpiry : (after .unloadExpiry (unitAt .unload .closed false true)).gcu.unit = .cooldown
    ∧ (after .unloadExpiry (unitAt .unload .closed false true)).bcu.trip = true := by decide

theorem test_coolExpiry : (after .coolExpiry (unitAt .cooldown .opened false true)).gcu.unit = .idle := by decide

theorem test_capacityShed : (after .capacityShed (loaded .genset 10)).fcu.held = 100
    ∧ (after .capacityShed (loaded .genset 10)).cfp.attention = 0x0100 := by decide

/-- R167: stage 1 acts at a threshold of 10 and above, not below it. R169: where CAPACITY reaches too, that is the reason. -/
theorem test_underfreqShed : (after (.underfreqShed .one) (counted (loaded .genset 10) 0 39 9 1)).fcu.reason = .underfreq1
    ∧ (after (.underfreqShed .one) (loaded .genset 10)).fcu.reason = .capacity
    ∧ (after (.underfreqShed .one) (loaded .genset 9)).fcu.state = .normal := by decide

/-- R168, R169: in a dead island the stages come before DEADBUS. -/
theorem test_deadbusShed : (after .deadbusShed (counted (loaded .dead 16) 0 0 0 1)).fcu.reason = .deadbus
    ∧ (after .deadbusShed (loaded .dead 16)).fcu.reason = .underfreq1
    ∧ (after .deadbusShed (loaded .dead 15)).fcu.state = .normal := by decide

theorem test_lossConfirmExpiry :
    (after .lossConfirmExpiry (transferring .lossConfirm .closed .grid false)).tru.state = .isolating := by decide

theorem test_returnShortExpiry :
    (after .returnShortExpiry (transferring .deadWait .opened .dead true)).clu.claim.map Claim.rank = some 0 := by decide

theorem test_returnExpiry : (after .returnExpiry (transferring .returnWait .opened .grid true)).syu.owner = some .tru := by
  decide

theorem test_resyncExpiry : (after .resyncExpiry (transferring .resync .opened .grid true)).tru.hold = true := by decide

theorem test_parallelTimeout :
    (after .parallelTimeout (heard (transferring .parallel .closed .grid true)
      (record 2 (.generator 0 6144 .online .isoch)))).tru.parallelTimeout = true := by decide

theorem test_portNop : after (.portNop 0) locked = locked := rfl

/-- R194: a checked store starts; the refusal of a store that fails names its check. -/
theorem test_start : (after .start State.reset).lkc.link = .listen
    ∧ (after .start { State.reset with cfg := { Settings.default with tBf := 0 } }).cfp.result
      = { code := .refusedCheck, command := 1, check := 14 } := by decide

theorem test_stop : (after .stop (withBreaker feeder .opened)).cfp.run = .config
    ∧ (after .stop (withBreaker feeder .closed)).cfp.result.code = .refusedState := by decide

theorem test_softReset : (after .softReset locked).cfp.result = { code := .refusedState, command := 3, check := 0 } := by decide

theorem test_openBreaker : (after .openBreaker (withBreaker feeder .closed)).bcu.state = .opening
    ∧ (after .openBreaker (withBreaker feeder .opened)).bcu.trip = false := by decide

theorem test_closeBreaker : (after .closeBreaker (withBreaker feeder .opened)).clu.pendingClose = true
    ∧ (after .closeBreaker (withBreaker locked .opened)).cfp.result.code = .refusedLockout := by decide

theorem test_setAuto : (after .setAuto incomer).tru.derive = true ∧ (after .setAuto incomer).cfp.attention = 0x0040 := by decide

theorem test_setManual : (after .setManual (unitIn (inAuto generator .manual) .unload)).gcu.unit = .online := by decide

theorem test_retransferNow : (after .retransferNow (inAuto incomer .returnWait)).tru.state = .resync
    ∧ (after .retransferNow incomer).cfp.result.code = .refusedMode := by decide

theorem test_resetLatch : (after .resetLatch noticed).cfp.result.code = .refusedLockout
    ∧ (after .resetLatch locked).dbu.lockout = false := by decide

theorem test_releaseCapture : (after .releaseCapture (banks .held .active)).cap.a.state = .free
    ∧ (after .releaseCapture feeder).cfp.result.code = .refusedState := by decide

/-- Chapter 1, steps 8 and 10 of the worked example: a trigger beside a HELD bank is lost; beside a FREE one it captures. -/
theorem test_triggerCapture : (after .triggerCapture (banks .held .active)).cap.lost = 1
    ∧ (after .triggerCapture (banks .free .active)).cap.b.state = .post := by decide

/-- A state with LINK_ALARM and TRIP pending and an exception flag set. -/
def alarms : State :=
  { feeder with cfp := { feeder.cfp with attention := 0x0011 }, lkc := { feeder.lkc with late := true } }

theorem test_ackAttention : (after (.ackAttention 0x0010) alarms).cfp.attention = 0x0001
    ∧ (after (.ackAttention 0x0010) alarms).lkc.late = false := by decide

theorem test_unknownCommand :
    (after (.unknownCommand 13) feeder).cfp.result = { code := .unknownCommand, command := 13, check := 0 } := by decide

theorem test_attentionAcknowledgeWrite :
    (after (.attentionAcknowledgeWrite 1) alarms).cfp.result = { code := .accepted, command := 12, check := 0 } := by decide

/-- R195: ATTN follows the enable mask. -/
theorem test_attentionEnableWrite : (after (.attentionEnableWrite 0x0001) alarms).attn = true ∧ alarms.attn = false := by decide

theorem test_groupAccessWrite : (after (.groupAccessWrite 0xFFFE) feeder).cfp.groupAccess = false := by decide

theorem test_broadcastTrimWrite : (after (.broadcastTrimWrite .voltage 5) State.reset).cfg.gain.vc = 5
    ∧ (after (.broadcastTrimWrite .voltage 5) State.reset).cfg.gain.vl = 16384
    ∧ (after (.broadcastTrimWrite .voltage 5) feeder).cfp.attention = 0x8000 := by decide

theorem test_configurationWrite : (after (.configurationWrite (.number .tBf 30)) State.reset).cfg.tBf = 30
    ∧ (after (.configurationWrite (.number .tBf 30)) feeder).cfg.tBf = 24 := by decide

/-- R54, wire formats: bytes 0 and 1 of station 3, INCOMER, section 1, cycle 0 make the first word. -/
theorem test_peerImageBlockRead :
    (after (.peerImageBlockRead 3 20) (heard feeder (record 3 incomerPart))).cfp.dataOut.length = 20
    ∧ (after (.peerImageBlockRead 3 20) (heard feeder (record 3 incomerPart))).cfp.dataOut[0]? = some 0x3100 := by decide +kernel

end Sys2Proof.Tests
end

section
/-! PROOFS. Releasing a capture (R23), and what a strobe takes in and forms (R2 to R8, R14 to R18). -/

namespace Sys2Proof.Machine

/-! ### The release of the HELD bank (R23) -/

theorem exec_releaseCapture_of_held {s : State} {b : Bool} (h : s.cap.heldBank = some b) :
    exec .releaseCapture s = .next ((s.withCap fun c => c.setBank b (c.bank b).release).answer .accepted 10) := by
  show execReleaseCapture s = _
  rw [execReleaseCapture, h]

theorem exec_releaseCapture_of_none {s : State} (h : s.cap.heldBank = none) :
    exec .releaseCapture s = .next (s.answer .refusedState 10) := by
  show execReleaseCapture s = _
  rw [execReleaseCapture, h]

/-- Settles O14, by which of the two banks is HELD. -/
theorem releaseCaptureFreesTheHeldBank : Obligations.ReleaseCaptureFreesTheHeldBank := by
  intro s
  refine ⟨fun ha => ?_, fun ha hb => ?_, fun ha hb => ?_⟩
  · have held : s.cap.heldBank = some false := by rw [Cap.heldBank, if_pos ha]
    exact exec_releaseCapture_of_held held
  · have held : s.cap.heldBank = some true := by rw [Cap.heldBank, if_neg ha, if_pos hb]
    exact exec_releaseCapture_of_held held
  · have free : s.cap.heldBank = none := by rw [Cap.heldBank, if_neg ha, if_neg hb]
    exact exec_releaseCapture_of_none free

/-! ### The input lines and the differentials: no consequence of a strobe reaches them -/

/-- The levels of the input lines and the two differentials of DBU. -/
def State.linesAndDiffs (s : State) : Vector LineState 8 × SectionDiff × SectionDiff :=
  (s.bcu.lines, s.dbu.s1, s.dbu.s2)

theorem State.linesAndDiffs_congr {s t : State} (lines : t.bcu.lines = s.bcu.lines) (dbu : t.dbu = s.dbu) :
    t.linesAndDiffs = s.linesAndDiffs := by
  rw [State.linesAndDiffs, State.linesAndDiffs, lines, dbu]

/-- A part of an event that leaves the lines and the differentials does so where it falls under a condition too. -/
theorem State.linesAndDiffs_ite {p : Prop} [Decidable p] {s t u : State} (ht : t.linesAndDiffs = s.linesAndDiffs)
    (hu : u.linesAndDiffs = s.linesAndDiffs) : (if p then t else u).linesAndDiffs = s.linesAndDiffs := by
  split
  · exact ht
  · exact hu

theorem State.Told.linesAndDiffs {s t : State} (h : State.Told s t) : t.linesAndDiffs = s.linesAndDiffs :=
  State.linesAndDiffs_congr (by rw [h.bcu]) h.dbu

theorem Bcu.ended_lines (b : Bcu) (x : BreakerState) (o : Option CloseOutcome) (n : Count) :
    (b.ended x o n).lines = b.lines := by cases o <;> rfl

theorem State.becomeClosed_linesAndDiffs (s : State) (o : Option CloseOutcome) :
    (s.becomeClosed o).linesAndDiffs = s.linesAndDiffs :=
  State.linesAndDiffs_congr (by rw [State.becomeClosed_bcu, Bcu.ended_lines]) (s.becomeClosed_dbu o)

theorem State.becomeOpen_linesAndDiffs (s : State) (o : CloseOutcome) :
    (s.becomeOpen o).linesAndDiffs = s.linesAndDiffs :=
  State.linesAndDiffs_congr (by rw [State.becomeOpen_bcu, Bcu.ended_lines]) (s.becomeOpen_dbu o)

theorem State.closeDrop_linesAndDiffs (s : State) : s.closeDrop.linesAndDiffs = s.linesAndDiffs := by
  refine State.linesAndDiffs_congr ?_ s.closeDrop_dbu
  rw [State.closeDrop_bcu]
  split
  · cases s.pair <;> rfl
  · rfl

theorem State.setLockout_linesAndDiffs (s : State) (c : LockoutSource) :
    (s.setLockout c).linesAndDiffs = s.linesAndDiffs := by
  unfold State.setLockout
  split
  · rfl
  · rw [(State.told_syuEndChecking ..).linesAndDiffs, State.closeDrop_linesAndDiffs]
    rfl

theorem State.bfRequest_linesAndDiffs (s : State) : s.bfRequest.linesAndDiffs = s.linesAndDiffs := by
  unfold State.bfRequest
  split <;> rfl

theorem State.tripRequest_linesAndDiffs (s : State) : s.tripRequest.linesAndDiffs = s.linesAndDiffs := by
  have lines : s.tripRequest.bcu.lines = s.bcu.lines := by
    rw [State.tripRequest_bcu]
    cases s.bcu.state <;> rfl
  have diffs : s.tripRequest.linesAndDiffs = (s.bcu.lines, s.bfRequest.dbu.s1, s.bfRequest.dbu.s2) := by
    rw [State.linesAndDiffs, lines, State.tripRequest_dbu]
  rw [diffs, ← s.bfRequest_linesAndDiffs, State.linesAndDiffs, State.bfRequest_bcu]

theorem State.releaseTest_linesAndDiffs (s : State) : s.releaseTest.linesAndDiffs = s.linesAndDiffs := by
  unfold State.releaseTest
  split <;> rfl

theorem State.bfClear_linesAndDiffs (s : State) (p : Pair) : (s.bfClear p).linesAndDiffs = s.linesAndDiffs := by
  unfold State.bfClear
  split <;> rfl

theorem Bcu.discrepancyAt_lines (b : Bcu) (p : Pair) : (b.discrepancyAt p).lines = b.lines := by cases p <;> rfl

theorem State.discrepancyAt_linesAndDiffs (s : State) (p : Pair) :
    (s.withBcu fun b => b.discrepancyAt p).linesAndDiffs = s.linesAndDiffs :=
  State.linesAndDiffs_congr (Bcu.discrepancyAt_lines ..) rfl

theorem State.pairState_linesAndDiffs (s : State) (p : Pair) : (s.pairState p).linesAndDiffs = s.linesAndDiffs := by
  unfold State.pairState
  split
  case h_1 | h_8 | h_13 => exact s.becomeClosed_linesAndDiffs _
  case h_2 | h_10 | h_14 | h_15 => rfl
  case h_3 | h_5 | h_7 => exact s.discrepancyAt_linesAndDiffs _
  case h_4 =>
    rw [(State.told_syuEndChecking ..).linesAndDiffs, State.becomeClosed_linesAndDiffs]
    rfl
  case h_6 =>
    rw [(State.told_uncommandedOpen _).linesAndDiffs]
    rfl
  case h_9 => exact State.linesAndDiffs_ite rfl (s.becomeOpen_linesAndDiffs _)
  case h_11 | h_12 => exact s.releaseTest_linesAndDiffs

theorem State.pairEvent_linesAndDiffs (s : State) : s.pairEvent.linesAndDiffs = s.linesAndDiffs := by
  unfold State.pairEvent
  split
  · rfl
  · rw [State.pairState_linesAndDiffs, State.bfClear_linesAndDiffs]

theorem State.trigger_linesAndDiffs (s : State) (k : Trigger) : (s.trigger k).linesAndDiffs = s.linesAndDiffs := by
  unfold State.trigger State.takeTrigger
  repeat' split
  all_goals rfl

theorem State.issueTrip_linesAndDiffs (s : State) : s.issueTrip.linesAndDiffs = s.linesAndDiffs :=
  State.trigger_linesAndDiffs ..

theorem State.operated_linesAndDiffs (s : State) (es : List Element) (n : Count) :
    (s.operated es n).linesAndDiffs = s.linesAndDiffs := by
  have lockout : ∀ u : State, u.linesAndDiffs = s.linesAndDiffs →
      (u.setLockout .highI).linesAndDiffs = s.linesAndDiffs := fun u h => (u.setLockout_linesAndDiffs _).trans h
  have present : ∀ u : State, u.linesAndDiffs = s.linesAndDiffs →
      (if u.pruStands then u.tripRequest else u).linesAndDiffs = s.linesAndDiffs :=
    fun u h => State.linesAndDiffs_ite (u.tripRequest_linesAndDiffs.trans h) h
  unfold State.operated
  dsimp only
  refine State.linesAndDiffs_ite (lockout _ (present _ ?_)) (present _ ?_)
  all_goals exact State.linesAndDiffs_ite (State.issueTrip_linesAndDiffs _) rfl

theorem State.pruEvaluate_linesAndDiffs (s : State) (x : ResultSet) :
    (s.pruEvaluate x).linesAndDiffs = s.linesAndDiffs := by
  have test : ∀ u : State, u.tripActiveTest.linesAndDiffs = u.linesAndDiffs := by
    intro u
    unfold State.tripActiveTest
    split <;> rfl
  unfold State.pruEvaluate
  dsimp only
  rw [test, State.operated_linesAndDiffs]
  rfl

/-! ### The set taken in and the results of a phasor instant, as functions of the blocks they read -/

/-- CVP once a strobe has taken in the set of the strobe before, if there is one (R2 to R4). -/
def Cvp.takenIn (c : Cvp) (r : Reply) : Cvp :=
  if c.inFlight then { c.take r with sets := c.sets + 1 } else { c with inFlight := true }

/-- CVP after the measurement of a strobe (R2 to R5). -/
def Cvp.measured (c : Cvp) (r : Reply) (phasor : Bool) : Cvp := if phasor then (c.takenIn r).warmUp else c.takenIn r

/-- MSU once the set handed on by CVP, if there is one, is in its windows and lists (R7, R8, R14, R15). -/
def Msu.takenIn (m : Msu) (g : Settings) (c : Cvp) (r : Reply) : Msu :=
  if c.inFlight then m.takeSet (c.sets + 1) (trimSet g (c.take r).lastGood)
  else { m with bus := m.bus.tick, line := m.line.tick }

/-- MSU with the result set of a phasor instant, the one before it kept (R18). -/
def Msu.formed (m : Msu) (g : Settings) (meas : MeasState) (label : Count) : Msu :=
  { m with newest := formSet g m meas label, older := m.newest }

/-- MSU after the measurement of a strobe (R2, R18). -/
def Msu.measured (m : Msu) (g : Settings) (c : Cvp) (r : Reply) (phasor : Bool) (label : Count) : Msu :=
  if phasor then (m.takenIn g c r).formed g (c.measured r true).meas label else m.takenIn g c r

/-- Taking in a set neither forms a result set nor drops one. -/
theorem Msu.takenIn_sets (m : Msu) (g : Settings) (c : Cvp) (r : Reply) :
    (m.takenIn g c r).newest = m.newest ∧ (m.takenIn g c r).older = m.older := by
  unfold Msu.takenIn
  split <;> exact ⟨rfl, rfl⟩

/-- The window and its index after a measurement are those after the set taken in, results or none. -/
theorem Msu.measured_window (m : Msu) (g : Settings) (c : Cvp) (r : Reply) (phasor : Bool) (label : Count) :
    (m.measured g c r phasor label).index = (m.takenIn g c r).index ∧
      (m.measured g c r phasor label).window = (m.takenIn g c r).window := by
  cases phasor <;> exact ⟨rfl, rfl⟩

/-- The warm-up test moves the measurement state and its count alone (R5). -/
theorem Cvp.warmUp_only (c : Cvp) : c.warmUp = { c with meas := c.warmUp.meas, warm := c.warmUp.warm } := by
  unfold Cvp.warmUp
  repeat' split
  all_goals rfl

/-- What a measurement leaves of CVP but for the measurement state and its warm-up count is what the taking in leaves. -/
theorem Cvp.measured_only (c : Cvp) (r : Reply) (phasor : Bool) :
    c.measured r phasor =
      { c.takenIn r with meas := (c.measured r phasor).meas, warm := (c.measured r phasor).warm } := by
  cases phasor
  · rfl
  · exact Cvp.warmUp_only _

/-- The warm-up test reads the measurement state and its count alone. -/
theorem Cvp.warmUp_meas_congr {c d : Cvp} (hm : d.meas = c.meas) (hw : d.warm = c.warm) :
    d.warmUp.meas = c.warmUp.meas := by
  unfold Cvp.warmUp
  rw [hm, hw]
  split
  · split <;> rfl
  · exact hm

/-- CVP with codes at the interface converters. -/
def Cvp.sending (c : Cvp) (speed volt : BitVec 12) : Cvp := { c with speedSent := speed, voltSent := volt }

/-- The judgement of a reply does not read the codes at the interface converters, and leaves them. -/
theorem Cvp.take_sending (c : Cvp) (x y : BitVec 12) (r : Reply) : (c.sending x y).take r = (c.take r).sending x y := by
  unfold Cvp.take Cvp.takeGood Cvp.takeBad Cvp.sending
  dsimp only
  repeat' split
  all_goals rfl

theorem Cvp.takenIn_sending (c : Cvp) (x y : BitVec 12) (r : Reply) :
    (c.sending x y).takenIn r = (c.takenIn r).sending x y := by
  have same : (c.sending x y).inFlight = c.inFlight := rfl
  rw [Cvp.takenIn, Cvp.takenIn, Cvp.take_sending, same]
  cases c.inFlight <;> rfl

theorem Cvp.warmUp_sending (c : Cvp) (x y : BitVec 12) : (c.sending x y).warmUp = c.warmUp.sending x y := by
  unfold Cvp.warmUp Cvp.sending
  repeat' split
  all_goals rfl

theorem Cvp.measured_sending (c : Cvp) (x y : BitVec 12) (r : Reply) (phasor : Bool) :
    (c.sending x y).measured r phasor = (c.measured r phasor).sending x y := by
  cases phasor
  · exact c.takenIn_sending x y r
  · show ((c.sending x y).takenIn r).warmUp = (c.takenIn r).warmUp.sending x y
    rw [Cvp.takenIn_sending, Cvp.warmUp_sending]

theorem Msu.measured_sending (m : Msu) (g : Settings) (c : Cvp) (x y : BitVec 12) (r : Reply) (phasor : Bool)
    (label : Count) : m.measured g (c.sending x y) r phasor label = m.measured g c r phasor label := by
  unfold Msu.measured Msu.takenIn
  rw [Cvp.measured_sending, Cvp.take_sending]
  rfl

/-! ### The measurement of a strobe -/

theorem State.capWrite_only (s : State) (x : Seven Cell) : ∃ c a,
    s.capWrite x = { s with cap := c, cfp := { s.cfp with attention := a } } := by
  unfold State.capWrite
  split
  · exact ⟨_, _, rfl⟩
  · dsimp only
    split <;> exact ⟨_, _, rfl⟩

theorem State.handOn_only (s : State) : ∃ c a,
    s.handOn = { s with msu := s.msu.takeSet s.cvp.sets (trimSet s.cfg s.cvp.lastGood), cap := c,
                        cfp := { s.cfp with attention := a } } :=
  State.capWrite_only (s.withMsu _) _

theorem State.takeReply_only (s : State) (r : Reply) : ∃ a,
    s.takeReply r =
      { s with cvp := { s.cvp.take r with sets := s.cvp.sets + 1 }, cfp := { s.cfp with attention := a } } := by
  unfold State.takeReply
  dsimp only
  split <;> exact ⟨_, rfl⟩

/-- A set taken in reaches CVP, MSU, CAP and the pending bits alone. -/
theorem State.takeIn_only (s : State) (r : Reply) : ∃ c a,
    s.takeIn r =
      { s with cvp := s.cvp.takenIn r, msu := s.msu.takenIn s.cfg s.cvp r, cap := c,
               cfp := { s.cfp with attention := a } } := by
  unfold State.takeIn Cvp.takenIn Msu.takenIn
  cases s.cvp.inFlight
  · exact ⟨_, _, rfl⟩
  · obtain ⟨a, taken⟩ := s.takeReply_only r
    obtain ⟨c, b, handed⟩ := (s.takeReply r).handOn_only
    refine ⟨c, b, handed.trans ?_⟩
    rw [taken]
    rfl

/-- What the measurement of a strobe makes of CVP and MSU, and what it leaves: PRU but at a phasor instant, the store, the
link, the image and TOP (R2, R5, R18). -/
structure State.Measured (s t : State) (r : Reply) (phasor : Bool) (label : Count) : Prop where
  cvp : t.cvp = s.cvp.measured r phasor
  msu : t.msu = s.msu.measured s.cfg s.cvp r phasor label
  pru : phasor = false → t.pru = s.pru
  cfg : t.cfg = s.cfg
  lkc : t.lkc = s.lkc
  pim : t.pim = s.pim
  top : t.top = s.top

theorem State.Around.cvp {s t : State} (h : State.Around s t) : t.cvp = s.cvp := by rw [h.rest]
theorem State.Around.msu {s t : State} (h : State.Around s t) : t.msu = s.msu := by rw [h.rest]
theorem State.Around.cfg {s t : State} (h : State.Around s t) : t.cfg = s.cfg := by rw [h.rest]
theorem State.Around.lkc {s t : State} (h : State.Around s t) : t.lkc = s.lkc := by rw [h.rest]
theorem State.Around.pim {s t : State} (h : State.Around s t) : t.pim = s.pim := by rw [h.rest]
theorem State.Around.top {s t : State} (h : State.Around s t) : t.top = s.top := by rw [h.rest]

/-- At a phasor instant CVP makes its warm-up test and MSU forms its set; PRU's evaluation reaches neither. -/
theorem State.around_phasorResults (s : State) (label : Count) :
    State.Around ((s.withCvp Cvp.warmUp).withMsu fun m => m.formed s.cfg s.cvp.warmUp.meas label)
      (s.phasorResults label) := by
  unfold State.phasorResults Msu.formed
  dsimp only [State.withCvp_cfg, State.withCvp_msu, State.withCvp_cvp]
  exact (State.effect_pruEvaluate _ _).around

theorem State.measured_measureAt (s : State) (r : Reply) (phasor : Bool) (label : Count) :
    State.Measured s (s.measureAt r phasor label) r phasor label := by
  obtain ⟨c, a, taken⟩ := s.takeIn_only r
  cases phasor
  case false =>
    have plain : s.measureAt r false label = s.takeIn r := rfl
    rw [plain, taken]
    exact ⟨rfl, rfl, fun _ => rfl, rfl, rfl, rfl, rfl⟩
  case true =>
    have results : s.measureAt r true label = (s.takeIn r).phasorResults label := rfl
    have h := (s.takeIn r).around_phasorResults label
    rw [results]
    rw [taken] at h ⊢
    exact ⟨h.cvp, h.msu, nofun, h.cfg, h.lkc, h.pim, h.top⟩

theorem State.takeIn_linesAndDiffs (s : State) (r : Reply) : (s.takeIn r).linesAndDiffs = s.linesAndDiffs := by
  obtain ⟨c, a, taken⟩ := s.takeIn_only r
  rw [taken]
  rfl

theorem State.measureAt_linesAndDiffs (s : State) (r : Reply) (phasor : Bool) (label : Count) :
    (s.measureAt r phasor label).linesAndDiffs = s.linesAndDiffs :=
  State.linesAndDiffs_ite ((State.pruEvaluate_linesAndDiffs ..).trans (s.takeIn_linesAndDiffs r))
    (s.takeIn_linesAndDiffs r)

/-! ### The other tasks of a strobe -/

theorem State.takeNews_linesAndDiffs (s : State) (n : ContactNews) (k : StrobeTask) :
    (s.takeNews n k).linesAndDiffs = s.linesAndDiffs := by
  cases k
  case measure => rfl
  case pair => exact State.linesAndDiffs_ite s.pairEvent_linesAndDiffs rfl
  case extTrip => exact State.linesAndDiffs_ite s.tripRequest_linesAndDiffs rfl
  case extBlock => exact State.linesAndDiffs_ite s.closeDrop_linesAndDiffs rfl
  case extLockout => exact State.linesAndDiffs_ite (s.setLockout_linesAndDiffs _) rfl

theorem State.Consequence.ite {p : Prop} [Decidable p] {s t u : State} (ht : State.Consequence s t)
    (hu : State.Consequence s u) : State.Consequence s (if p then t else u) := by
  split
  · exact ht
  · exact hu

theorem State.cons_takeNews (s : State) (n : ContactNews) (k : StrobeTask) : State.Consequence s (s.takeNews n k) := by
  cases k
  case measure => exact .refl s
  case pair => exact .ite s.cons_pairEvent (.refl s)
  case extTrip => exact .ite s.cons_tripRequest (.refl s)
  case extBlock => exact .ite s.cons_closeDrop (.refl s)
  case extLockout => exact .ite (s.cons_setLockout _) (.refl s)

theorem State.strobePair_linesAndDiffs (s : State) (n : ContactNews) :
    (s.strobePair n).linesAndDiffs = s.linesAndDiffs :=
  State.linesAndDiffs_ite (State.pairEvent_linesAndDiffs _) (s.takeNews_linesAndDiffs n .pair)

theorem State.cons_strobePair (s : State) (n : ContactNews) : State.Consequence s (s.strobePair n) :=
  .ite ((State.Consequence.withBcu ..).trans (State.cons_pairEvent _)) (s.cons_takeNews n .pair)

theorem State.strobeTask_linesAndDiffs (s : State) (r : Reply) (phasor : Bool) (label : Count) (n : ContactNews)
    (k : StrobeTask) : (s.strobeTask r phasor label n k).linesAndDiffs = s.linesAndDiffs := by
  cases k
  case measure => exact s.measureAt_linesAndDiffs r phasor label
  case pair => exact s.strobePair_linesAndDiffs n
  case extTrip => exact s.takeNews_linesAndDiffs n .extTrip
  case extBlock => exact s.takeNews_linesAndDiffs n .extBlock
  case extLockout => exact s.takeNews_linesAndDiffs n .extLockout

/-- Every task of a strobe but the measurement is a consequence of the contacts. -/
theorem State.cons_strobeTask (s : State) (r : Reply) (phasor : Bool) (label : Count) (n : ContactNews) {k : StrobeTask}
    (h : k ≠ .measure) : State.Consequence s (s.strobeTask r phasor label n k) := by
  cases k
  case measure => exact absurd rfl h
  case pair => exact s.cons_strobePair n
  case extTrip => exact s.cons_takeNews n .extTrip
  case extBlock => exact s.cons_takeNews n .extBlock
  case extLockout => exact s.cons_takeNews n .extLockout

/-! ### The tasks of a strobe in an order -/

/-- What `State.Measured` speaks of. -/
def State.measurement (s : State) : Cvp × Msu × Pru × Settings × Lkc × Vector Entry 16 × Topology :=
  (s.cvp, s.msu, s.pru, s.cfg, s.lkc, s.pim, s.top)

theorem State.Consequence.measurement {s t : State} (h : State.Consequence s t) : t.measurement = s.measurement := by
  unfold State.measurement
  rw [h.cvp, h.msu, h.pru, h.cfg, h.lkc, h.pim, h.top]

theorem State.Measured.of_measurement {s s' t t' : State} {r : Reply} {phasor : Bool} {label : Count}
    (h : State.Measured s t r phasor label) (hs : s.measurement = s'.measurement) (ht : t'.measurement = t.measurement) :
    State.Measured s' t' r phasor label := by
  simp only [State.measurement, Prod.mk.injEq] at hs ht
  obtain ⟨hcvp, hmsu, hpru, hcfg, hlkc, hpim, htop⟩ := hs
  obtain ⟨kcvp, kmsu, kpru, kcfg, klkc, kpim, ktop⟩ := ht
  constructor
  case cvp => rw [kcvp, h.cvp, hcvp]
  case msu => rw [kmsu, h.msu, hmsu, hcfg, hcvp]
  case pru => exact fun none => by rw [kpru, h.pru none, hpru]
  case cfg => rw [kcfg, h.cfg, hcfg]
  case lkc => rw [klkc, h.lkc, hlkc]
  case pim => rw [kpim, h.pim, hpim]
  case top => rw [ktop, h.top, htop]

/-- In every order of its tasks a strobe measures once (log 3). -/
theorem State.measured_strobeTasks (s : State) (r : Reply) (phasor : Bool) (label : Count) (n : ContactNews)
    (o : List StrobeTask) :
    State.Measured s ((orderOver allTasks o).foldl (fun u k => u.strobeTask r phasor label n k) s) r phasor label := by
  obtain ⟨u, before, after⟩ := foldl_one (fun u k => State.strobeTask u r phasor label n k) State.measurement .measure
    (orderOver allTasks o) s (orderOver_nodup _ _ (by decide)) ((mem_orderOver ..).mpr (by decide))
    fun k _ hk u => (u.cons_strobeTask r phasor label n hk).measurement
  exact (u.measured_measureAt r phasor label).of_measurement before after

theorem State.strobeTasks_linesAndDiffs (s : State) (r : Reply) (phasor : Bool) (label : Count) (n : ContactNews)
    (o : List StrobeTask) :
    ((orderOver allTasks o).foldl (fun u k => u.strobeTask r phasor label n k) s).linesAndDiffs = s.linesAndDiffs :=
  foldl_part _ State.linesAndDiffs _ s fun k _ u => u.strobeTask_linesAndDiffs r phasor label n k

/-! ### A strobe in RUN -/

/-- The codes at the interface converters after a strobe: those of grid point 2 are the two bias codes (R6). -/
theorem State.sendBias_eq (s : State) (g : Fin 8) :
    s.sendBias g = s.withCvp fun c => c.sending (if g = 2 then biasWord s.gcu.speed else c.speedSent)
      (if g = 2 then biasWord s.gcu.volt else c.voltSent) := by
  unfold State.sendBias
  split <;> rfl

/-- What a strobe in RUN comes to, in every order of its tasks. -/
structure State.Strobed (s t : State) (g : Fin 8) (r : Reply) (l : Levels) : Prop where
  cvp : t.cvp = (s.cvp.measured r ((s.lkc.atStrobe s.cfg g).phasorAt g)).sending
    (if g = 2 then biasWord s.gcu.speed else s.cvp.speedSent) (if g = 2 then biasWord s.gcu.volt else s.cvp.voltSent)
  msu : t.msu = s.msu.measured s.cfg s.cvp r ((s.lkc.atStrobe s.cfg g).phasorAt g) (s.lkc.atStrobe s.cfg g).phasorLabel
  pru : (s.lkc.atStrobe s.cfg g).phasorAt g = false → t.pru = s.pru
  lkc : t.lkc = (s.lkc.atStrobe s.cfg g).madePhasor g
  cfg : t.cfg = s.cfg
  pim : t.pim = s.pim
  top : t.top = s.top
  inputs : t.linesAndDiffs = (strobeLines s.cfg s.bcu.lines l, s.dbu.s1, s.dbu.s2)

theorem State.strobed_strobeAt {s : State} (run : s.cfp.run = .run) (g : Fin 8) (r : Reply) (l : Levels)
    (o : List StrobeTask) : State.Strobed s (s.strobeAt g r l o) g r l := by
  have running : s.running = true := by rw [State.running, run]; rfl
  rw [State.strobeAt, if_pos running]
  dsimp only
  rw [State.sendBias_eq]
  have h := State.measured_strobeTasks (o := o) (r := r) (n := s.strobeNews l)
  constructor
  case cvp => exact (h ..).cvp.trans (Cvp.measured_sending ..)
  case msu => exact (h ..).msu.trans (Msu.measured_sending ..)
  case pru => exact (h ..).pru
  case lkc => exact (h ..).lkc
  case cfg => exact (h ..).cfg
  case pim => exact (h ..).pim
  case top => exact (h ..).top
  case inputs => exact State.strobeTasks_linesAndDiffs ..

theorem exec_sampleStrobe (g : Fin 8) (r : Reply) (l : Levels) (o : List StrobeTask) (s : State) :
    exec (.sampleStrobe g r l o) s = .next (s.strobeAt g r l o) := rfl

/-- PHASOR_INSTANT is the strobe of grid point 0 (R18). -/
theorem exec_phasorInstant (r : Reply) (l : Levels) (o : List StrobeTask) (s : State) :
    exec (.phasorInstant r l o) s = .next (s.strobeAt 0 r l o) := rfl

/-- The line at a place of a vector built line by line. -/
theorem lines_get_ofFn (f : Fin 8 → LineState) (i : Fin 8) : (Vector.ofFn f).get i = f i :=
  Vector.getElem_ofFn i.isLt

theorem strobeLines_get (c : Settings) (ls : Vector LineState 8) (l : Levels) (i : Fin 8) :
    (strobeLines c ls l).get i = (ls.get i).strobe c.debounce.toNat (l.get i) (l.get i != (c.inputs.get i).low) :=
  lines_get_ofFn ..

/-! ### The link at a strobe: the cycle a phasor instant belongs to (R1, R26, R27) -/

/-- Neither the position of a strobe nor its phasor instant moves the number, the count or the state of the link. -/
theorem Lkc.strobe_numbering (l : Lkc) (c : Settings) (g : Fin 8) :
    ((l.atStrobe c g).madePhasor g).number = l.number ∧ ((l.atStrobe c g).madePhasor g).count = l.count := by
  have made : ∀ k : Lkc, (k.madePhasor g).number = k.number ∧ (k.madePhasor g).count = k.count := by
    intro k
    unfold Lkc.madePhasor
    repeat' split
    all_goals exact ⟨rfl, rfl⟩
  have reached : ∀ (k : Lkc) (p : Nat), (k.reach c p).number = k.number ∧ (k.reach c p).count = k.count := by
    intro k p
    unfold Lkc.reach
    dsimp only
    split <;> exact ⟨rfl, rfl⟩
  rw [(made _).1, (made _).2]
  unfold Lkc.atStrobe
  dsimp only
  split <;> exact reached ..

/-- A strobe begins no cycle: cycle 0 has begun, or no strobe came before in the RUN and this one lies ahead of the timer
(R26, log 26). -/
def Lkc.StaysInCycle (l : Lkc) (c : Settings) (g : Fin 8) : Prop :=
  l.preCycle = false ∨ (l.phasorMade = false ∧ l.timer ≤ gridPosition c g)

theorem Lkc.StaysInCycle.atStrobe {l : Lkc} {c : Settings} {g : Fin 8} (h : l.StaysInCycle c g) :
    ∃ b, l.atStrobe c g = { l with timer := gridPosition c g, sending := b } := by
  have stays : (l.preCycle && l.phasorMade && decide (gridPosition c g ≤ l.timer)) = false
      ∧ (l.preCycle && decide (gridPosition c g < l.timer)) = false := by
    rcases h with begun | ⟨first, ahead⟩
    · simp [begun]
    · simp [first, ahead]
  refine ⟨l.sending && decide (slotStart c c.own ≤ gridPosition c g ∧ gridPosition c g < frameEnd c c.own), ?_⟩
  simp [Lkc.atStrobe, Lkc.reach, stays]

/-- Such a strobe is a phasor instant as the link finds it, and of the cycle it finds. -/
theorem Lkc.StaysInCycle.phasor {l : Lkc} {c : Settings} {g : Fin 8} (h : l.StaysInCycle c g) :
    (l.atStrobe c g).phasorAt g = l.phasorAt g ∧ (l.atStrobe c g).phasorLabel = l.phasorLabel := by
  obtain ⟨b, position⟩ := h.atStrobe
  rw [position]
  exact ⟨rfl, rfl⟩

theorem Lkc.StaysInCycle.madePhasor {l : Lkc} {c : Settings} {g : Fin 8} (h : l.StaysInCycle c g) :
    ∃ b, (l.atStrobe c g).madePhasor g = { l.madePhasor g with timer := gridPosition c g, sending := b } := by
  obtain ⟨b, position⟩ := h.atStrobe
  refine ⟨b, ?_⟩
  rw [position]
  unfold Lkc.madePhasor Lkc.phasorAt
  dsimp only
  repeat' split
  all_goals rfl

theorem Lkc.phasorAt_iff (l : Lkc) (g : Fin 8) :
    l.phasorAt g = true ↔ l.phasorLate ≠ 0 ∨ (l.phasorMade = false ∧ (l.phasorOwed = true ∨ g = 0)) := by
  simp [Lkc.phasorAt]

/-- Once cycle 0 has begun an instant is that of the next cycle, less the instants still owed (log 44). -/
theorem Lkc.phasorLabel_of_begun {l : Lkc} (h : l.preCycle = false) :
    l.phasorLabel = l.count + 1 - BitVec.ofNat 32 l.phasorLate := by
  unfold Lkc.phasorLabel
  by_cases late : l.phasorLate = 0
  · simp [late, h]
  · simp [late]

theorem Lkc.phasorLabel_of_none_late {l : Lkc} (h : l.phasorLate = 0) :
    l.phasorLabel = if l.preCycle then l.count else l.count + 1 := by
  rw [Lkc.phasorLabel, if_neg fun late => late h]

theorem Lkc.madePhasor_of_late {l : Lkc} {g : Fin 8} (h : l.phasorLate ≠ 0) :
    l.madePhasor g =
      { l with phasorLate := l.phasorLate - 1, phasorOwed := l.phasorOwed || (g == 0 && !l.phasorMade) } := if_pos h

theorem Lkc.madePhasor_of_next {l : Lkc} {g : Fin 8} (h : l.phasorLate = 0) (k : l.phasorAt g = true) :
    l.madePhasor g = { l with phasorMade := true, phasorOwed := false } := by
  rw [Lkc.madePhasor, if_neg fun late => late h, if_pos k]

theorem Lkc.madePhasor_of_none {l : Lkc} {g : Fin 8} (k : l.phasorAt g = false) : l.madePhasor g = l := by
  have none_late : ¬ l.phasorLate ≠ 0 := fun h => by
    rw [(l.phasorAt_iff g).mpr (.inl h)] at k
    cases k
  rw [Lkc.madePhasor, if_neg none_late, if_neg (by rw [k]; decide)]

/-! ### What a strobe in RUN comes to, block by block -/

section Strobed

variable {s t : State} {g : Fin 8} {r : Reply} {l : Levels}

theorem State.Strobed.cvp_codes (h : State.Strobed s t g r l) :
    (g = 2 → t.cvp.speedSent = BitVec.ofInt 12 s.gcu.speed ∧ t.cvp.voltSent = BitVec.ofInt 12 s.gcu.volt) ∧
    (g ≠ 2 → t.cvp.speedSent = s.cvp.speedSent ∧ t.cvp.voltSent = s.cvp.voltSent) := by
  rw [h.cvp]
  exact ⟨fun at2 => ⟨if_pos at2, if_pos at2⟩, fun other => ⟨if_neg other, if_neg other⟩⟩

/-- A strobe of another grid point than 2 leaves the codes, so CVP is what the measurement makes of it. -/
theorem State.Strobed.cvp_of_other (h : State.Strobed s t g r l) (other : g ≠ 2) :
    t.cvp = s.cvp.measured r ((s.lkc.atStrobe s.cfg g).phasorAt g) := by
  rw [h.cvp, if_neg other, if_neg other]
  exact (Cvp.measured_sending s.cvp s.cvp.speedSent s.cvp.voltSent r _).symm

/-- Where a strobe came before, exactly its set is taken in (R2, R8). -/
theorem State.Strobed.takes_set (h : State.Strobed s t g r l) (before : s.cvp.inFlight = true) :
    (t.cvp.sets = s.cvp.sets + 1 ∧ t.cvp.lastGood = (s.cvp.take r).lastGood ∧
      t.cvp.missing = (s.cvp.take r).missing ∧ t.cvp.bad = (s.cvp.take r).bad ∧ t.cvp.held = (s.cvp.take r).held) ∧
    t.msu.index = s.msu.index + 1 ∧
    t.msu.window = s.msu.window.set s.msu.index.val (trimSet s.cfg (s.cvp.take r).lastGood) s.msu.index.isLt := by
  have cvp : s.cvp.takenIn r = { s.cvp.take r with sets := s.cvp.sets + 1 } := if_pos before
  have msu : s.msu.takenIn s.cfg s.cvp r = s.msu.takeSet (s.cvp.sets + 1) (trimSet s.cfg (s.cvp.take r).lastGood) :=
    if_pos before
  rw [h.cvp, h.msu, Cvp.measured_only, cvp, (Msu.measured_window ..).1, (Msu.measured_window ..).2, msu]
  exact ⟨⟨rfl, rfl, rfl, rfl, rfl⟩, rfl, rfl⟩

/-- The first strobe of a RUN takes in no set (R2, log 26). -/
theorem State.Strobed.takes_none (h : State.Strobed s t g r l) (first : s.cvp.inFlight = false) :
    (t.cvp.inFlight = true ∧ t.cvp.sets = s.cvp.sets ∧ t.cvp.lastGood = s.cvp.lastGood) ∧
    t.msu.index = s.msu.index ∧ t.msu.window = s.msu.window := by
  have none : ¬ s.cvp.inFlight = true := by rw [first]; decide
  have cvp : s.cvp.takenIn r = { s.cvp with inFlight := true } := if_neg none
  have msu : s.msu.takenIn s.cfg s.cvp r = { s.msu with bus := s.msu.bus.tick, line := s.msu.line.tick } := if_neg none
  rw [h.cvp, h.msu, Cvp.measured_only, cvp, (Msu.measured_window ..).1, (Msu.measured_window ..).2, msu]
  exact ⟨⟨rfl, rfl, rfl⟩, rfl, rfl⟩

theorem State.Strobed.lines_and_diffs (h : State.Strobed s t g r l) :
    t.bcu.lines = strobeLines s.cfg s.bcu.lines l ∧ t.dbu.s1 = s.dbu.s1 ∧ t.dbu.s2 = s.dbu.s2 := by
  simpa only [State.linesAndDiffs, Prod.mk.injEq] using h.inputs

/-- The warm-up test reads neither the running strobe count nor whether a reply is awaited. -/
theorem Cvp.takenIn_warmUp_meas (c : Cvp) (r : Reply) :
    (c.takenIn r).warmUp.meas = (if c.inFlight then c.take r else c).warmUp.meas := by
  unfold Cvp.takenIn
  cases c.inFlight <;> exact Cvp.warmUp_meas_congr rfl rfl

/-- A phasor instant forms one result set, from the windows and lists after its own set, and keeps the one before (R18). -/
theorem State.Strobed.forms_set (h : State.Strobed s t g r l) (stays : s.lkc.StaysInCycle s.cfg g)
    (due : s.lkc.phasorAt g = true) :
    t.msu.older = s.msu.newest ∧ t.msu.newest = formSet s.cfg t.msu t.cvp.meas s.lkc.phasorLabel ∧
    t.cvp.meas = (if s.cvp.inFlight then s.cvp.take r else s.cvp).warmUp.meas := by
  rw [← Cvp.takenIn_warmUp_meas, h.cvp, h.msu, stays.phasor.1, stays.phasor.2, due]
  exact ⟨(Msu.takenIn_sets ..).1, rfl, rfl⟩

/-- A strobe that is no phasor instant forms none, and PRU stands. -/
theorem State.Strobed.forms_none (h : State.Strobed s t g r l) (stays : s.lkc.StaysInCycle s.cfg g)
    (undue : s.lkc.phasorAt g = false) :
    t.msu.older = s.msu.older ∧ t.msu.newest = s.msu.newest ∧ t.pru = s.pru := by
  have plain := stays.phasor.1.trans undue
  obtain ⟨newest, older⟩ := Msu.takenIn_sets s.msu s.cfg s.cvp r
  rw [h.pru plain, h.msu, plain]
  exact ⟨older, newest, rfl⟩

/-- The marks of the phasor instants after the strobe (R27, log 44). -/
theorem State.Strobed.marks (h : State.Strobed s t g r l) (stays : s.lkc.StaysInCycle s.cfg g) :
    ∃ b, t.lkc = { s.lkc.madePhasor g with timer := gridPosition s.cfg g, sending := b } := by
  rw [h.lkc]
  exact stays.madePhasor

/-- At a phasor instant the earliest one owed is made, and the next cycle's stays owed where one made late takes its place
(R27, log 44). -/
theorem State.Strobed.marks_of_due (h : State.Strobed s t g r l) (stays : s.lkc.StaysInCycle s.cfg g)
    (due : s.lkc.phasorAt g = true) :
    t.lkc.phasorLate = s.lkc.phasorLate - 1 ∧
    (s.lkc.phasorLate = 0 → t.lkc.phasorMade = true ∧ t.lkc.phasorOwed = false) ∧
    (s.lkc.phasorLate ≠ 0 → t.lkc.phasorMade = s.lkc.phasorMade ∧
      (t.lkc.phasorOwed = true ↔ s.lkc.phasorOwed = true ∨ (g = 0 ∧ s.lkc.phasorMade = false))) := by
  obtain ⟨b, marks⟩ := h.marks stays
  rw [marks]
  by_cases late : s.lkc.phasorLate = 0
  · rw [Lkc.madePhasor_of_next late due]
    exact ⟨by simp [late], fun _ => ⟨rfl, rfl⟩, fun k => absurd late k⟩
  · rw [Lkc.madePhasor_of_late late]
    exact ⟨rfl, fun k => absurd k late, fun _ => ⟨rfl, by simp⟩⟩

end Strobed

/-- In CONFIG there is no strobe: the pins stand at their levels (log 14). -/
theorem exec_sampleStrobe_of_config {s : State} (config : s.cfp.run = .config) (g : Fin 8) (r : Reply) (l : Levels)
    (o : List StrobeTask) : exec (.sampleStrobe g r l o) s = .next (s.setPins l) := by
  have stopped : ¬ s.running = true := by rw [State.running, config]; decide
  rw [exec_sampleStrobe, State.strobeAt, if_neg stopped]

/-- Settles O21, clause by clause from `State.Strobed`, which holds in every order of the tasks because the measurement is
made once and no other task reaches what it reads and writes. -/
theorem strobeTakesInOneSet : Obligations.StrobeTakesInOneSet := by
  refine ⟨fun g r l o s run => ?run, fun g r l o s config => ?config, fun g r l o s run begun => ⟨fun due => ?due,
    fun undue => ?undue⟩, fun r l o s => ⟨rfl, fun run position none_late not_made => ?phasorInstant⟩⟩
  case run =>
    have h := State.strobed_strobeAt run g r l o
    obtain ⟨lines, s1, s2⟩ := h.lines_and_diffs
    obtain ⟨at2, other⟩ := h.cvp_codes
    obtain ⟨number, count⟩ := s.lkc.strobe_numbering s.cfg g
    obtain ⟨link, -⟩ := s.lkc.strobe_counts s.cfg g
    refine ⟨_, exec_sampleStrobe g r l o s, h.takes_set, h.takes_none, fun i => ?_, at2, other,
      ⟨h.cfg, h.pim, h.top, s1, s2⟩, ?_⟩
    · rw [lines, strobeLines_get]
    · rw [h.lkc]
      exact ⟨number, count, link⟩
  case config => exact ⟨_, exec_sampleStrobe_of_config config g r l o, rfl, fun i => lines_get_ofFn ..⟩
  case due =>
    have h := State.strobed_strobeAt run g r l o
    have due := (s.lkc.phasorAt_iff g).mpr due
    obtain ⟨older, newest, meas⟩ := h.forms_set (.inl begun) due
    rw [Lkc.phasorLabel_of_begun begun] at newest
    exact ⟨_, exec_sampleStrobe g r l o s, older, newest, meas, h.marks_of_due (.inl begun) due⟩
  case undue =>
    have h := State.strobed_strobeAt run g r l o
    have undue : s.lkc.phasorAt g = false := by
      obtain ⟨none_late, made | ⟨not_owed, other⟩⟩ := undue
      · simp [Lkc.phasorAt, none_late, made]
      · simp [Lkc.phasorAt, none_late, not_owed, other]
    obtain ⟨older, newest, pru⟩ := h.forms_none (.inl begun) undue
    obtain ⟨b, marks⟩ := h.marks (.inl begun)
    refine ⟨_, exec_sampleStrobe g r l o s, older, newest, pru, ?_⟩
    rw [marks, Lkc.madePhasor_of_none undue]
  case phasorInstant =>
    have h := State.strobed_strobeAt run 0 r l o
    have stays : s.lkc.StaysInCycle s.cfg 0 := position.imp_right fun ahead => ⟨not_made, ahead⟩
    have due : s.lkc.phasorAt 0 = true := (s.lkc.phasorAt_iff 0).mpr (.inr ⟨not_made, .inr rfl⟩)
    obtain ⟨older, newest, -⟩ := h.forms_set stays due
    obtain ⟨b, marks⟩ := h.marks stays
    have cvp := h.cvp_of_other (by decide)
    rw [stays.phasor.1, due] at cvp
    rw [Lkc.phasorLabel_of_none_late none_late] at newest
    rw [Lkc.madePhasor_of_next none_late due] at marks
    refine ⟨_, exec_phasorInstant r l o s, older, newest, cvp, ?_⟩
    rw [marks]
    exact ⟨rfl, rfl, h.cfg, h.pim, h.top, rfl⟩

end Sys2Proof.Machine
end

section
/-! PROOFS. A frame in a peer's slot, judged by the reception checks and taken into the image (R28, R33 to R40, R46, R48). -/

namespace Sys2Proof.Machine

/-! ### The entries of the image -/

/-- A change of an entry, read back from it. -/
theorem State.withEntry_get_self (s : State) (k : Station) (f : Entry → Entry) :
    (s.withEntry k f).pim.get k = f (s.pim.get k) := by
  rw [State.withEntry_pim]
  exact Vector.getElem_set_self k.isLt

/-- A change of an entry reaches no other. -/
theorem State.withEntry_get_of_ne (s : State) {j k : Station} (h : j ≠ k) (f : Entry → Entry) :
    (s.withEntry k f).pim.get j = s.pim.get j := by
  rw [State.withEntry_pim]
  exact Vector.getElem_set_ne k.isLt j.isLt fun e => h (Fin.ext e.symm)

/-! ### The moves of the cycle timer: no flag and no counter of the checks -/

/-- The link's state, the cycle count, the five exception flags (R46) and the counters of the reception checks are as they
were. -/
structure Lkc.SameMarks (l m : Lkc) : Prop where
  link : m.link = l.link := by rfl
  count : m.count = l.count := by rfl
  crcError : m.crcError = l.crcError := by rfl
  slotMismatch : m.slotMismatch = l.slotMismatch := by rfl
  late : m.late = l.late := by rfl
  duplicateSeen : m.duplicateSeen = l.duplicateSeen := by rfl
  referenceMissing : m.referenceMissing = l.referenceMissing := by rfl
  mismatches : m.mismatches = l.mismatches := by rfl
  lates : m.lates = l.lates := by rfl

theorem Lkc.SameMarks.trans {l m n : Lkc} (h : Lkc.SameMarks l m) (k : Lkc.SameMarks m n) : Lkc.SameMarks l n :=
  ⟨k.link.trans h.link, k.count.trans h.count, k.crcError.trans h.crcError, k.slotMismatch.trans h.slotMismatch,
    k.late.trans h.late, k.duplicateSeen.trans h.duplicateSeen, k.referenceMissing.trans h.referenceMissing,
    k.mismatches.trans h.mismatches, k.lates.trans h.lates⟩

/-- Reaching an event leaves the marks and the cycle number, whether or not cycle 0 begins with it (log 26). -/
theorem Lkc.reach_marks (l : Lkc) (c : Settings) (pos : Nat) :
    Lkc.SameMarks l (l.reach c pos) ∧ (l.reach c pos).number = l.number := by
  unfold Lkc.reach
  dsimp only
  split
  · exact ⟨{}, rfl⟩
  · exact ⟨{}, rfl⟩

theorem Lkc.move_marks (l : Lkc) (c : Settings) (old new : Nat) :
    Lkc.SameMarks l (l.move c old new) ∧ (l.move c old new).number = l.number := by
  unfold Lkc.move
  dsimp only
  split
  · exact ⟨{}, rfl⟩
  · exact ⟨{}, rfl⟩

theorem Lkc.shift_marks (l : Lkc) (c : Settings) (k : Station) (start : Nat) :
    Lkc.SameMarks l (l.shift c k start) ∧ (l.shift c k start).number = l.number := by
  obtain ⟨marks, number⟩ := l.move_marks c (frameArrival c start) (frameEnd c k)
  exact ⟨marks.trans {}, number⟩

/-- A relock takes the number of the frame (R40). -/
theorem Lkc.relock_marks (l : Lkc) (c : Settings) (k : Station) (start : Nat) (number : BitVec 8) :
    Lkc.SameMarks l (l.relock c k start number) ∧ (l.relock c k start number).number = number :=
  ⟨(l.move_marks c (frameArrival c start) (frameEnd c k)).1.trans {}, rfl⟩

/-- A part of the reception that changes the link alone, and none of its marks. -/
structure State.Timed (s t : State) : Prop where
  rest : t = { s with lkc := t.lkc }
  marks : Lkc.SameMarks s.lkc t.lkc

theorem State.Timed.refl (s : State) : State.Timed s s := ⟨rfl, {}⟩

theorem State.Timed.trans {s t u : State} (h : State.Timed s t) (k : State.Timed t u) : State.Timed s u :=
  ⟨by rw [k.rest, h.rest], h.marks.trans k.marks⟩

theorem State.Timed.withLkc (s : State) {f : Lkc → Lkc} (h : Lkc.SameMarks s.lkc (f s.lkc)) :
    State.Timed s (s.withLkc f) := ⟨rfl, h⟩

theorem State.Timed.pim {s t : State} (h : State.Timed s t) : t.pim = s.pim := by rw [h.rest]
theorem State.Timed.cfg {s t : State} (h : State.Timed s t) : t.cfg = s.cfg := by rw [h.rest]

theorem State.timed_hear (s : State) (k : Station) : State.Timed s (s.hear k) ∧ (s.hear k).lkc.number = s.lkc.number := by
  unfold State.hear
  split
  · exact ⟨.withLkc s {}, rfl⟩
  · exact ⟨.refl s, rfl⟩

/-- The timing of a valid record: it leaves the number, or takes the record's (R39, R40). -/
theorem State.timed_takeTiming (s : State) (r : BayRecord) (start : Nat) :
    State.Timed s (s.takeTiming r start) ∧
      ((s.takeTiming r start).lkc.number = s.lkc.number ∨ (s.takeTiming r start).lkc.number = r.cycle) := by
  unfold State.takeTiming
  split
  · split
    · obtain ⟨marks, number⟩ := s.lkc.shift_marks s.cfg r.station start
      exact ⟨.withLkc s marks, .inl number⟩
    · obtain ⟨marks, number⟩ := s.lkc.relock_marks s.cfg r.station start r.cycle
      exact ⟨.withLkc s marks, .inr number⟩
  · exact ⟨.refl s, .inl rfl⟩

/-- A slot of the cycle is reached and yields its frame (R28). -/
def State.inSlot (s : State) (k : Station) (f : Frame) : State :=
  s.withLkc fun l => (l.reach s.cfg (slotArrival s.cfg k f)).yield s.cfg k

theorem State.timed_inSlot (s : State) (k : Station) (f : Frame) :
    State.Timed s (s.inSlot k f) ∧ (s.inSlot k f).lkc.number = s.lkc.number := by
  obtain ⟨marks, number⟩ := s.lkc.reach_marks s.cfg (slotArrival s.cfg k f)
  exact ⟨.withLkc s (marks.trans {}), number⟩

/-! ### What the reception checks reach -/

/-- A frame of slot k reaches the link, the entry of station k and the pending bits alone, and neither the cycle count nor
the link's state. -/
structure State.Received (k : Station) (s t : State) : Prop where
  rest : t = { s with lkc := t.lkc, pim := t.pim, cfp := { s.cfp with attention := t.cfp.attention } }
  others : ∀ j : Station, j ≠ k → t.pim.get j = s.pim.get j
  count : t.lkc.count = s.lkc.count
  link : t.lkc.link = s.lkc.link

theorem State.Received.trans {k : Station} {s t u : State} (h : State.Received k s t) (i : State.Received k t u) :
    State.Received k s u :=
  ⟨by rw [i.rest, h.rest], fun j n => (i.others j n).trans (h.others j n), i.count.trans h.count, i.link.trans h.link⟩

theorem State.Timed.received {s t : State} (h : State.Timed s t) (k : Station) : State.Received k s t :=
  ⟨by rw [h.rest], fun _ _ => by rw [h.pim], h.marks.count, h.marks.link⟩

theorem State.received_withEntry (s : State) (k : Station) (f : Entry → Entry) : State.Received k s (s.withEntry k f) :=
  ⟨rfl, fun _ n => s.withEntry_get_of_ne n f, rfl, rfl⟩

theorem State.received_countCrc (s : State) (k : Station) : State.Received k s (s.countCrc k) := s.received_withEntry k _

theorem State.received_linkAlarm (s : State) (k : Station) (f : Lkc → Lkc) (count : (f s.lkc).count = s.lkc.count := by rfl)
    (link : (f s.lkc).link = s.lkc.link := by rfl) : State.Received k s (s.linkAlarm f) :=
  ⟨rfl, fun _ _ => rfl, count, link⟩

theorem State.linkAlarm_pendingBit (s : State) (f : Lkc → Lkc) : (s.linkAlarm f).pendingBit .linkAlarm = true :=
  State.raise_pendingBit ..

/-! ### The four checks, each with what it leaves (R33 to R36) -/

/-- Check 1 fails (R33): the flag with LINK_ALARM, and the CRC counter of the slot's entry. -/
theorem State.crcFailed_some (s : State) (k : Station) :
    State.Received k s (s.crcFailed (some k)) ∧ (s.crcFailed (some k)).lkc.crcError = true ∧
      (s.crcFailed (some k)).pendingBit .linkAlarm = true ∧
      (s.crcFailed (some k)).pim.get k = { s.pim.get k with crcErrors := min 255 ((s.pim.get k).crcErrors + 1) } :=
  ⟨(s.received_linkAlarm k fun l => { l with crcError := true }).trans (State.received_countCrc _ k), rfl,
    s.linkAlarm_pendingBit _, State.withEntry_get_self ..⟩

/-- Check 2 fails (R34): a mismatch with LINK_ALARM, and no entry; a relock at most moves the timer. -/
theorem State.checkTwoFails_only (s : State) (k : Station) (r : BayRecord) (start : Nat) :
    State.Received k s (s.checkTwoFails r start) ∧ (s.checkTwoFails r start).lkc.slotMismatch = true ∧
      (s.checkTwoFails r start).pim = s.pim ∧
      (s.checkTwoFails r start).lkc.mismatches = min 255 (s.lkc.mismatches + 1) ∧
      (s.checkTwoFails r start).pendingBit .linkAlarm = true := by
  have counted : State.Received k s s.slotMismatched := s.received_linkAlarm k _
  have pending : s.slotMismatched.pendingBit .linkAlarm = true := s.linkAlarm_pendingBit _
  unfold State.checkTwoFails
  dsimp only
  split
  · have marks := (s.slotMismatched.lkc.relock_marks s.cfg r.station start r.cycle).1
    exact ⟨counted.trans ((State.Timed.withLkc _ marks).received k), marks.slotMismatch, rfl, marks.mismatches, pending⟩
  · exact ⟨counted, rfl, rfl, rfl, pending⟩

/-- Checks 1 to 3 passed: the heard list and the timing (R38 to R40). -/
theorem State.timed_heardTiming (s : State) (r : BayRecord) (start : Nat) :
    State.Timed s ((s.hear r.station).takeTiming r start) ∧
      (((s.hear r.station).takeTiming r start).lkc.number = s.lkc.number ∨
        ((s.hear r.station).takeTiming r start).lkc.number = r.cycle) := by
  obtain ⟨heard, number⟩ := s.timed_hear r.station
  obtain ⟨timed, taken⟩ := (s.hear r.station).timed_takeTiming r start
  rw [number] at taken
  exact ⟨heard.trans timed, taken⟩

/-- Check 4 fails (R36): LATE with its counter and LINK_ALARM, and no entry. -/
theorem State.validRecord_late (s : State) (r : BayRecord) (start : Nat) (late : r.cycle ≠ s.lkc.number) :
    State.Received r.station s (s.validRecord r start) ∧ (s.validRecord r start).lkc.late = true ∧
      (s.validRecord r start).lkc.lates = min 255 (s.lkc.lates + 1) ∧ (s.validRecord r start).pim = s.pim ∧
      (s.validRecord r start).pendingBit .linkAlarm = true := by
  have timed := (s.timed_heardTiming r start).1
  unfold State.validRecord
  rw [if_neg late]
  exact ⟨(timed.received _).trans (State.received_linkAlarm ..), rfl,
    congrArg (satInc 255) timed.marks.lates, timed.pim, State.linkAlarm_pendingBit ..⟩

/-- Every check passed (R48): the entry takes the record with the cycle count, and no flag or counter moves. -/
theorem State.validRecord_accepted (s : State) (r : BayRecord) (start : Nat) (current : r.cycle = s.lkc.number) :
    State.Received r.station s (s.validRecord r start) ∧
      s.validRecord r start = { s with lkc := (s.validRecord r start).lkc, pim := (s.validRecord r start).pim } ∧
      Lkc.SameMarks s.lkc (s.validRecord r start).lkc ∧ (s.validRecord r start).lkc.number = s.lkc.number ∧
      (s.validRecord r start).pim.get r.station =
        { s.pim.get r.station with record := some r, accepted := s.lkc.count } := by
  obtain ⟨timed, taken⟩ := s.timed_heardTiming r start
  unfold State.validRecord
  rw [if_pos current]
  generalize (s.hear r.station).takeTiming r start = t at timed taken ⊢
  have number : t.lkc.number = s.lkc.number := taken.elim id fun e => e.trans current
  refine ⟨(timed.received _).trans (State.received_withEntry ..), ?_, timed.marks, number, ?_⟩
  · rw [State.accept, State.withEntry, timed.rest]
  · rw [State.accept, State.withEntry_get_self, timed.pim, timed.marks.count]

/-! ### RECORD_ARRIVAL while locked (R28) -/

theorem exec_recordArrival_locked {s : State} (run : s.cfp.run = .run) (on : s.lkc.link ≠ .off)
    (locked : s.lkc.unlocked = false) (f : Frame) : exec (.recordArrival f) s = .next (s.arrivalLocked f) := by
  have receives : s.receives = true := by simp [State.receives, State.running, run, on]
  show Host.Outcome.next (s.recordArrival f) = _
  rw [State.recordArrival, if_pos receives, if_neg (by simp [locked])]

/-- A slot of the cycle yields one frame (R28). -/
theorem State.arrivalLocked_of_heard {s : State} {f : Frame} {k : Station} (slot : slotOf s.cfg f.start = some k)
    (heard : s.lkc.slotsHeard.getLsbD k.val = true) : s.arrivalLocked f = s := by
  rw [State.arrivalLocked, slot]
  exact if_pos heard

/-- The first frame in a peer's slot goes to the reception checks (R28, R33). -/
theorem State.arrivalLocked_of_peer {s : State} {f : Frame} {k : Station} (slot : slotOf s.cfg f.start = some k)
    (peer : k ≠ s.cfg.own) (first : s.lkc.slotsHeard.getLsbD k.val = false) :
    s.arrivalLocked f = (s.inSlot k f).checkFrame k (slotRecord s.cfg k f) f.start := by
  have fresh : ¬StationSet.has s.lkc.slotsHeard k = true := ne_true_of_eq_false first
  rw [State.arrivalLocked, slot]
  exact (if_neg fresh).trans (if_neg peer)

/-- A frame not taken whole in its slot, or one that holds no record, passes no record on (R28, R33). -/
theorem slotRecord_of_failed {c : Settings} {k : Station} {f : Frame}
    (h : f.tail ≠ 0x7E#8 ∨ slotEnd c k < f.start + 15744 ∨ receivedRecord f.bytes = none) : slotRecord c k f = none := by
  unfold slotRecord
  split
  · rename_i whole
    obtain ⟨tail, fits⟩ := whole
    exact (h.resolve_left fun bad => bad tail).resolve_left (Nat.not_lt.mpr fits)
  · rfl

theorem slotRecord_of_whole {c : Settings} {k : Station} {f : Frame} (tail : f.tail = 0x7E#8)
    (fits : f.start + 15744 ≤ slotEnd c k) : slotRecord c k f = receivedRecord f.bytes := if_pos ⟨tail, fits⟩

/-- The four checks of a record in slot k, by the first that fails. -/
theorem State.checkFrame_of_other (s : State) {k : Station} {r : BayRecord} (other : r.station ≠ k) (start : Nat) :
    s.checkFrame k (some r) start = s.checkTwoFails r start := if_pos other

theorem State.checkFrame_of_masked (s : State) {r : BayRecord} (member : s.cfg.peerMask.getLsbD r.station.val = true)
    (start : Nat) : s.checkFrame r.station (some r) start = s.validRecord r start :=
  (if_neg (not_not_intro rfl)).trans (if_pos member)

theorem State.checkFrame_of_unmasked (s : State) {r : BayRecord} (member : s.cfg.peerMask.getLsbD r.station.val = false)
    (start : Nat) : s.checkFrame r.station (some r) start = s :=
  (if_neg (not_not_intro rfl)).trans (if_neg (ne_true_of_eq_false member))

/-- Whatever check fails or passes, a frame of slot k reaches no other entry. -/
theorem State.received_checkFrame (s : State) (k : Station) (r : Option BayRecord) (start : Nat) :
    State.Received k s (s.checkFrame k r start) := by
  cases r with
  | none => exact (s.crcFailed_some k).1
  | some r =>
    by_cases other : r.station = k
    case neg => rw [s.checkFrame_of_other other]; exact (s.checkTwoFails_only k r start).1
    subst other
    cases member : s.cfg.peerMask.getLsbD r.station.val
    case false => rw [s.checkFrame_of_unmasked member]; exact (State.Timed.refl s).received _
    rw [s.checkFrame_of_masked member]
    by_cases current : r.cycle = s.lkc.number
    · exact (s.validRecord_accepted r start current).1
    · exact (s.validRecord_late r start current).1

/-- Settles O50, by the first check that fails; reaching the slot beforehand touches no flag, counter, number or count. -/
theorem validRecordEntersTheImage : Obligations.ValidRecordEntersTheImage := by
  refine ⟨fun f k s run on locked slot peer first => ?_, fun f k s run on locked slot heard => ?_⟩
  case refine_2 => rw [exec_recordArrival_locked run on locked, State.arrivalLocked_of_heard slot heard]
  refine ⟨_, exec_recordArrival_locked run on locked f, ?_⟩
  rw [State.arrivalLocked_of_peer slot peer first]
  obtain ⟨timed, number⟩ := s.timed_inSlot k f
  generalize s.inSlot k f = u at timed number ⊢
  obtain ⟨rest, others, count, link⟩ := (timed.received k).trans (u.received_checkFrame k (slotRecord s.cfg k f) f.start)
  refine ⟨rest, others, count, link, fun failed => ?_, fun r tail fits record => ⟨fun other => ?_, ?_, ?_⟩⟩
  · obtain ⟨-, flag, pending, counter⟩ := u.crcFailed_some k
    rw [slotRecord_of_failed failed]
    exact ⟨flag, pending, by rw [← timed.pim]; exact counter⟩
  · obtain ⟨-, flag, pim, counter, pending⟩ := u.checkTwoFails_only k r f.start
    rw [slotRecord_of_whole tail fits, record, u.checkFrame_of_other other]
    exact ⟨flag, pim.trans timed.pim, by rw [counter, timed.marks.mismatches], pending⟩
  · rintro rfl member late
    rw [← timed.cfg] at member
    obtain ⟨-, flag, counter, pim, pending⟩ := u.validRecord_late r f.start (by rwa [number])
    rw [slotRecord_of_whole tail fits, record, u.checkFrame_of_masked member]
    exact ⟨flag, by rw [counter, timed.marks.lates], pim.trans timed.pim, pending⟩
  · rintro rfl taken
    rw [slotRecord_of_whole tail fits, record, ← timed.cfg]
    rw [← timed.cfg] at taken
    cases member : u.cfg.peerMask.getLsbD r.station.val
    case false =>
      rw [u.checkFrame_of_unmasked member]
      obtain ⟨-, -, crc, mismatch, late, duplicate, reference, mismatches, lates⟩ := timed.marks
      exact ⟨by rw [timed.rest], number, ⟨crc, mismatch, late, duplicate, reference, mismatches, lates⟩, by rw [timed.pim]; rfl⟩
    case true =>
      have current : r.cycle = u.lkc.number := (taken.resolve_left (ne_false_of_eq_true member)).trans number.symm
      obtain ⟨-, only, marks, same, entry⟩ := u.validRecord_accepted r f.start current
      rw [u.checkFrame_of_masked member]
      obtain ⟨-, -, crc, mismatch, late, duplicate, reference, mismatches, lates⟩ := timed.marks.trans marks
      refine ⟨?_, same.trans number, ⟨crc, mismatch, late, duplicate, reference, mismatches, lates⟩, ?_⟩
      · rw [only, timed.rest]
      · rw [entry, timed.pim, timed.marks.count]; rfl

end Sys2Proof.Machine
end

section
/-! PROOFS. OWN_SLOT and the own record (R27, R43 to R45, R49). -/

namespace Sys2Proof.Machine

/-! ### OWN_SLOT (R43) -/

/-- The own slot is reached: the timer stands at its start. -/
def State.atOwnSlot (s : State) : State := s.withLkc fun l => { l with timer := slotStart s.cfg s.cfg.own }

/-- In a cycle that has begun, reaching the own slot moves the timer alone: the own frame, if it is being sent, still is. -/
theorem Lkc.reach_ownSlot {l : Lkc} (begun : l.preCycle = false) (c : Settings) :
    l.reach c (slotStart c c.own) = { l with timer := slotStart c c.own } := by
  have window : slotStart c c.own ≤ slotStart c c.own ∧ slotStart c c.own < frameEnd c c.own :=
    ⟨Nat.le_refl _, Nat.lt_add_right _ (Nat.lt_add_of_pos_right (by decide))⟩
  simp [Lkc.reach, begun, window]

/-- Before cycle 0 an event behind the timer says that cycle 0 has begun (log 26). -/
theorem Lkc.reach_preCycle {l : Lkc} (before : l.preCycle = true) (c : Settings) (pos : Nat) :
    (l.reach c pos).preCycle = decide (l.timer ≤ pos) := by
  unfold Lkc.reach
  dsimp only
  rw [before, Bool.true_and]
  by_cases behind : pos < l.timer
  · rw [if_pos (decide_eq_true behind)]; exact (decide_eq_false (Nat.not_le.mpr behind)).symm
  · rw [if_neg (by simpa using behind)]; exact before.trans (decide_eq_true (Nat.not_lt.mp behind)).symm

theorem exec_ownSlot {s : State} (run : s.cfp.run = .run) :
    exec .ownSlot s = .next
      (if (s.lkc.reach s.cfg (slotStart s.cfg s.cfg.own)).link = .publish ∧
          (s.lkc.reach s.cfg (slotStart s.cfg s.cfg.own)).sent = false ∧
          (s.lkc.reach s.cfg (slotStart s.cfg s.cfg.own)).ownSkipped = false then
        (s.withLkc fun l => l.reach s.cfg (slotStart s.cfg s.cfg.own)).publish
      else s.withLkc fun l => l.reach s.cfg (slotStart s.cfg s.cfg.own)) := by
  have running : s.running = true := by rw [State.running, run]; rfl
  show execOwnSlot s = _
  rw [execOwnSlot, if_pos running]
  rfl

/-- OWN_SLOT in a cycle that has begun: the record goes out in PUBLISH, once. -/
theorem exec_ownSlot_begun {s : State} (run : s.cfp.run = .run) (begun : s.lkc.preCycle = false) :
    exec .ownSlot s = .next
      (if s.lkc.link = .publish ∧ s.lkc.sent = false ∧ s.lkc.ownSkipped = false then s.atOwnSlot.publish
        else s.atOwnSlot) := by
  have reached : (s.withLkc fun l => l.reach s.cfg (slotStart s.cfg s.cfg.own)) = s.atOwnSlot :=
    congrArg (fun l => s.withLkc fun _ => l) (Lkc.reach_ownSlot begun s.cfg)
  rw [exec_ownSlot run, reached, Lkc.reach_ownSlot begun]

/-- The record assembled at the own slot is that of the state, which does not read the timer; the own entry takes it (R49). -/
theorem State.atOwnSlot_publish_pim (s : State) : s.atOwnSlot.publish.pim = (s.accept s.cfg.own s.ownRecord).pim := rfl

theorem State.atOwnSlot_publish (s : State) : s.atOwnSlot.publish = { s with
    lkc := { s.lkc with
      timer := slotStart s.cfg s.cfg.own, sent := true, sending := true, txCut := false,
      txFrame := encodeRecord s.ownRecord },
    pim := s.atOwnSlot.publish.pim, clu := { s.clu with published := s.clu.claim, spent := false, failed := false } } := rfl

/-! ### What the own record shows (R44, R45) -/

theorem Settings.isRole_iff (c : Settings) (r : Role) : c.isRole r = true ↔ c.role = some r := beq_iff_eq

/-- The role a record shows is that of its role part, which the own role chooses (R45). -/
theorem State.ownRecord_role {s : State} {r : Role} (h : s.cfg.role = some r) : s.ownRecord.role = r := by
  show BayRecord.role { s.ownRecord with part := s.ownPart } = r
  unfold State.ownPart
  rw [h]
  cases r <;> rfl

theorem State.ownRecord_sect (s : State) :
    s.ownRecord.sect = if s.cfg.role = some .tie then none else s.cfg.sec := by
  show (if s.cfg.isRole .tie = true then none else s.cfg.sec) = _
  simp only [Settings.isRole_iff]

/-- The hold and the three flags are an incomer's (R44). -/
theorem State.ownRecord_flags_of_incomer {s : State} (h : s.cfg.role = some .incomer) :
    s.ownRecord.hold = s.tru.hold ∧ s.ownRecord.startDemand = s.tru.startDemand ∧
      s.ownRecord.openDemand = s.tru.openDemand ∧ s.ownRecord.parallelTimeout = s.tru.parallelTimeout := by
  simp [State.ownRecord, Settings.isRole, h]

theorem State.ownRecord_flags_of_other {s : State} (h : s.cfg.role ≠ some .incomer) :
    s.ownRecord.hold = false ∧ s.ownRecord.startDemand = false ∧
      s.ownRecord.openDemand = false ∧ s.ownRecord.parallelTimeout = false := by
  simp [State.ownRecord, Settings.isRole, h]

theorem State.ownRecord_transfer (s : State) : s.ownRecord.transfer =
    if s.cfg.role = some .incomer ∨ s.cfg.role = some .tie then transferCode s.tru.state else .none := by
  show (if (s.cfg.isRole .incomer || s.cfg.isRole .tie) = true then _ else _) = _
  simp only [Bool.or_eq_true, Settings.isRole_iff]

/-- The claim published, by what CLU holds (R44). -/
theorem State.ownRecord_no_claim {s : State} (h : s.clu.claim = none) : s.ownRecord.claim = .none :=
  congrArg claimTypeOf h

theorem State.ownRecord_claim {s : State} {c : Claim} (h : s.clu.claim = some c) :
    s.ownRecord.claim = (if c.restore then .restore else .deadBus) ∧ s.ownRecord.claimTarget = c.target ∧
      s.ownRecord.claimRank = if c.restore then 0 else c.rank := by
  simp [State.ownRecord, claimTypeOf, h]

/-! The role part, role by role (R45). -/

theorem State.ownPart_of_incomer {s : State} (h : s.cfg.role = some .incomer) :
    s.ownPart = .incomer s.tru.healthy (if resyncStands s.tru.state then BitVec.ofNat 16 s.tru.reference else 0)
      (if resyncStands s.tru.state then s.cfg.resyncOffset.setWidth 8 else 0) := by
  rw [State.ownPart, h]

theorem State.ownPart_of_tie {s : State} (h : s.cfg.role = some .tie) : s.ownPart = .tie s.tru.direction := by
  rw [State.ownPart, h]

theorem State.ownPart_of_generator {s : State} (h : s.cfg.role = some .generator) :
    s.ownPart = .generator (toWord (loadFraction s.currentSet.p s.cfg.pRated.toNat)) s.cfg.pRated s.gcu.unit s.gcu.mode := by
  rw [State.ownPart, h]

theorem State.ownPart_of_feeder {s : State} (h : s.cfg.role = some .feeder) :
    s.ownPart = .feeder (if s.fcu.state = .shed ∨ s.fcu.state = .restoring then BitVec.ofNat 16 s.fcu.held else 0)
      (s.cfg.priority.setWidth 8) s.fcu.state := by
  rw [State.ownPart, h]

theorem resyncStands_iff (x : TransferState) : resyncStands x = true ↔ x = .resync ∨ x = .parallel := by
  simp [resyncStands]

/-- A clamp is the larger of the lower bound and the smaller of the upper bound and the value. -/
theorem clamp_eq_max_min {lo hi : Int} (h : lo ≤ hi) (x : Int) : clamp lo hi x = max lo (min hi x) := by
  unfold clamp
  split
  · omega
  · split
    · omega
    · omega

/-- L of a rated power that is not 0 (R146). -/
theorem loadFraction_of_rated (p : Int) {rated : Nat} (h : rated ≠ 0) :
    loadFraction p rated = max (-4096) (min 8191 ((p * 4096).tdiv rated)) := by
  rw [loadFraction, if_neg h, clamp_eq_max_min (by decide)]
  rfl

/-- Settles O48: OWN_SLOT by the three conditions of a transmission, the record field by field and role by role. -/
theorem ownSlotPublishesTheOwnRecord : Obligations.OwnSlotPublishesTheOwnRecord := by
  refine ⟨fun s run begun => ⟨fun due => ?_, fun undue => ?_⟩, fun s run before off => ?_, fun s => ?_, fun s => ?_⟩
  case refine_1 =>
    refine ⟨_, (exec_ownSlot_begun run begun).trans (by rw [if_pos due]), s.atOwnSlot_publish, ?_⟩
    rw [s.atOwnSlot_publish_pim]
    exact ⟨State.withEntry_get_self .., fun k other => s.withEntry_get_of_ne other _⟩
  case refine_2 => rw [exec_ownSlot_begun run begun, if_neg undue]; rfl
  case refine_3 =>
    obtain ⟨marks, number⟩ := s.lkc.reach_marks s.cfg (slotStart s.cfg s.cfg.own)
    have unsent := (exec_ownSlot run).trans (by rw [if_neg fun due => off (marks.link.symm.trans due.1)])
    exact ⟨_, unsent, rfl, rfl, marks.link, number, marks.count, Lkc.reach_preCycle before ..⟩
  case refine_4 =>
    refine ⟨⟨rfl, rfl, rfl, s.ownRecord_sect, rfl⟩, ⟨rfl, rfl, rfl, rfl⟩, ⟨rfl, rfl, rfl, rfl, rfl, rfl⟩,
      ⟨rfl, rfl, rfl, rfl, rfl, rfl⟩, ⟨rfl, rfl⟩, ?_, fun r => State.ownRecord_role, State.ownRecord_no_claim,
      fun c => State.ownRecord_claim⟩
    show summaryOfState s.bcu.state = _
    cases s.bcu.state <;> rfl
  case refine_5 =>
    refine ⟨⟨State.ownRecord_flags_of_incomer, State.ownRecord_flags_of_other⟩, fun sequenced => ?_, fun single => ?_,
      fun incomer => ⟨fun stands => ?_, fun resync parallel => ?_⟩, fun tie => ?_, fun generator rated => ?_,
      fun feeder => ?_⟩
    · rw [s.ownRecord_transfer, if_pos sequenced]
      cases s.tru.state <;> rfl
    · rw [s.ownRecord_transfer, if_neg]
      rcases single with role | role <;> simp [role]
    · have stands := (resyncStands_iff _).mpr stands
      exact (State.ownPart_of_incomer incomer).trans (by rw [if_pos stands, if_pos stands])
    · have stands := mt (resyncStands_iff _).mp (not_or_intro resync parallel)
      exact (State.ownPart_of_incomer incomer).trans (by rw [if_neg stands, if_neg stands])
    · exact State.ownPart_of_tie tie
    · exact (State.ownPart_of_generator generator).trans (by rw [loadFraction_of_rated _ rated]; rfl)
    · exact State.ownPart_of_feeder feeder

end Sys2Proof.Machine
end

section
/-! PROOFS. The close of a link cycle (R26): the link's part (R29, R31, R38, R41), what is formed before the blocks act (R60,
R106, R136), and what the blocks leave. -/

namespace Sys2Proof.Machine

/-! ### The link at a cycle close (R29, R31, R38, R41) -/

/-- The moves of LISTEN and DUPLICATE reach the link's state and its two counts alone. -/
theorem Lkc.closeState_only (l : Lkc) : ∃ x n m, l.closeState = { l with link := x, listenCount := n, silentCount := m } := by
  unfold Lkc.closeState
  repeat' split
  all_goals exact ⟨_, _, _, rfl⟩

/-- LISTEN counts its cycle closes to eight (R29). -/
theorem Lkc.closeState_of_listen {l : Lkc} (h : l.link = .listen) :
    l.closeState.link = (if 8 ≤ l.listenCount + 1 then .publish else .listen) ∧
      (l.listenCount < 7 → l.closeState.listenCount = l.listenCount + 1) := by
  rw [Lkc.closeState, h]
  dsimp only
  by_cases last : 8 ≤ l.listenCount + 1
  · rw [if_pos last, if_pos last]; exact ⟨rfl, fun early => by omega⟩
  · rw [if_neg last, if_neg last]; exact ⟨rfl, fun _ => rfl⟩

/-- DUPLICATE counts the silent own slots to 64, and a frame in the own slot clears the count (R31). -/
theorem Lkc.closeState_of_duplicate {l : Lkc} (h : l.link = .duplicate) :
    l.closeState.link = (if l.ownHeard = false ∧ 64 ≤ l.silentCount + 1 then .listen else .duplicate) ∧
      (l.ownHeard = true → l.closeState.silentCount = 0) ∧
      (l.ownHeard = false → l.silentCount < 63 → l.closeState.silentCount = l.silentCount + 1) := by
  rw [Lkc.closeState, h]
  dsimp only
  cases heard : l.ownHeard
  case true => exact ⟨rfl, fun _ => rfl, fun silent => Bool.noConfusion silent⟩
  case false =>
    rw [if_neg Bool.false_ne_true]
    by_cases last : 64 ≤ l.silentCount + 1
    · rw [if_pos last, if_pos ⟨rfl, last⟩]
      exact ⟨rfl, fun silent => Bool.noConfusion silent, fun _ early => by omega⟩
    · rw [if_neg last, if_neg fun silent => last silent.2]
      exact ⟨rfl, fun silent => Bool.noConfusion silent, fun _ _ => rfl⟩

theorem Lkc.closeState_of_other {l : Lkc} (listen : l.link ≠ .listen) (duplicate : l.link ≠ .duplicate) :
    l.closeState = l := by
  unfold Lkc.closeState
  split
  · exact absurd ‹_› listen
  · exact absurd ‹_› duplicate
  · rfl

/-- The link after its part of a cycle close, in a station that is or is not the lowest of its mask. -/
def Lkc.closed (l : Lkc) (lowest : Bool) : Lkc :=
  let m := l.closeHeard.closeState
  if m.silence = 3 ∧ m.selfTimed = false then
    { m with selfTimed := true, unlocked := false, referenceMissing := m.referenceMissing || !lowest }
  else m

theorem State.becomeSelfTimed_lkc (s : State) : s.becomeSelfTimed.lkc =
    { s.lkc with selfTimed := true, unlocked := false, referenceMissing := s.lkc.referenceMissing || !s.cfg.isLowest } := by
  unfold State.becomeSelfTimed
  dsimp only
  split
  · rename_i lowest; rw [lowest, Bool.not_true, Bool.or_false]; rfl
  · rename_i other; rw [Bool.not_eq_true] at other; rw [other, Bool.not_false, Bool.or_true]; rfl

theorem State.linkClose_of_formed {s : State}
    (formed : s.lkc.closeHeard.closeState.silence = 3 ∧ s.lkc.closeHeard.closeState.selfTimed = false) :
    s.linkClose = (s.withLkc fun l => l.closeHeard.closeState).becomeSelfTimed := if_pos formed

theorem State.linkClose_of_standing {s : State}
    (standing : ¬(s.lkc.closeHeard.closeState.silence = 3 ∧ s.lkc.closeHeard.closeState.selfTimed = false)) :
    s.linkClose = s.withLkc fun l => l.closeHeard.closeState := if_neg standing

theorem State.linkClose_lkc (s : State) : s.linkClose.lkc = s.lkc.closed s.cfg.isLowest := by
  unfold Lkc.closed
  dsimp only
  split
  · rw [State.linkClose_of_formed ‹_›, State.becomeSelfTimed_lkc]; rfl
  · rw [State.linkClose_of_standing ‹_›]; rfl

/-- The heard lists move on and the lower-silence count advances; number and count stand (R38, R41). -/
theorem Lkc.closed_heard (l : Lkc) (lowest : Bool) :
    (l.closed lowest).heardBefore = l.heardNow ∧ (l.closed lowest).heardNow = 0 ∧
      (l.closed lowest).silence = (if l.heardNow = 0 then min 3 (l.silence + 1) else 0) ∧
      (l.closed lowest).number = l.number ∧ (l.closed lowest).count = l.count := by
  obtain ⟨x, n, m, only⟩ := l.closeHeard.closeState_only
  unfold Lkc.closed
  rw [only]
  dsimp only
  split
  · exact ⟨rfl, rfl, rfl, rfl, rfl⟩
  · exact ⟨rfl, rfl, rfl, rfl, rfl⟩

/-- SELF_TIMED stands, or is formed with the count at 3 (R41, log 17). -/
theorem Lkc.closed_selfTimed (l : Lkc) (lowest : Bool) :
    (l.closed lowest).selfTimed = (l.selfTimed || decide ((l.closed lowest).silence = 3)) := by
  obtain ⟨x, n, m, only⟩ := l.closeHeard.closeState_only
  have same : l.closeHeard.closeState.selfTimed = l.selfTimed := by rw [only]; rfl
  unfold Lkc.closed
  dsimp only
  generalize l.closeHeard.closeState = k at same ⊢
  rw [← same]
  by_cases formed : k.silence = 3 ∧ k.selfTimed = false
  · rw [if_pos formed]; simp [formed]
  · rw [if_neg formed]
    cases standing : k.selfTimed
    · simpa [standing] using formed
    · rfl

/-- Becoming SELF_TIMED ends the search, and misses a reference in a station that is not the lowest (R37, R41). -/
theorem Lkc.closed_of_selfTimed {l : Lkc} {lowest : Bool} (now : (l.closed lowest).selfTimed = true)
    (before : l.selfTimed = false) :
    (l.closeHeard.closeState.silence = 3 ∧ l.closeHeard.closeState.selfTimed = false) ∧
      (l.closed lowest).unlocked = false ∧ (lowest = false → (l.closed lowest).referenceMissing = true) := by
  obtain ⟨x, n, m, only⟩ := l.closeHeard.closeState_only
  have same : l.closeHeard.closeState.selfTimed = false := by rw [only]; exact before
  unfold Lkc.closed at now ⊢
  dsimp only at now ⊢
  split at now
  · rename_i formed
    rw [if_pos formed]
    exact ⟨formed, rfl, fun other => by simp [other]⟩
  · rw [same] at now; cases now

/-- The state of the link and its counts in the next cycle are what LISTEN and DUPLICATE make of them (R29, R31). -/
theorem Lkc.closed_advance_state (l : Lkc) (lowest : Bool) :
    (l.closed lowest).advance.link = l.closeHeard.closeState.link ∧
      (l.closed lowest).advance.listenCount = l.closeHeard.closeState.listenCount ∧
      (l.closed lowest).advance.silentCount = l.closeHeard.closeState.silentCount := by
  unfold Lkc.closed
  dsimp only
  split
  · exact ⟨rfl, rfl, rfl⟩
  · exact ⟨rfl, rfl, rfl⟩

/-- LINK_ALARM is pending after the cycle close at which a station that is not the lowest becomes SELF_TIMED (R41, R46). -/
theorem State.linkClose_pendingBit {s : State}
    (formed : s.lkc.closeHeard.closeState.silence = 3 ∧ s.lkc.closeHeard.closeState.selfTimed = false)
    (other : s.cfg.isLowest = false) : s.linkClose.pendingBit .linkAlarm = true := by
  rw [State.linkClose_of_formed formed]
  unfold State.becomeSelfTimed
  exact (congrArg (State.pendingBit · .linkAlarm) (if_neg (ne_true_of_eq_false other))).trans (State.linkAlarm_pendingBit ..)

/-! ### What is formed before the blocks act -/

theorem State.truHealth_marks (s : State) :
    s.truHealth.tru.enteredNow = s.tru.enteredNow ∧ s.truHealth.tru.heardNow = s.tru.heardNow := by
  unfold State.truHealth
  split
  · exact ⟨rfl, rfl⟩
  · exact ⟨rfl, rfl⟩

/-- The check record reads the set of the closing cycle, the input lines, the store and the cycle count (R136). -/
theorem State.formCheck_congr {s t : State} (cfg : t.cfg = s.cfg) (newest : t.msu.newest = s.msu.newest)
    (older : t.msu.older = s.msu.older) (count : t.lkc.count = s.lkc.count) (lines : t.bcu.lines = s.bcu.lines) :
    t.formCheck = s.formCheck := by
  have set : t.currentSet = s.currentSet := by rw [State.currentSet, State.currentSet, newest, older, count]
  have active (f : InFn) : t.fnActive f = s.fnActive f := by
    rw [State.fnActive, State.fnActive, State.fnLevel, State.fnLevel, cfg, lines]
  simp only [State.formCheck, set, active, cfg, count]

/-- The units that act at a cycle close, TRU apart. -/
def State.units (s : State) : Bcu × Dbu × Clu × Syu × Gcu × Fcu := (s.bcu, s.dbu, s.clu, s.syu, s.gcu, s.fcu)

theorem State.linkClose_units (s : State) : s.linkClose.units = s.units ∧ s.linkClose.tru = s.tru := by
  obtain ⟨l, a, only, -, -⟩ := s.linkClose_only
  rw [only]
  exact ⟨rfl, rfl⟩

theorem State.truHealth_units (s : State) : s.truHealth.units = s.units := by
  obtain ⟨u, only⟩ := s.truHealth_only
  rw [only]
  rfl

theorem State.clearMarks_units (s : State) : s.clearMarks.units =
    ({ s.bcu with acceptedNow := false, trippedNow := false, endedNow := false }, s.dbu, { s.clu with raisedNow := false },
      { s.syu with startedNow := false }, { s.gcu with enteredNow := false, heardNow := false },
      { s.fcu with heardNow := false }) := by simp [State.units, State.clearMarks]

/-- What is formed before the check record: the marks cleared, the link's part, MSU's and TOP's. -/
def State.formTop (s : State) : State := s.clearMarks.linkClose.msuClose.topClose

theorem State.formTop_units (s : State) : s.formTop.units = s.clearMarks.units ∧ s.formTop.tru = s.clearMarks.tru :=
  s.clearMarks.linkClose_units

theorem State.formTop_stands (s : State) : State.Stands s s.formTop :=
  ((s.clearMarks_stands.1.trans (State.linkClose_stands _).1).trans (State.msuClose_stands _)).trans
    (State.topClose_stands _).1

theorem State.formClose_eq (s : State) : s.formClose = s.formTop.checkClose.truHealth.foretell := rfl

/-- The check record of a cycle close is that of the state the close finds (R136). -/
theorem State.formTop_formCheck (s : State) : s.formTop.formCheck = s.formCheck := by
  have stands := s.formTop_stands
  refine State.formCheck_congr stands.cfg stands.newest stands.older stands.count ?_
  exact (congrArg (fun u => u.1.lines) s.formTop_units.1).trans rfl

/-- The units as a cycle close forms them: the marks cleared (log 9), the check record and the trip requests to come. -/
theorem State.formClose_units (s : State) : s.formClose.units =
    ({ s.bcu with acceptedNow := false, endedNow := false, trippedNow := s.formClose.bcu.trippedNow }, s.dbu,
      { s.clu with raisedNow := false }, { s.syu with startedNow := false, check := s.formCheck },
      { s.gcu with enteredNow := false, heardNow := false }, { s.fcu with heardNow := false }) := by
  have tripped : s.formClose.units = ({ s.formTop.checkClose.truHealth.units.1 with
    trippedNow := s.formClose.bcu.trippedNow }, s.formTop.checkClose.truHealth.units.2) := rfl
  have checked : s.formTop.checkClose.units = (s.formTop.units.1, s.formTop.units.2.1, s.formTop.units.2.2.1,
    { s.formTop.units.2.2.2.1 with check := s.formTop.formCheck }, s.formTop.units.2.2.2.2) := rfl
  rw [tripped, State.truHealth_units, checked, s.formTop_units.1, s.formTop_formCheck, s.clearMarks_units]

theorem State.formClose_truMarks (s : State) : s.formClose.tru.enteredNow = false ∧ s.formClose.tru.heardNow = false := by
  obtain ⟨entered, heard⟩ := s.formTop.checkClose.truHealth_marks
  have cleared : s.formTop.checkClose.tru = s.clearMarks.tru := s.formTop_units.2
  rw [cleared] at entered heard
  exact ⟨entered, heard⟩

/-- The trip requests of a cycle close are foretold for BCU's third condition (R106). -/
theorem State.foretell_trippedNow (s : State) : s.foretell.bcu.trippedNow =
    (s.foretell.fnActive .extTrip || s.foretell.dbuWillTrip || s.foretell.gcuWillOpen ||
      (s.cfg.isRole .feeder && s.fcu.openPending) || s.foretell.truWillOpen) := rfl

theorem State.formClose_trippedNow (s : State) : s.formClose.bcu.trippedNow =
    (s.formClose.fnActive .extTrip || s.formClose.dbuWillTrip || s.formClose.gcuWillOpen ||
      (decide (s.cfg.role = some .feeder) && s.fcu.openPending) || s.formClose.truWillOpen) := by
  have feeder : decide (s.cfg.role = some .feeder) = s.cfg.isRole .feeder := by
    rw [Bool.eq_iff_iff, decide_eq_true_iff, Settings.isRole_iff]
  have cfg : s.formTop.checkClose.truHealth.cfg = s.cfg :=
    (State.truHealth_stands _).1.cfg.trans s.formTop_stands.cfg
  have pending : s.formTop.checkClose.truHealth.fcu.openPending = s.fcu.openPending :=
    congrArg (fun u => u.2.2.2.2.2.openPending) s.formClose_units
  rw [feeder, ← cfg, ← pending, s.formClose_eq]
  exact State.foretell_trippedNow _

theorem State.formClose_lkc (s : State) : s.formClose.lkc = s.lkc.closed s.cfg.isLowest := by
  have link : s.formClose.lkc = s.clearMarks.linkClose.lkc := (State.told_truHealth s.formTop.checkClose).lkc
  rw [link, State.linkClose_lkc, State.clearMarks_lkc, State.clearMarks_cfg]

/-- The pending bits of a cycle close are the link's until the blocks act. -/
theorem State.formClose_cfp (s : State) : s.formClose.cfp = s.clearMarks.linkClose.cfp :=
  State.truHealth_cfp s.formTop.checkClose

/-! ### The lockout flag after a cycle close (R60) -/

theorem mem_allStations : ∀ k : Station, k ∈ allStations := by decide

/-- A usable record is read from the image, the count and the number. -/
theorem State.usableRec_congr {s t : State} (pim : t.pim = s.pim) (number : t.lkc.number = s.lkc.number)
    (count : t.lkc.count = s.lkc.count) (k : Station) : t.usableRec k = s.usableRec k := by
  unfold State.usableRec State.status State.heldRec State.entry
  rw [pim, number, count]

/-- The own flag after a cycle close is formed from DBU, the image, the link's numbering, the store, and what TOP shows but for
its lockout view. -/
theorem State.lockoutAfter_congr {s t : State} (stands : State.Stands s t) (dbu : t.dbu = s.dbu)
    (tie : t.top.tie = s.top.tie) (one : t.top.expected1 = s.top.expected1) (two : t.top.expected2 = s.top.expected2) :
    t.lockoutAfter = s.lockoutAfter := by
  obtain ⟨cfg, pim, -, -, -, -, -, number, count⟩ := stands
  obtain ⟨_, _, _, _, l, _, top⟩ := s
  obtain ⟨_, _, _, _, l', _, top'⟩ := t
  cases l
  cases l'
  cases top
  cases top'
  dsimp only at cfg pim number count dbu tie one two
  subst cfg pim number count dbu tie one two
  rfl

/-- The lockout view of a cycle close takes the own flag as the cycle close leaves it (R60). -/
theorem State.formClose_top (s : State) : s.formClose.top = s.formTopology s.formClose.lockoutAfter := by
  have stands := (s.clearMarks_stands.1.trans (State.linkClose_stands _).1).trans (State.msuClose_stands _)
  have units : s.clearMarks.linkClose.msuClose.dbu = s.formClose.dbu :=
    (congrArg (fun u => u.2.1) s.formTop_units.1).trans
      ((congrArg (fun u => u.2.1) s.clearMarks_units).trans (congrArg (fun u => u.2.1) s.formClose_units).symm)
  have top : s.formClose.top = s.clearMarks.linkClose.msuClose.topClose.top :=
    (State.truHealth_stands s.formTop.checkClose).2.2
  have whole := s.formClose_formed.1
  generalize s.clearMarks.linkClose.msuClose = u at stands units top
  have same (flag : Bool) : u.formTopology flag = s.formTopology flag :=
    State.formTopology_congr stands.pim stands.number stands.count stands.cfg flag
  have closes : u.topClose.top =
      s.formTopology ({ u with top := u.formTopology u.dbu.lockout } : State).lockoutAfter := same _
  rw [top, closes]
  refine congrArg s.formTopology (State.lockoutAfter_congr ?_ units ?_ ?_ ?_)
  · exact ⟨stands.cfg.trans whole.cfg.symm, stands.pim.trans whole.pim.symm, stands.cvp.trans whole.cvp.symm,
      stands.pru.trans whole.pru.symm, stands.window.trans whole.window.symm, stands.newest.trans whole.newest.symm,
      stands.older.trans whole.older.symm, stands.number.trans whole.number.symm, stands.count.trans whole.count.symm⟩
  · rw [top, closes]; exact (congrArg Topology.tie (same u.dbu.lockout) :)
  · rw [top, closes]; exact (congrArg Topology.expected1 (same u.dbu.lockout) :)
  · rw [top, closes]; exact (congrArg Topology.expected2 (same u.dbu.lockout) :)

theorem any_ownSections (c : Settings) (p : Sec → Bool) :
    (ownSections c).any p = true ↔ ∃ x : Sec, c.belongs x = true ∧ p x = true := by
  have all : ∀ x : Sec, x ∈ [Sec.one, Sec.two] := by intro x; cases x <;> decide
  simp only [ownSections, List.any_eq_true, List.mem_filter, all, true_and]

theorem State.peerNotice_iff (s : State) : s.peerNotice = true ↔
    ∃ (k : Station) (r : BayRecord), k ≠ s.cfg.own ∧ s.usableRec k = some r ∧ r.bfNotice = true ∧
      concerns s.cfg r = true := by
  simp [State.peerNotice, State.usable, List.any_eq_true, mem_allStations, Option.any_eq_true]

theorem State.bfDue_iff (s : State) : s.bfDue = true ↔ ∃ n : Nat, s.dbu.timer = .running n ∧ s.cfg.tBf.toNat ≤ n + 1 := by
  unfold State.bfDue
  cases s.dbu.timer <;> simp

/-- The own flag after a cycle close: standing, or set by a section's trip, a peer's notice or the BF timer (R97). -/
theorem State.lockoutAfter_iff (s : State) : s.lockoutAfter = true ↔ s.dbu.lockout = true ∨
    (∃ x : Sec, s.cfg.belongs x = true ∧ s.sectionTrips x = true) ∨
    (∃ (k : Station) (r : BayRecord), k ≠ s.cfg.own ∧ s.usableRec k = some r ∧ r.bfNotice = true ∧
      concerns s.cfg r = true) ∨
    ∃ n : Nat, s.dbu.timer = .running n ∧ s.cfg.tBf.toNat ≤ n + 1 := by
  simp only [State.lockoutAfter, Bool.or_eq_true, any_ownSections, s.peerNotice_iff, s.bfDue_iff, or_assoc]

theorem State.formClose_lockoutAfter (s : State) : s.formClose.lockoutAfter = true ↔ s.dbu.lockout = true ∨
    (∃ x : Sec, s.cfg.belongs x = true ∧ s.formClose.sectionTrips x = true) ∨
    (∃ (k : Station) (r : BayRecord), k ≠ s.cfg.own ∧ s.usableRec k = some r ∧ r.bfNotice = true ∧
      concerns s.cfg r = true) ∨
    ∃ n : Nat, s.dbu.timer = .running n ∧ s.cfg.tBf.toNat ≤ n + 1 := by
  have stands := s.formClose_formed.1
  have dbu : s.formClose.dbu = s.dbu := congrArg (fun u => u.2.1) s.formClose_units
  have usable := State.usableRec_congr stands.pim stands.number stands.count
  rw [State.lockoutAfter_iff, dbu, stands.cfg]
  simp only [usable]

/-! ### The blocks (log 2) -/

theorem State.Around.pendingBit {s t : State} (h : State.Around s t) {b : Attention} (k : s.pendingBit b = true) :
    t.pendingBit b = true := by
  unfold State.pendingBit at *
  rw [← h.bits, BitVec.getLsbD_and, Bool.and_eq_true] at k
  exact k.2

/-- Every order over the blocks takes each of them once. -/
theorem count_orderOver_allBlocks (o : List CloseBlock) (b : CloseBlock) : (orderOver allBlocks o).count b = 1 :=
  (orderOver_nodup _ _ (by decide)).count.trans (if_pos ((mem_orderOver ..).mpr (by cases b <;> decide)))

theorem ownSections_of_tie {c : Settings} (h : c.role = some .tie) : ownSections c = [.one, .two] := by
  simp [ownSections, Settings.belongs, Settings.isRole, h]

theorem ownSections_of_section {c : Settings} {x : Sec} (role : c.role ≠ some .tie) (sec : c.sec = some x) :
    ownSections c = [x] := by
  cases x <;> simp [ownSections, Settings.belongs, Settings.isRole, role, sec]

theorem State.dbuClose_of_tie {s : State} (role : s.cfg.role = some .tie) (s0 : State) : s.dbuClose s0 =
    (((((s.diffClose .one).diffClose .two).peerBfClose).bfSeenClose .one).bfSeenClose .two).bfTick s0 := by
  rw [State.dbuClose, ownSections_of_tie role]
  rfl

theorem State.dbuClose_of_section {s : State} {x : Sec} (role : s.cfg.role ≠ some .tie) (sec : s.cfg.sec = some x)
    (s0 : State) : s.dbuClose s0 = (((s.diffClose x).peerBfClose).bfSeenClose x).bfTick s0 := by
  rw [State.dbuClose, ownSections_of_section role sec]
  rfl

/-! ### CYCLE_CLOSE (R26) -/

theorem exec_cycleClose {s : State} (run : s.cfp.run = .run) (o : List CloseBlock) : exec (.cycleClose o) s = .next
    (if s.lkc.preCycle then s.withLkc Lkc.begin else s.cycleClose o) := by
  have running : s.running = true := by rw [State.running, run]; rfl
  show execCycleClose o s = _
  rw [execCycleClose, if_pos running]

/-- Around the blocks a cycle close leaves what it forms first; the link then begins the next cycle. -/
theorem State.cycleClose_around (s : State) (o : List CloseBlock) :
    State.Around (s.formClose.withLkc Lkc.advance) (s.cycleClose o) := by
  obtain ⟨rest, bits⟩ := (State.effect_closeBlocks s.formClose s.formClose o).around
  refine ⟨?_, bits⟩
  rw [State.cycleClose, rest]
  rfl

theorem State.cycleClose_lkc (s : State) (o : List CloseBlock) :
    (s.cycleClose o).lkc = (s.lkc.closed s.cfg.isLowest).advance := by
  rw [(s.cycleClose_around o).lkc, State.withLkc_lkc, State.formClose_lkc]

/-- Settles O55: the order and the blocks by what each of them is, the results from what is formed first, which the blocks
leave but for PRU's selection of the groups. -/
theorem cycleCloseEndsTheCycle : Obligations.CycleCloseEndsTheCycle := by
  refine ⟨fun o s run before => ?_, fun o s run begun => ?_, fun s s0 => ?_, fun s t formed => ?_⟩
  case refine_1 => rw [exec_cycleClose run, if_pos before]; rfl
  case refine_2 =>
    have around := s.cycleClose_around o
    have lkc := s.cycleClose_lkc o
    obtain ⟨stands, -, history, rocof⟩ := s.formClose_formed
    obtain ⟨heardBefore, heardNow, silence, number, count⟩ := s.lkc.closed_heard s.cfg.isLowest
    have top : (s.cycleClose o).top = s.formTopology s.formClose.lockoutAfter := around.top.trans s.formClose_top
    refine ⟨s.cycleClose o, (exec_cycleClose run o).trans (by rw [if_neg (ne_true_of_eq_false begun)]),
      ⟨rfl, count_orderOver_allBlocks o⟩, ?numbering, ⟨?before, ?now, ?silence, ?selfTimed, ?becomes⟩, ?link,
      ⟨around.cfg.trans stands.cfg, around.pim.trans stands.pim, around.cvp.trans stands.cvp, ?window, ?newest⟩,
      ⟨?history, ?rocof⟩, ⟨_, top, s.formClose_lockoutAfter⟩, ?groups⟩
    case numbering =>
      rw [lkc]
      exact ⟨congrArg (· + 1) number, congrArg (· + 1) count, rfl, rfl, rfl, rfl, rfl, rfl⟩
    case before => rw [lkc]; exact heardBefore
    case now => rw [lkc]; exact heardNow
    case silence => rw [lkc]; exact silence
    case selfTimed => rw [lkc]; exact s.lkc.closed_selfTimed _
    case becomes =>
      rw [lkc]
      intro now standing
      obtain ⟨formed, locked, missing⟩ := Lkc.closed_of_selfTimed now standing
      refine ⟨locked, fun other => ⟨missing other, around.pendingBit ?_⟩⟩
      show s.formClose.pendingBit .linkAlarm = true
      rw [State.pendingBit, s.formClose_cfp]
      rw [← s.clearMarks_lkc] at formed
      rw [← s.clearMarks_cfg] at other
      exact State.linkClose_pendingBit formed other
    case link =>
      obtain ⟨link, listens, silents⟩ := s.lkc.closed_advance_state s.cfg.isLowest
      rw [lkc, link, listens, silents]
      cases state : s.lkc.link
      case listen => exact Lkc.closeState_of_listen (l := s.lkc.closeHeard) state
      case duplicate => exact Lkc.closeState_of_duplicate (l := s.lkc.closeHeard) state
      all_goals
        rw [Lkc.closeState_of_other (l := s.lkc.closeHeard)]
        · exact state
        · exact fun listen => LinkState.noConfusion (state.symm.trans listen)
        · exact fun duplicate => LinkState.noConfusion (state.symm.trans duplicate)
    case window => rw [around.msu]; exact stands.window
    case newest => rw [around.msu]; exact stands.newest
    case history => rw [around.msu]; exact history
    case rocof => rw [around.msu]; exact rocof
    case groups =>
      have pru : (s.cycleClose o).pru = s.pru.select s.cfg (s.cycleClose o).top.own := by
        rw [around.top, ← stands.cfg, ← stands.pru]
        exact State.closeBlocks_pru ..
      rw [pru]
      exact ⟨rfl, rfl⟩
  case refine_3 =>
    exact ⟨⟨rfl, rfl, rfl, rfl, rfl, rfl, rfl, rfl, rfl, rfl⟩, fun role => State.dbuClose_of_tie role s0,
      fun x role sec => State.dbuClose_of_section role sec s0, rfl, rfl⟩
  case refine_4 =>
    subst formed
    have units := s.formClose_units
    simp only [State.units, Prod.mk.injEq] at units
    obtain ⟨bcu, -, clu, syu, gcu, fcu⟩ := units
    obtain ⟨entered, heard⟩ := s.formClose_truMarks
    refine ⟨⟨by rw [syu], s.formClose_trippedNow⟩, by rw [bcu], by rw [bcu], by rw [clu], by rw [syu], by rw [gcu],
      by rw [gcu], by rw [fcu], entered, heard⟩

end Sys2Proof.Machine
end

section
/-! PROOFS. The age and the status of an image entry (R50, R51): the age with and without a record, and the status in each of
the three bands of the age. -/

namespace Sys2Proof.Machine

/-! ### The age (R50) -/

theorem Entry.age_of_none {e : Entry} (empty : e.record = none) (count : Count) : e.age count = 255 := by
  simp [Entry.age, empty]

theorem Entry.age_of_some {e : Entry} {r : BayRecord} (held : e.record = some r) (count : Count) :
    e.age count = min 255 (count - e.accepted).toNat := by
  simp [Entry.age, held]

theorem Entry.age_le (e : Entry) (count : Count) : e.age count ≤ 255 := by
  cases held : e.record with
  | none => exact Nat.le_of_eq (Entry.age_of_none held count)
  | some r => exact Entry.age_of_some held count ▸ Nat.min_le_left ..

/-! ### The status (R51) -/

theorem Entry.status_of_none {e : Entry} (empty : e.record = none) (count : Count) (number : BitVec 8) :
    e.status count number = .absent := by
  simp [Entry.status, empty]

section Held

variable {e : Entry} {r : BayRecord} {count : Count} (number : BitVec 8)

theorem Entry.status_of_age_zero (held : e.record = some r) (age : e.age count = 0) :
    e.status count number = if r.cycle = number then .fresh else .stale := by
  simp [Entry.status, held, age]

theorem Entry.status_of_age_between (held : e.record = some r) (one : 1 ≤ e.age count) (seven : e.age count ≤ 7) :
    e.status count number = .stale := by
  simp [Entry.status, held, Nat.ne_of_gt one, seven]

theorem Entry.status_of_age_ge (held : e.record = some r) (eight : 8 ≤ e.age count) : e.status count number = .lost := by
  have past : ¬e.age count ≤ 7 := by omega
  have nonzero : e.age count ≠ 0 := by omega
  simp [Entry.status, held, past, nonzero]

end Held

/-- Settles O52, by the band the age falls in: 0, where the number decides, 1 to 7, and 8 or more. -/
theorem entryAgeAndStatus : Obligations.EntryAgeAndStatus := by
  unfold Obligations.EntryAgeAndStatus
  intro e count number
  refine ⟨e.age_le count, fun empty => ⟨Entry.age_of_none empty count, Entry.status_of_none empty count number⟩, ?_⟩
  intro r held
  refine ⟨Entry.age_of_some held count, ?_⟩
  obtain zero | ⟨one, seven⟩ | eight : e.age count = 0 ∨ (1 ≤ e.age count ∧ e.age count ≤ 7) ∨ 8 ≤ e.age count := by omega
  · rw [Entry.status_of_age_zero number held zero, zero]
    by_cases current : r.cycle = number <;> simp [current]
  · rw [Entry.status_of_age_between number held one seven]
    have nonzero : e.age count ≠ 0 := Nat.ne_of_gt one
    have below : ¬8 ≤ e.age count := by omega
    simp [nonzero, below, one, seven]
  · rw [Entry.status_of_age_ge number held eight]
    have nonzero : e.age count ≠ 0 := by omega
    have past : ¬e.age count ≤ 7 := by omega
    simp [nonzero, past, eight]

end Sys2Proof.Machine
end


section
/-! PROOFS. PRU (R63 to R81): the element records and their tests, the trip request, what follows from elements that enter
OPERATE, the evaluation at a phasor instant and the switch of the setting groups. -/

namespace Sys2Proof.Machine

/-! ### The eight elements -/

@[simp] theorem Eight.get_ofFn {α : Type} (f : Element → α) (e : Element) : (Eight.ofFn f).get e = f e := by
  cases e <;> rfl

theorem mem_allElements (e : Element) : e ∈ allElements := by cases e <;> decide

theorem mem_entering {before after : Eight ElementRec} {e : Element} :
    e ∈ entering before after ↔ (after.get e).state = .operate ∧ (before.get e).state ≠ .operate := by
  simp [entering, mem_allElements]

/-- I> and I>> are the fault half (R79). -/
theorem halfOf_eq_fault_iff (e : Element) : halfOf e = .fault ↔ e = .overI ∨ e = .highI := by cases e <;> decide

/-! ### An element record at a phasor instant (R65, R66) -/

section Advance

variable {r : ElementRec} {x : ElementTest} {delay : Nat}

theorem ElementRec.advance_of_dropped (active : r.state ≠ .quiet) (drops : x.drops = true) :
    r.advance (some x) delay = .quiet := by
  cases state : r.state with
  | quiet => exact absurd state active
  | pickup | operate => simp [ElementRec.advance, state, drops]

theorem ElementRec.advance_of_idle (quiet : r.state = .quiet) (holds : x.holds = false) :
    r.advance (some x) delay = .quiet := by simp [ElementRec.advance, quiet, holds]

theorem ElementRec.advance_of_started (quiet : r.state = .quiet) (holds : x.holds = true) :
    r.advance (some x) delay = ElementRec.quiet.count' delay x.phases := by simp [ElementRec.advance, quiet, holds]

theorem ElementRec.advance_of_counting (pickup : r.state = .pickup) (rides : x.drops = false) :
    r.advance (some x) delay = r.count' delay x.phases := by simp [ElementRec.advance, pickup, rides]

theorem ElementRec.advance_of_standing (operate : r.state = .operate) (rides : x.drops = false) :
    (r.advance (some x) delay).state = .operate := by simp [ElementRec.advance, operate, rides]

/-- Below its delay a record counts on by one, and enters OPERATE as the count comes to the delay (R66). -/
theorem ElementRec.count'_of_below (below : r.count < delay) (p : Phases) :
    (r.count' delay p).count = r.count + 1 ∧
      (r.count' delay p).state = if r.count + 1 = delay then .operate else .pickup := by
  unfold ElementRec.count'
  by_cases last : r.count + 1 = delay
  · rw [if_pos last, if_pos (Nat.le_of_eq last.symm)]; exact ⟨last.symm, rfl⟩
  · rw [if_neg last, if_neg (by omega)]; exact ⟨rfl, rfl⟩

end Advance

/-! ### The tests (R65, R72 to R78) -/

theorem ownBlock_iff (c : Settings) (b : BreakerState) (rocof : Option Int) (r : ResultSet) (e : Element) :
    ownBlock c b rocof r e = true ↔ ((e = .underV ∨ e = .revPower) ∧ b ≠ .closed) ∨
      ((e = .underF ∨ e = .overF) ∧ r.fBus = 0) ∨ (e = .rocof ∧ rocof = none) ∨
      (e = .revPower ∧ c.role ≠ some .generator) := by
  cases e <;> simp [ownBlock, Settings.isRole]

/-- An element takes no test exactly when it is blocked or OFF (R65, R67). -/
theorem State.elementTest_eq_none_iff (s : State) (r : ResultSet) (e : Element) :
    s.elementTest r e = none ↔ (r.meas ≠ .valid ∨ ownBlock s.cfg s.bcu.state s.msu.rocof r e = true) ∨
      (elementAction s.cfg s.pru e ≠ some .alarm ∧ elementAction s.cfg s.pru e ≠ some .trip) := by
  unfold State.elementTest
  by_cases blocked : r.meas ≠ .valid ∨ ownBlock s.cfg s.bcu.state s.msu.rocof r e = true
  · rw [if_pos blocked]; exact ⟨fun _ => .inl blocked, fun _ => rfl⟩
  · rw [if_neg blocked, or_iff_right blocked]
    generalize elementAction s.cfg s.pru e = action
    rcases action with _ | _ | _ | _ <;> simp

theorem State.elementTest_some {s : State} {r : ResultSet} {e : Element} {x : ElementTest}
    (h : s.elementTest r e = some x) : x = conditionTest s.cfg s.pru s.msu.rocof r e := by
  unfold State.elementTest at h
  split at h
  · cases h
  · split at h
    · exact (Option.some.inj h).symm
    · exact (Option.some.inj h).symm
    · cases h

/-- I> and I>> hold at the pickup in one phase, and drop below 61/64 of it in all three (R72, R73). -/
theorem overcurrentTest_iff (r : ResultSet) (f : Nat) :
    ((overcurrentTest r f).holds = true ↔ f ≤ r.mag.ia ∨ f ≤ r.mag.ib ∨ f ≤ r.mag.ic) ∧
      ((overcurrentTest r f).drops = true ↔ r.mag.ia * 64 < f * 61 ∧ r.mag.ib * 64 < f * 61 ∧ r.mag.ic * 64 < f * 61) ∧
      (overcurrentTest r f).phases =
        { a := decide (f ≤ r.mag.ia), b := decide (f ≤ r.mag.ib), c := decide (f ≤ r.mag.ic) } := by
  simp [overcurrentTest, or_assoc, and_assoc]

/-- The elements of the source half drop as their condition fails, and name no phase (R74 to R78). -/
theorem conditionTest_plain (c : Settings) (p : Pru) (rocof : Option Int) (r : ResultSet) {e : Element}
    (overI : e ≠ .overI) (highI : e ≠ .highI) :
    (conditionTest c p rocof r e).drops = !(conditionTest c p rocof r e).holds ∧
      (conditionTest c p rocof r e).phases = .empty := by
  cases e with
  | overI => exact absurd rfl overI
  | highI => exact absurd rfl highI
  | underV | overV | underF | overF | rocof | revPower => exact ⟨rfl, rfl⟩

/-! ### The operation list (R70) -/

theorem appendOperation_eq (l : List Operation) (o : Operation) :
    appendOperation l o = if 8 ≤ l.length then (l ++ [o]).drop 1 else l ++ [o] := by
  have full : (l ++ [o]).length > 8 ↔ 8 ≤ l.length := by
    rw [List.length_append, List.length_singleton]
    exact Nat.lt_succ_iff
  exact ite_congr (propext full) (fun _ => rfl) fun _ => rfl

theorem appendOperation_getLast? (l : List Operation) (o : Operation) : (appendOperation l o).getLast? = some o := by
  rw [appendOperation_eq]
  split
  · rename_i full
    have longer : ¬(l ++ [o]).length ≤ 1 := by simp only [List.length_append, List.length_singleton]; omega
    rw [List.getLast?_drop, if_neg longer, List.getLast?_concat]
  · simp

theorem appendOperation_length_eq {l : List Operation} (h : l.length ≤ 8) (o : Operation) :
    (appendOperation l o).length = min 8 (l.length + 1) := by
  rw [appendOperation_eq]
  split
  · simp; omega
  · simp; omega

/-! ### The trip request and trip active (R68, R69) -/

theorem State.pruStands_iff (s : State) :
    s.pruStands = true ↔ ∃ e, (s.pru.elements.get e).state = .operate ∧ elementAction s.cfg s.pru e = some .trip := by
  simp [State.pruStands, mem_allElements]

theorem State.pruStands_congr {s t : State} (cfg : t.cfg = s.cfg) (pru : t.pru = s.pru) : t.pruStands = s.pruStands := by
  rw [State.pruStands, State.pruStands, cfg, pru]

/-- A trip request that stands is presented to the breaker (R68). -/
def State.presented (s : State) : State := if s.pruStands then s.tripRequest else s

theorem State.presented_of_stands {s : State} (h : s.pruStands = true) : s.presented = s.tripRequest := if_pos h

theorem State.presented_of_idle {s : State} (h : s.pruStands = false) : s.presented = s := if_neg (ne_true_of_eq_false h)

theorem State.cons_presented (s : State) : State.Consequence s s.presented := .ite s.cons_tripRequest (.refl s)

/-- A trip request opens a CLOSED breaker (R109). -/
theorem State.tripRequest_of_closed {s : State} (closed : s.bcu.state = .closed) :
    s.tripRequest.bcu = { s.bcu.assertTrip with trippedNow := true } := by rw [State.tripRequest_bcu, closed]

/-- Setting lockout reaches no breaker that is not CLOSING (R97, R108). -/
theorem State.setLockout_bcu_of_not_closing {s : State} (h : s.bcu.state ≠ .closing) (c : LockoutSource) :
    (s.setLockout c).bcu = s.bcu := by
  have stays : s.closeDrop = s := if_neg fun closing => h closing.1
  rw [State.setLockout_bcu, stays, ite_self]

theorem State.setLockout_lockout (s : State) (c : LockoutSource) : (s.setLockout c).dbu.lockout = true := by
  rw [State.setLockout_dbu]
  split
  · assumption
  · rfl

theorem State.tripActiveTest_of_stands {s : State} (h : s.pruStands = true) : s.tripActiveTest = s := by
  simp [State.tripActiveTest, h]

theorem State.tripActiveTest_of_idle {s : State} (h : s.pruStands = false) : s.tripActiveTest =
    s.withPru fun p => { p with tripActive := if s.bcu.state = .opened then false else p.tripActive } := by
  by_cases opened : s.bcu.state = .opened
  · simp [State.tripActiveTest, h, opened]
  · simp [State.tripActiveTest, h, opened, State.withPru]

/-- The trip-active test reaches trip active alone (R69). -/
theorem State.tripActiveTest_only (s : State) : ∃ b, s.tripActiveTest = s.withPru fun p => { p with tripActive := b } := by
  unfold State.tripActiveTest
  split
  · exact ⟨false, rfl⟩
  · exact ⟨s.pru.tripActive, rfl⟩

/-! ### An issue of the trip request (R68, R71) -/

theorem State.trigger_bcu (s : State) (k : Trigger) : (s.trigger k).bcu = s.bcu := by
  unfold State.trigger State.takeTrigger
  repeat' split
  all_goals rfl

/-- Beside CAP a trigger reaches the pending bits alone: CAPTURE_LOST where it finds no bank (R21). -/
theorem State.cons_trigger (s : State) (k : Trigger) :
    State.Consequence { s with cap := (s.trigger k).cap } (s.trigger k) := by
  unfold State.trigger State.takeTrigger
  repeat' split
  case h_2.isFalse.isTrue => exact State.Consequence.raise ..
  all_goals exact State.Consequence.refl _

/-- The bank a trigger starts, and the record it makes, read the store, CAP and the cycle count alone (R20, R21). -/
theorem State.trigger_cap_congr {s t : State} (k : Trigger) (cfg : t.cfg = s.cfg := by rfl) (cap : t.cap = s.cap := by rfl)
    (lkc : t.lkc = s.lkc := by rfl) : (t.trigger k).cap = (s.trigger k).cap := by
  unfold State.trigger State.takeTrigger
  rw [cfg, cap, lkc]
  repeat' split
  all_goals simp [cap]

theorem State.issueTrip_pru (s : State) : s.issueTrip.pru = { s.pru with tripActive := true } := State.trigger_pru ..

theorem State.issueTrip_bcu (s : State) : s.issueTrip.bcu = s.bcu := State.trigger_bcu ..

theorem State.issueTrip_cap (s : State) : s.issueTrip.cap = (s.trigger .trip).cap := State.trigger_cap_congr .trip

theorem State.issueTrip_pendingBit (s : State) : s.issueTrip.pendingBit .trip = true :=
  (State.cons_trigger ..).pendingBit (State.raise_pendingBit ..)

theorem State.issueTrip_pruStands (s : State) : s.issueTrip.pruStands = s.pruStands :=
  State.pruStands_congr (s := s.withPru fun p => { p with tripActive := true }) s.effect_issueTrip.cfg s.issueTrip_pru

/-! ### Elements enter OPERATE (R68 to R71, R73) -/

/-- One of these elements has the action TRIP. -/
def State.tripsAmong (s : State) (es : List Element) : Bool := es.any fun e => elementAction s.cfg s.pru e == some .trip

theorem State.tripsAmong_iff {s : State} {es : List Element} :
    s.tripsAmong es = true ↔ ∃ e ∈ es, elementAction s.cfg s.pru e = some .trip := by simp [State.tripsAmong]

theorem State.tripsAmong_singleton {s : State} {e : Element} :
    s.tripsAmong [e] = true ↔ elementAction s.cfg s.pru e = some .trip := by simp [State.tripsAmong]

/-- The operation list with an entry for each of these elements (R70). -/
def State.listed (s : State) (es : List Element) (n : Count) : State :=
  s.withPru fun p => { p with operations := es.foldl (fun l e => appendOperation l (operationOf s.cfg p e n)) p.operations }

/-- The list and, with a TRIP among these elements, an issue of the trip request (R68, R70). -/
def State.issuedFor (s : State) (es : List Element) (n : Count) : State :=
  if s.tripsAmong es then (s.listed es n).issueTrip else s.listed es n

/-- I>> is among these elements with the action TRIP and its setting asks for lockout (R73). -/
def State.locksWith (s : State) (es : List Element) : Bool :=
  es.contains .highI && elementAction s.cfg s.pru .highI == some .trip && (s.cfg.fault s.pru.faultGroup).highILockout

theorem State.operated_eq (s : State) (es : List Element) (n : Count) : s.operated es n =
    if s.locksWith es then (s.issuedFor es n).presented.setLockout .highI else (s.issuedFor es n).presented := rfl

theorem State.locksWith_iff {s : State} {es : List Element} : s.locksWith es = true ↔
    .highI ∈ es ∧ elementAction s.cfg s.pru .highI = some .trip ∧ (s.cfg.fault s.pru.faultGroup).highILockout = true := by
  simp [State.locksWith, and_assoc]

section Operated

variable (s : State) (es : List Element) (n : Count)

theorem State.cons_operated : State.Consequence (s.issuedFor es n) (s.operated es n) :=
  .ite ((State.cons_presented _).trans (State.cons_setLockout ..)) (State.cons_presented _)

theorem State.issuedFor_pru :
    (s.issuedFor es n).pru = { (s.listed es n).pru with tripActive := s.tripsAmong es || s.pru.tripActive } := by
  unfold State.issuedFor
  cases s.tripsAmong es
  · rfl
  · exact State.issueTrip_pru _

theorem State.issuedFor_bcu : (s.issuedFor es n).bcu = s.bcu := by
  unfold State.issuedFor
  split
  · exact State.issueTrip_bcu _
  · rfl

theorem State.issuedFor_pruStands : (s.issuedFor es n).pruStands = s.pruStands := by
  unfold State.issuedFor
  split
  · exact State.issueTrip_pruStands _
  · rfl

/-- Of PRU, entering OPERATE changes the operation list and, with a TRIP among the elements, trip active (R68, R70). -/
theorem State.operated_pru : (s.operated es n).pru =
    { s.pru with
      operations := es.foldl (fun l e => appendOperation l (operationOf s.cfg s.pru e n)) s.pru.operations,
      tripActive := s.tripsAmong es || s.pru.tripActive } := by
  rw [(s.cons_operated es n).pru, State.issuedFor_pru]
  rfl

theorem State.operated_pruStands : (s.operated es n).pruStands = s.pruStands := by
  rw [← s.issuedFor_pruStands es n]
  exact State.pruStands_congr (s.cons_operated es n).cfg (s.cons_operated es n).pru

variable {s es}

/-- With a TRIP among the elements the TRIP bit is pending and CAP has its TRIP trigger (R71). -/
theorem State.operated_of_trips (trips : s.tripsAmong es = true) :
    (s.operated es n).pendingBit .trip = true ∧ (s.operated es n).cap = (s.trigger .trip).cap := by
  have issued : s.issuedFor es n = (s.listed es n).issueTrip := if_pos trips
  have h := s.cons_operated es n
  rw [issued] at h
  refine ⟨h.pendingBit (State.issueTrip_pendingBit _), ?_⟩
  rw [h.cap, State.issueTrip_cap]
  exact State.trigger_cap_congr .trip

/-- With no TRIP among the elements there is the list and the presentation of a request that stands (R68). -/
theorem State.operated_of_no_trips (plain : s.tripsAmong es = false) :
    s.operated es n = (s.listed es n).presented := by
  have issued : s.issuedFor es n = s.listed es n := if_neg (ne_true_of_eq_false plain)
  have unlocked : ¬s.locksWith es = true := fun locks =>
    have ⟨mem, trip, _⟩ := State.locksWith_iff.mp locks
    ne_true_of_eq_false plain (State.tripsAmong_iff.mpr ⟨_, mem, trip⟩)
  rw [State.operated_eq, if_neg unlocked, issued]

theorem State.operated_of_idle (plain : s.tripsAmong es = false) (idle : s.pruStands = false) :
    s.operated es n = s.listed es n :=
  (State.operated_of_no_trips n plain).trans (State.presented_of_idle idle)

/-- A request that stands opens a CLOSED breaker, with or without lockout after it (R68, R109, log 50). -/
theorem State.operated_bcu_of_closed (stands : s.pruStands = true) (closed : s.bcu.state = .closed) :
    (s.operated es n).bcu = { s.bcu.assertTrip with trippedNow := true } := by
  have trip : (s.issuedFor es n).presented.bcu = { s.bcu.assertTrip with trippedNow := true } := by
    rw [State.presented_of_stands ((s.issuedFor_pruStands es n).trans stands),
      State.tripRequest_of_closed (by rw [State.issuedFor_bcu, closed]), State.issuedFor_bcu]
  rw [State.operated_eq]
  split
  · rw [State.setLockout_bcu_of_not_closing (by rw [trip]; exact nofun), trip]
  · exact trip

theorem State.operated_of_locks (locks : s.locksWith es = true) : (s.operated es n).dbu.lockout = true := by
  rw [State.operated_eq, if_pos locks]
  exact State.setLockout_lockout ..

end Operated

/-! ### ELEMENT_OPERATE and the evaluation at a phasor instant (R64, R66) -/

/-- PRU with other element records. -/
def State.withElements (s : State) (x : Eight ElementRec) : State := s.withPru fun p => { p with elements := x }

/-- The element records after a phasor instant on a result set (R65, R66). -/
def State.tested (s : State) (r : ResultSet) : Eight ElementRec :=
  Eight.ofFn fun e => (s.pru.elements.get e).advance (s.elementTest r e) (elementDelay s.cfg s.pru e)

/-- The element records once one element has advanced. -/
def State.testedAlone (s : State) (r : ResultSet) (e : Element) : Eight ElementRec :=
  Eight.ofFn fun d => if d = e then (s.tested r).get e else s.pru.elements.get d

theorem State.tested_get (s : State) (r : ResultSet) (e : Element) : (s.tested r).get e =
    (s.pru.elements.get e).advance (s.elementTest r e) (elementDelay s.cfg s.pru e) := Eight.get_ofFn ..

/-- The state once PRU has evaluated its elements, before the trip-active test (R64). -/
def State.evaluated (s : State) (r : ResultSet) : State :=
  (s.withElements (s.tested r)).operated (entering s.pru.elements (s.tested r)) (r.label.getD s.lkc.count)

theorem State.pruEvaluate_eq (s : State) (r : ResultSet) : s.pruEvaluate r = (s.evaluated r).tripActiveTest := rfl

theorem exec_elementOperate_of_entering {s : State} {e : Element} (run : s.cfp.run = .run)
    (operate : ((s.tested s.msu.newest).get e).state = .operate) (before : (s.pru.elements.get e).state ≠ .operate) :
    exec (.elementOperate e) s = .next ((s.withElements (s.testedAlone s.msu.newest e)).operated [e]
      (s.msu.newest.label.getD s.lkc.count)) := by
  rw [State.testedAlone, State.tested_get]
  rw [State.tested_get] at operate
  show execElementOperate e s = _
  unfold execElementOperate
  dsimp only
  rw [if_pos (by simp [State.running, run, operate, before])]
  rfl

/-- The element that enters OPERATE makes the request stand when its action is TRIP, and leaves it when it is not (R68). -/
theorem State.testedAlone_stands {s : State} {r : ResultSet} {e : Element}
    (operate : ((s.tested r).get e).state = .operate) (trip : elementAction s.cfg s.pru e = some .trip) :
    (s.withElements (s.testedAlone r e)).pruStands = true := by
  refine (State.pruStands_iff _).mpr ⟨e, ?_, trip⟩
  show ((s.testedAlone r e).get e).state = .operate
  rw [State.testedAlone, Eight.get_ofFn, if_pos rfl, operate]

theorem State.testedAlone_stands_not {s : State} (r : ResultSet) {e : Element} (idle : s.pruStands = false)
    (plain : elementAction s.cfg s.pru e ≠ some .trip) : (s.withElements (s.testedAlone r e)).pruStands = false := by
  refine eq_false_of_ne_true fun stands => ?_
  obtain ⟨d, operate, trip⟩ := (State.pruStands_iff _).mp stands
  have other : d ≠ e := fun same => plain (same ▸ trip)
  refine ne_true_of_eq_false idle (s.pruStands_iff.mpr ⟨d, ?_, trip⟩)
  have kept : (s.testedAlone r e).get d = s.pru.elements.get d := by rw [State.testedAlone, Eight.get_ofFn, if_neg other]
  rw [← kept]
  exact operate

section Evaluate

variable {s : State} {r : ResultSet}

theorem State.evaluated_pruStands : (s.evaluated r).pruStands = true ↔
    ∃ e, ((s.tested r).get e).state = .operate ∧ elementAction s.cfg s.pru e = some .trip := by
  rw [State.evaluated, State.operated_pruStands]
  exact State.pruStands_iff _

/-- The trip-active test after the evaluation reaches trip active alone (R69). -/
theorem State.pruEvaluate_only (s : State) (r : ResultSet) :
    ∃ b, s.pruEvaluate r = (s.evaluated r).withPru fun p => { p with tripActive := b } := State.tripActiveTest_only _

theorem State.pruEvaluate_elements (s : State) (r : ResultSet) : (s.pruEvaluate r).pru.elements = s.tested r := by
  obtain ⟨b, only⟩ := s.pruEvaluate_only r
  rw [only, State.withPru_pru, State.evaluated, State.operated_pru]
  rfl

/-- The elements that enter OPERATE join the operation list in table order (R70). -/
theorem State.pruEvaluate_operations (s : State) (r : ResultSet) : (s.pruEvaluate r).pru.operations =
    (entering s.pru.elements (s.tested r)).foldl
      (fun l e => appendOperation l (operationOf s.cfg (s.withElements (s.tested r)).pru e (r.label.getD s.lkc.count)))
      s.pru.operations := by
  obtain ⟨b, only⟩ := s.pruEvaluate_only r
  rw [only, State.withPru_pru, State.evaluated, State.operated_pru]
  rfl

theorem State.pruEvaluate_of_stands (stands : (s.evaluated r).pruStands = true) : s.pruEvaluate r = s.evaluated r :=
  State.tripActiveTest_of_stands stands

/-- An element that enters OPERATE with TRIP makes the request stand. -/
theorem State.evaluated_stands_of_trips (trips : s.tripsAmong (entering s.pru.elements (s.tested r)) = true) :
    (s.evaluated r).pruStands = true := by
  obtain ⟨e, entered, trip⟩ := State.tripsAmong_iff.mp trips
  exact State.evaluated_pruStands.mpr ⟨e, (mem_entering.mp entered).1, trip⟩

/-- An evaluation in which an element enters OPERATE with TRIP issues the request (R68, R71). -/
theorem State.pruEvaluate_of_trips (trips : s.tripsAmong (entering s.pru.elements (s.tested r)) = true) :
    (s.pruEvaluate r).pru.tripActive = true ∧ (s.pruEvaluate r).pendingBit .trip = true ∧
      (s.pruEvaluate r).cap = (s.trigger .trip).cap := by
  have issued : (s.withElements (s.tested r)).tripsAmong (entering s.pru.elements (s.tested r)) = true := trips
  obtain ⟨pending, cap⟩ := State.operated_of_trips (r.label.getD s.lkc.count) issued
  rw [State.pruEvaluate_of_stands (State.evaluated_stands_of_trips trips)]
  refine ⟨?_, pending, cap.trans ?_⟩
  · rw [State.evaluated, State.operated_pru, issued]; rfl
  · exact State.trigger_cap_congr .trip

/-- With no such element neither CAP nor, while a request stands, trip active is reached (R69, R71). -/
theorem State.pruEvaluate_of_no_trips (plain : s.tripsAmong (entering s.pru.elements (s.tested r)) = false) :
    (s.pruEvaluate r).cap = s.cap ∧
      ((s.evaluated r).pruStands = true → (s.pruEvaluate r).pru.tripActive = s.pru.tripActive) := by
  have kept : (s.withElements (s.tested r)).tripsAmong (entering s.pru.elements (s.tested r)) = false := plain
  refine ⟨?_, fun stands => ?_⟩
  · obtain ⟨b, only⟩ := s.pruEvaluate_only r
    rw [only, State.withPru_cap, State.evaluated, State.operated_of_no_trips _ kept, (State.cons_presented _).cap]
    rfl
  · rw [State.pruEvaluate_of_stands stands, State.evaluated, State.operated_pru, kept]
    rfl

/-- While no request stands PRU alone changes, and trip active clears where the breaker is OPEN (R69). -/
theorem State.pruEvaluate_of_idle (idle : (s.evaluated r).pruStands = false) :
    s.pruEvaluate r = { s with pru := (s.pruEvaluate r).pru } ∧
      (s.pruEvaluate r).pru.tripActive = if s.bcu.state = .opened then false else s.pru.tripActive := by
  have plain : (s.withElements (s.tested r)).tripsAmong (entering s.pru.elements (s.tested r)) = false :=
    eq_false_of_ne_true fun trips => ne_true_of_eq_false idle (State.evaluated_stands_of_trips trips)
  have listed : s.evaluated r =
      (s.withElements (s.tested r)).listed (entering s.pru.elements (s.tested r)) (r.label.getD s.lkc.count) :=
    State.operated_of_idle _ plain ((State.operated_pruStands ..).symm.trans idle)
  rw [State.pruEvaluate_eq, State.tripActiveTest_of_idle idle, listed]
  exact ⟨rfl, rfl⟩

end Evaluate

/-! ### The setting groups (R80, R81) -/

/-- A half whose group changes is put in QUIET, and the other stands (R81). -/
theorem Pru.select_get (p : Pru) (c : Settings) (own : IslandState) (e : Element) :
    (p.select c own).elements.get e =
      if (halfOf e = .fault ∧ (p.select c own).faultGroup ≠ p.faultGroup) ∨
        (halfOf e = .source ∧ (p.select c own).sourceGroup ≠ p.sourceGroup) then .quiet else p.elements.get e := by
  unfold Pru.select Eight.quietHalf
  dsimp only
  generalize Machine.groupOf c.faultMode own p.faultGroup = f
  generalize Machine.groupOf c.sourceMode own p.sourceGroup = g
  by_cases fault : f = p.faultGroup
  · by_cases source : g = p.sourceGroup <;> simp [fault, source]
  · by_cases source : g = p.sourceGroup
    · simp [fault, source]
    · cases half : halfOf e <;> simp [fault, source, half]

theorem groupOf_auto (own : IslandState) (g : Bool) : groupOf (some .auto) own g = false ↔ own = .grid := by
  simp [groupOf]

/-! ### The obligation -/

/-- Settles O25. ELEMENT_OPERATE and the evaluation at a phasor instant both come to `State.operated` on the element records
after their tests, of one element and of all: `tripsAmong` says whether a trip is issued, `pruStands` whether one is
presented. -/
theorem elementOperateEntersOperate : Obligations.ElementOperateEntersOperate := by
  unfold Obligations.ElementOperateEntersOperate
  refine ⟨?operate, ?record, ?tests, ?evaluate, fun s => ⟨rfl, ?quiet, halfOf_eq_fault_iff, ?modes⟩⟩
  case operate =>
    intro e s run operate before
    rw [← State.tested_get] at operate ⊢
    refine ⟨_, exec_elementOperate_of_entering run operate before, ?_⟩
    have stands := State.testedAlone_stands (s := s) operate
    have idle := State.testedAlone_stands_not (s := s) (e := e) s.msu.newest
    have records (d : Element) : (s.testedAlone s.msu.newest e).get d = _ := Eight.get_ofFn ..
    generalize s.msu.newest.label.getD s.lkc.count = n
    generalize s.testedAlone s.msu.newest e = x at stands idle records ⊢
    have pru := (s.withElements x).operated_pru [e] n
    have around := ((s.withElements x).effect_operated [e] n).around
    refine ⟨fun d => ?_, ?_, ?_, ⟨?_, ?_, around.cfg, around.cvp, around.msu, around.lkc, around.pim, around.top⟩,
      fun trip => ?_, fun alarm unasked => ?_⟩
    · rw [pru]; exact records d
    · rw [pru]; exact appendOperation_getLast? ..
    · rw [pru]; exact fun fits => appendOperation_length_eq fits _
    · rw [pru]; rfl
    · rw [pru]; rfl
    · have trips : (s.withElements x).tripsAmong [e] = true := State.tripsAmong_singleton.mpr trip
      refine ⟨?_, (State.operated_of_trips n trips).1, fun closed => ?_, fun high lockout => ?_⟩
      · rw [pru, trips]; rfl
      · rw [State.operated_bcu_of_closed n (stands trip) closed]; exact ⟨rfl, rfl, rfl⟩
      · subst high
        exact State.operated_of_locks n (State.locksWith_iff.mpr ⟨List.mem_singleton_self _, trip, lockout⟩)
    · have plain : elementAction s.cfg s.pru e ≠ some .trip := by rw [alarm]; exact nofun
      have untripped : (s.withElements x).tripsAmong [e] = false :=
        eq_false_of_ne_true fun trips => plain (State.tripsAmong_singleton.mp trips)
      rw [State.operated_of_idle n untripped (idle unasked plain)]
      exact ⟨rfl, rfl⟩
  case record =>
    refine fun r delay least => ⟨rfl, fun x => ⟨fun quiet holds => ?_, fun quiet holds => ?_, fun active drops => ?_,
      fun pickup rides below => ?_, ElementRec.advance_of_standing⟩⟩
    · rw [ElementRec.advance_of_idle quiet holds]; rfl
    · rw [ElementRec.advance_of_started quiet holds]
      obtain ⟨count, state⟩ := ElementRec.quiet.count'_of_below least x.phases
      exact ⟨count, state.trans (by simp only [ElementRec.quiet, Nat.zero_add, eq_comm])⟩
    · rw [ElementRec.advance_of_dropped active drops]; exact ⟨rfl, rfl⟩
    · rw [ElementRec.advance_of_counting pickup rides]; exact r.count'_of_below below x.phases
  case tests =>
    rintro s r e f g rfl rfl
    refine ⟨?_, fun x test => ?_, by cases e <;> rfl, by cases e <;> rfl⟩
    · rw [State.elementTest_eq_none_iff, ownBlock_iff]
      simp only [or_assoc]
    · obtain rfl := State.elementTest_some test
      refine ⟨?_, fun overI highI => conditionTest_plain _ _ _ _ overI highI, ?_, ?_, ?_, ?_, ?_, ?_⟩
      · rintro (rfl | rfl) <;> exact overcurrentTest_iff ..
      case refine_6 => rintro rfl v rate; simp [conditionTest, plainTest, rate, absInt]
      all_goals rintro rfl; exact decide_eq_true_iff
  case evaluate =>
    rintro s t r label enters standing rfl entersIff standingIff
    have elements := s.pruEvaluate_elements r
    rw [elements] at entersIff standingIff ⊢
    have entered : allElements.filter enters = entering s.pru.elements (s.tested r) :=
      List.filter_congr fun e _ => Bool.eq_iff_iff.mpr ((entersIff e).trans (by simp))
    have tripsIff : s.tripsAmong (entering s.pru.elements (s.tested r)) = true ↔
        ∃ e, enters e = true ∧ elementAction s.cfg s.pru e = some .trip := by
      simp only [State.tripsAmong_iff, mem_entering, entersIff]
    have standsIff : (s.evaluated r).pruStands = true ↔ standing := State.evaluated_pruStands.trans standingIff.symm
    refine ⟨s.tested_get r, ?_, fun trips => State.pruEvaluate_of_trips (tripsIff.mpr trips), fun plain => ?_,
      fun stands closed => ?_, fun high trip lockout => ?_, _, _, rfl, rfl, rfl⟩
    · rw [entered, s.pruEvaluate_operations r]
      congr 1
      funext l e
      exact appendOperation_eq ..
    · have untripped : s.tripsAmong (entering s.pru.elements (s.tested r)) = false := by
        refine eq_false_of_ne_true fun trips => ?_
        obtain ⟨e, entered, trip⟩ := tripsIff.mp trips
        exact plain e entered trip
      obtain ⟨cap, active⟩ := State.pruEvaluate_of_no_trips untripped
      exact ⟨cap, fun stands => active (standsIff.mpr stands),
        fun idle => State.pruEvaluate_of_idle (eq_false_of_ne_true fun stands => idle (standsIff.mp stands))⟩
    · have request := standsIff.mpr stands
      rw [State.pruEvaluate_of_stands request, State.evaluated,
        State.operated_bcu_of_closed _ ((State.operated_pruStands ..).symm.trans request) closed]
      exact ⟨rfl, rfl, rfl⟩
    · rw [State.pruEvaluate_of_stands (State.evaluated_stands_of_trips (tripsIff.mpr ⟨_, high, trip⟩))]
      exact State.operated_of_locks _
        (State.locksWith_iff.mpr ⟨mem_entering.mpr ((entersIff _).mp high), trip, lockout⟩)
  case quiet => exact fun e => s.pru.select_get s.cfg s.top.own e
  case modes => exact fun own g => ⟨rfl, rfl, groupOf_auto own g⟩

end Sys2Proof.Machine
end

section
/-! PROOFS. The rows of the differential at the last tick of their counts: the trip of a section (R89, R90, R97), the
zone-blocked alarm (R91) and the expiry of the BF timer (R94, R97). -/

namespace Sys2Proof.Machine

theorem State.running_of_run {s : State} (run : s.cfp.run = .run) : s.running = true := by rw [State.running, run]; rfl

/-! ### The differential of one section -/

@[simp] theorem Dbu.setDiff_diff (d : Dbu) (x : Sec) (f : SectionDiff → SectionDiff) :
    (d.setDiff x f).diff x = f (d.diff x) := by cases x <;> rfl

@[simp] theorem Dbu.setDiff_diff_other (d : Dbu) (x : Sec) (f : SectionDiff → SectionDiff) :
    (d.setDiff x f).diff x.other = d.diff x.other := by cases x <;> rfl

theorem Dbu.setDiff_setDiff (d : Dbu) (x : Sec) (f g : SectionDiff → SectionDiff) :
    (d.setDiff x f).setDiff x g = d.setDiff x fun y => g (f y) := by cases x <;> rfl

@[simp] theorem Dbu.setDiff_timer (d : Dbu) (x : Sec) (f : SectionDiff → SectionDiff) :
    (d.setDiff x f).timer = d.timer := by cases x <;> rfl

@[simp] theorem Dbu.setDiff_notice (d : Dbu) (x : Sec) (f : SectionDiff → SectionDiff) :
    (d.setDiff x f).notice = d.notice := by cases x <;> rfl

@[simp] theorem Dbu.setDiff_lockout (d : Dbu) (x : Sec) (f : SectionDiff → SectionDiff) :
    (d.setDiff x f).lockout = d.lockout := by cases x <;> rfl

@[simp] theorem Dbu.setDiff_lockoutSource (d : Dbu) (x : Sec) (f : SectionDiff → SectionDiff) :
    (d.setDiff x f).lockoutSource = d.lockoutSource := by cases x <;> rfl

theorem Dbu.setDiff_of_fixed {d : Dbu} {x : Sec} {f : SectionDiff → SectionDiff} (fixed : f (d.diff x) = d.diff x) :
    d.setDiff x f = d := by
  cases x
  · exact congrArg (fun y => { d with s1 := y }) fixed
  · exact congrArg (fun y => { d with s2 := y }) fixed

/-! ### What the shared operations leave of DBU and BCU (R93, R97, R109) -/

theorem State.trigger_dbu (s : State) (k : Trigger) : (s.trigger k).dbu = s.dbu := by
  unfold State.trigger State.takeTrigger
  repeat' split
  all_goals rfl

theorem State.setLockout_dbu_set (s : State) (c : LockoutSource) : (s.setLockout c).dbu =
    { s.dbu with lockout := true, lockoutSource := if s.dbu.lockout then s.dbu.lockoutSource else c } := by
  rw [State.setLockout_dbu]
  split
  · rename_i standing; rw [← standing]
  · rfl

/-- Of DBU a trip request reaches the BF timer alone (R93). -/
theorem State.tripRequest_dbu_timer (s : State) : s.tripRequest.dbu =
    { s.dbu with
      timer := if s.dbu.timer = .idle ∧ s.bcu.state ≠ .opened ∧ s.bcu.state ≠ .failedOpen then .running 0
        else s.dbu.timer } := by
  rw [State.tripRequest_dbu, State.bfRequest_dbu]
  split <;> rfl

/-- A trip request leaves an OPEN breaker but for the mark of the request (R109). -/
theorem State.tripRequest_of_opened {s : State} (opened : s.bcu.state = .opened) :
    s.tripRequest.bcu = { s.bcu with trippedNow := true } := by rw [State.tripRequest_bcu, opened]

/-- From clear, setting lockout makes the LOCKOUT bit pending (R97). -/
theorem State.setLockout_pendingBit {s : State} (clear : s.dbu.lockout = false) (c : LockoutSource) :
    (s.setLockout c).pendingBit .lockout = true := by
  rw [State.setLockout, if_neg (ne_true_of_eq_false clear)]
  exact ((State.cons_closeDrop _).trans (State.told_syuEndChecking ..).toConsequence).pendingBit
    (State.raise_pendingBit ..)

/-! ### The trip of a section (R89, R90, R97) -/

section DiffTrip

variable (s : State) (x : Sec)

theorem State.diffIssue_dbu : (s.diffIssue x).dbu = s.dbu.setDiff x fun y => { y with tripping := true } := by
  unfold State.diffIssue
  split
  · rename_i tripping
    refine (Dbu.setDiff_of_fixed ?_).symm
    rw [← tripping]
  · rfl

theorem State.diffIssue_bcu : (s.diffIssue x).bcu = s.bcu := by
  unfold State.diffIssue
  split <;> rfl

theorem State.cons_diffIssue : State.Consequence s (s.diffIssue x) :=
  .ite (.refl s) ((State.Consequence.withDbu ..).trans (.raise ..))

theorem State.cons_diffTrip : State.Consequence s (s.diffTrip x) :=
  ((s.cons_diffIssue x).trans (State.cons_tripRequest _)).trans (State.cons_setLockout ..)

/-- The trip marks its section, starts the BF timer as a trip request does, and sets lockout. -/
theorem State.diffTrip_dbu : (s.diffTrip x).dbu =
    { s.dbu.setDiff x fun y => { y with tripping := true } with
      timer := if s.dbu.timer = .idle ∧ s.bcu.state ≠ .opened ∧ s.bcu.state ≠ .failedOpen then .running 0
        else s.dbu.timer,
      lockout := true, lockoutSource := if s.dbu.lockout then s.dbu.lockoutSource else .diff } := by
  rw [State.diffTrip, State.setLockout_dbu_set, State.tripRequest_dbu_timer, State.diffIssue_dbu, State.diffIssue_bcu,
    Dbu.setDiff_timer, Dbu.setDiff_lockout, Dbu.setDiff_lockoutSource]

variable {s x}

theorem State.diffTrip_bcu_of_closed (closed : s.bcu.state = .closed) :
    (s.diffTrip x).bcu = { s.bcu.assertTrip with trippedNow := true } := by
  have request : (s.diffIssue x).tripRequest.bcu = { s.bcu.assertTrip with trippedNow := true } := by
    rw [State.tripRequest_of_closed (by rw [State.diffIssue_bcu, closed]), State.diffIssue_bcu]
  rw [State.diffTrip, State.setLockout_bcu_of_not_closing (by rw [request]; exact nofun), request]

theorem State.diffTrip_bcu_of_opened (opened : s.bcu.state = .opened) :
    (s.diffTrip x).bcu = { s.bcu with trippedNow := true } := by
  have request : (s.diffIssue x).tripRequest.bcu = { s.bcu with trippedNow := true } := by
    rw [State.tripRequest_of_opened (by rw [State.diffIssue_bcu, opened]), State.diffIssue_bcu]
  rw [State.diffTrip, State.setLockout_bcu_of_not_closing (by rw [request, opened]; exact nofun), request]

/-- A newly issued trip makes the TRIP bit pending (R89). -/
theorem State.diffTrip_pendingBit (fresh : (s.dbu.diff x).tripping = false) : (s.diffTrip x).pendingBit .trip = true := by
  have issued : (s.diffIssue x).pendingBit .trip = true := by
    rw [State.diffIssue, if_neg (ne_true_of_eq_false fresh)]
    exact State.raise_pendingBit ..
  exact ((State.cons_tripRequest _).trans (State.cons_setLockout ..)).pendingBit issued

end DiffTrip

/-! ### The last tick of the confirm count (R89) -/

/-- The count and the last evaluation of a section, with the DIFF trigger as the count leaves 0: what DIFFERENTIAL_TRIP makes
before the trip. -/
def State.counted (s : State) (x : Sec) : State :=
  let t := s.withDbu fun d => d.setDiff x fun y =>
    { y with confirm := confirmAfter (s.dbu.diff x).confirm (s.evaluateSection x), last := s.evaluateSection x }
  if (s.dbu.diff x).confirm = 0 then t.trigger .diff else t

theorem State.lastConfirm_eq (s : State) (x : Sec) : s.lastConfirm x = (s.counted x).diffTrip x := rfl

theorem State.counted_dbu (s : State) (x : Sec) : (s.counted x).dbu = s.dbu.setDiff x fun y =>
    { y with confirm := confirmAfter (s.dbu.diff x).confirm (s.evaluateSection x), last := s.evaluateSection x } := by
  unfold State.counted
  split
  · exact State.trigger_dbu ..
  · rfl

theorem State.counted_bcu (s : State) (x : Sec) : (s.counted x).bcu = s.bcu := by
  unfold State.counted
  split
  · exact State.trigger_bcu ..
  · rfl

theorem State.counted_pru (s : State) (x : Sec) : (s.counted x).pru = s.pru := by
  unfold State.counted
  split
  · exact State.trigger_pru ..
  · rfl

/-- A section that trips counts one further cycle close, up to 4 (R89). -/
theorem State.confirmAfter_of_sectionTrips {s : State} {x : Sec} (trips : s.sectionTrips x = true) :
    confirmAfter (s.dbu.diff x).confirm (s.evaluateSection x) = min 4 ((s.dbu.diff x).confirm + 1) := by
  have holds : (s.evaluateSection x).holds = true := (Bool.and_eq_true_iff.mp trips).1
  rw [confirmAfter, if_pos holds, satInc]

/-- A section's differential after the last tick of its confirm count. -/
def SectionDiff.confirmed (d : SectionDiff) (e : Evaluation) : SectionDiff :=
  { d with confirm := min 4 (d.confirm + 1), last := e, tripping := true }

/-- DBU after the last tick of a section's confirm count (R89, R93, R97). -/
theorem State.lastConfirm_dbu {s : State} {x : Sec} (trips : s.sectionTrips x = true) : (s.lastConfirm x).dbu =
    { s.dbu.setDiff x (·.confirmed (s.evaluateSection x)) with
      timer := if s.dbu.timer = .idle ∧ s.bcu.state ≠ .opened ∧ s.bcu.state ≠ .failedOpen then .running 0
        else s.dbu.timer,
      lockout := true, lockoutSource := if s.dbu.lockout then s.dbu.lockoutSource else .diff } := by
  rw [State.lastConfirm_eq, State.diffTrip_dbu, State.counted_dbu, State.counted_bcu,
    State.confirmAfter_of_sectionTrips trips, Dbu.setDiff_setDiff, Dbu.setDiff_timer, Dbu.setDiff_lockout,
    Dbu.setDiff_lockoutSource]
  cases x <;> rfl

theorem State.lastConfirm_diff {s : State} {x : Sec} (trips : s.sectionTrips x = true) (y : Sec) :
    (s.lastConfirm x).dbu.diff y = (s.dbu.setDiff x (·.confirmed (s.evaluateSection x))).diff y := by
  rw [State.lastConfirm_dbu trips]
  rfl

theorem State.lastConfirm_bcu_of_closed {s : State} {x : Sec} (closed : s.bcu.state = .closed) :
    (s.lastConfirm x).bcu = { s.bcu.assertTrip with trippedNow := true } := by
  rw [State.lastConfirm_eq, State.diffTrip_bcu_of_closed (by rw [State.counted_bcu, closed]), State.counted_bcu]

theorem State.lastConfirm_bcu_of_opened {s : State} {x : Sec} (opened : s.bcu.state = .opened) :
    (s.lastConfirm x).bcu = { s.bcu with trippedNow := true } := by
  rw [State.lastConfirm_eq, State.diffTrip_bcu_of_opened (by rw [State.counted_bcu, opened]), State.counted_bcu]

theorem State.lastConfirm_pru (s : State) (x : Sec) : (s.lastConfirm x).pru = s.pru := by
  rw [State.lastConfirm_eq, State.diffTrip_pru, State.counted_pru]

theorem State.lastConfirm_pendingBit {s : State} {x : Sec} (fresh : (s.dbu.diff x).tripping = false) :
    (s.lastConfirm x).pendingBit .trip = true := by
  refine State.diffTrip_pendingBit (s := s.counted x) ?_
  rw [State.counted_dbu, Dbu.setDiff_diff]
  exact fresh

/-- BCU as a cycle close forms it: the marks cleared (log 9), and the trip requests to come (R106). -/
theorem State.atClose_bcu (s : State) : s.atClose.bcu =
    { s.bcu with acceptedNow := false, endedNow := false, trippedNow := s.atClose.bcu.trippedNow } := by
  have health : s.clearMarks.topClose.checkClose.truHealth.bcu = s.clearMarks.bcu := (State.told_truHealth _).bcu
  have foretold : s.atClose.bcu = { s.clearMarks.topClose.checkClose.truHealth.bcu with
    trippedNow := s.atClose.bcu.trippedNow } := rfl
  rw [foretold, health]
  rfl

/-- What stands again of BCU are the marks of the last cycle close. -/
theorem State.standing_bcu (t s : State) : (t.standing s).bcu = { t.bcu with
    acceptedNow := s.bcu.acceptedNow, trippedNow := s.bcu.trippedNow, endedNow := s.bcu.endedNow } := rfl

theorem exec_differentialTrip_of_trips {s : State} {x : Sec} (run : s.cfp.run = .run) (belongs : s.cfg.belongs x = true)
    (trips : s.atClose.sectionTrips x = true) :
    exec (.differentialTrip x) s = .next ((s.atClose.lastConfirm x).standing s) := by
  show execDifferentialTrip x s = _
  rw [execDifferentialTrip, if_pos (by simp [State.running_of_run run, belongs, trips])]

/-! ### The third cycle close of a blocked zone (R91) -/

theorem blockedAfter_of_blocked {l : LinkState} (sends : l = .publish ∨ l = .duplicate) (n : Nat) (r : BlockReason)
    (k : Option Station) : blockedAfter n (.blocked r k) l = min 3 (n + 1) := if_pos sends

theorem exec_zoneBlocked_of_third {s : State} {x : Sec} (run : s.cfp.run = .run) (belongs : s.cfg.belongs x = true)
    (before : (s.dbu.diff x).blocked = 2)
    (third : blockedAfter 2 (s.atClose.evaluateSection x) s.lkc.link = 3) : exec (.zoneBlocked x) s =
      .next ((s.withDbu fun d => d.setDiff x fun y => { y with blocked := 3 }).raise .zoneBlocked) := by
  show execZoneBlocked x s = _
  rw [execZoneBlocked, if_pos (by simp [State.running_of_run run, belongs, before, third])]

/-! ### The expiry of the BF timer (R94, R97, R111) -/

theorem exec_bfExpiry_of_due {s : State} (run : s.cfp.run = .run) (due : s.bfDue = true) :
    exec .bfExpiry s = .next s.bfExpire := by
  show execBfExpiry s = _
  rw [execBfExpiry, if_pos (by rw [State.running_of_run run, due]; rfl)]

/-- The timer ended with the notice, and a breaker with TRIP asserted in FAILED_OPEN: an expiry before its lockout. -/
def State.bfFail (s : State) : State :=
  let t := s.withDbu fun d => { d with timer := .idle, notice := true }
  if s.bcu.trip then t.withBcu fun b => { b with state := .failedOpen } else t

theorem State.bfExpire_eq (s : State) : s.bfExpire = (s.bfFail.setLockout .bf).raise .bf := rfl

theorem State.cons_bfFail (s : State) : State.Consequence s s.bfFail :=
  .ite ((State.Consequence.withDbu ..).trans (.withBcu ..)) (.withDbu ..)

theorem State.bfFail_dbu (s : State) : s.bfFail.dbu = { s.dbu with timer := .idle, notice := true } := by
  unfold State.bfFail
  split <;> rfl

theorem State.bfFail_bcu_of_trip {s : State} (trip : s.bcu.trip = true) :
    s.bfFail.bcu = { s.bcu with state := .failedOpen } := congrArg State.bcu (if_pos trip)

theorem State.cons_bfExpire (s : State) : State.Consequence s s.bfExpire :=
  (s.cons_bfFail.trans (State.cons_setLockout ..)).trans (.raise ..)

theorem State.bfExpire_dbu (s : State) : s.bfExpire.dbu = { s.dbu with
    timer := .idle, notice := true, lockout := true,
    lockoutSource := if s.dbu.lockout then s.dbu.lockoutSource else .bf } := by
  rw [State.bfExpire_eq, State.raise_dbu, State.setLockout_dbu_set, State.bfFail_dbu]

theorem State.bfExpire_bcu_of_trip {s : State} (trip : s.bcu.trip = true) :
    s.bfExpire.bcu = { s.bcu with state := .failedOpen } := by
  have failed := State.bfFail_bcu_of_trip trip
  rw [State.bfExpire_eq, State.raise_bcu, State.setLockout_bcu_of_not_closing (by rw [failed]; exact nofun), failed]

theorem State.bfExpire_pendingBit_lockout {s : State} (clear : s.dbu.lockout = false) :
    s.bfExpire.pendingBit .lockout = true := by
  have unlocked : s.bfFail.dbu.lockout = false := by rw [State.bfFail_dbu]; exact clear
  exact (State.Consequence.raise ..).pendingBit (State.setLockout_pendingBit unlocked _)

/-! ### The obligation -/

/-- Settles O26, row by row: the trip by what `State.lastConfirm` makes of DBU and of the breaker its cycle close finds, the alarm
by its count, and the expiry as lockout after `State.bfFail`. -/
theorem differentialTripOpensAndLocksOut : Obligations.DifferentialTripOpensAndLocksOut := by
  unfold Obligations.DifferentialTripOpensAndLocksOut
  refine ⟨?trip, fun s run => ⟨?blocked, ?expiry⟩⟩
  case trip =>
    intro x s run belongs trips
    have dbu := State.lastConfirm_dbu trips
    have breaker : s.atClose.bcu.state = s.bcu.state := by rw [State.atClose_bcu]
    have around := (s.atClose.effect_lastConfirm x).around
    rw [State.atClose_dbu, breaker] at dbu
    refine ⟨_, exec_differentialTrip_of_trips run belongs trips, ?diff, ?lockout, fun closed => ?_, fun opened => ?_,
      fun fresh => ?_, ?frame⟩
    case diff =>
      rw [State.standing_dbu, State.lastConfirm_diff trips, State.lastConfirm_diff trips, State.atClose_dbu,
        Dbu.setDiff_diff, Dbu.setDiff_diff_other]
      exact ⟨rfl, rfl, rfl, rfl, rfl⟩
    case lockout =>
      rw [State.standing_dbu, dbu]
      exact ⟨rfl, rfl, Dbu.setDiff_notice .., rfl⟩
    · rw [State.standing_bcu, State.lastConfirm_bcu_of_closed (breaker.trans closed)]
      exact ⟨rfl, rfl, rfl, rfl⟩
    · rw [State.standing_bcu, State.lastConfirm_bcu_of_opened (breaker.trans opened), State.atClose_bcu]
    · rw [← s.atClose_dbu] at fresh
      exact State.lastConfirm_pendingBit fresh
    case frame =>
      exact ⟨around.cfg.trans s.atClose_cfg, around.cvp.trans s.atClose_cvp, around.msu.trans s.atClose_msu,
        around.lkc.trans s.atClose_lkc, around.pim.trans s.atClose_pim, rfl,
        (s.atClose.lastConfirm_pru x).trans s.atClose_pru⟩
  case blocked =>
    intro x r k belongs evaluation sends before
    have third : blockedAfter 2 (s.atClose.evaluateSection x) s.lkc.link = 3 := by
      rw [evaluation, blockedAfter_of_blocked sends]; rfl
    rw [exec_zoneBlocked_of_third run belongs before third]
    cases x <;> rfl
  case expiry =>
    intro n running due
    refine ⟨_, exec_bfExpiry_of_due run (s.bfDue_iff.mpr ⟨n, running, due⟩), s.cons_bfExpire, s.bfExpire_dbu,
      State.raise_pendingBit .., State.bfExpire_pendingBit_lockout, State.bfExpire_bcu_of_trip⟩

end Sys2Proof.Machine
end

section
/-! PROOFS. A contact event of the functions (R101, R102): the line it settles, and what it brings of a pair event (R103), a
trip request (R109), a close drop (R108) and lockout (R97). -/

namespace Sys2Proof.Machine

/-! ### One line of BCU (R101) -/

/-- One line replaced. -/
def State.withLine (s : State) (i : Fin 8) (l : LineState) : State :=
  s.withBcu fun b => { b with lines := b.lines.set i.val l i.isLt }

theorem State.withLine_get_self (s : State) (i : Fin 8) (l : LineState) : (s.withLine i l).bcu.lines.get i = l :=
  Vector.getElem_set_self i.isLt

theorem State.withLine_get_of_ne (s : State) {i j : Fin 8} (ne : j ≠ i) (l : LineState) :
    (s.withLine i l).bcu.lines.get j = s.bcu.lines.get j :=
  Vector.getElem_set_ne i.isLt j.isLt fun same => ne (Fin.ext same.symm)

theorem State.setPin_eq_withLine (s : State) (i : Fin 8) (high : Bool) :
    s.setPin i high = s.withLine i { s.bcu.lines.get i with high := high } := rfl

/-- The read level of a line has become its debounced level (R101). -/
def State.settled (s : State) (i : Fin 8) (high : Bool) : State :=
  s.withLine i { high := high, read := some (readLevel s.cfg i high), level := some (readLevel s.cfg i high), hold := 0 }

theorem State.cons_settled (s : State) (i : Fin 8) (high : Bool) : State.Consequence s (s.settled i high) := by
  unfold State.settled State.withLine
  exact .withBcu ..

/-! ### The contact pair (R103) -/

/-- The pair is read from the store and the lines alone. -/
theorem State.pair_congr {s t : State} (cfg : t.cfg = s.cfg) (lines : t.bcu.lines = s.bcu.lines) : t.pair = s.pair := by
  simp only [State.pair, State.fnLevel, cfg, lines]

theorem State.pairEvent_of_opened {s : State} (opened : s.pair = .opened) :
    s.pairEvent = (s.bfClear .opened).pairState .opened := by
  rw [State.pairEvent, opened]

theorem State.pairEvent_of_closed {s : State} (closed : s.pair = .closed) : s.pairEvent = s.pairState .closed := by
  rw [State.pairEvent, closed]
  rfl

/-- Contacts showing open end the BF timer and the BF notice, in every breaker state (R93, R95). -/
theorem State.pairEvent_dbu_of_opened {s : State} (opened : s.pair = .opened) :
    s.pairEvent.dbu = { s.dbu with timer := .idle, notice := false } := by
  rw [State.pairEvent_of_opened opened, State.pairState_dbu]
  rfl

/-- A CLOSED breaker whose contacts show open has opened uncommanded (R112). -/
theorem State.pairState_opened_of_closed {s : State} (closed : s.bcu.state = .closed) : s.pairState .opened =
    ((s.withBcu fun b => b.rest .opened).breakerAlarm fun a =>
      { a with uncommandedOpen := some s.lkc.count }).uncommandedOpen := by
  unfold State.pairState
  rw [closed]

theorem State.pairState_opened_bcu_of_closed {s : State} (closed : s.bcu.state = .closed) : (s.pairState .opened).bcu =
    { s.bcu.rest .opened with alarms := { s.bcu.alarms with uncommandedOpen := some s.lkc.count } } := by
  rw [State.pairState_opened_of_closed closed, (State.told_uncommandedOpen _).bcu]
  rfl

theorem State.pairState_opened_alarm_of_closed {s : State} (closed : s.bcu.state = .closed) :
    (s.pairState .opened).pendingBit .breakerAlarm = true := by
  rw [State.pairState_opened_of_closed closed]
  exact (State.told_uncommandedOpen _).toConsequence.pendingBit (State.raise_pendingBit ..)

/-- A CLOSING breaker whose contacts show closed with CLOSE asserted has completed its close (R107). -/
theorem State.pairState_closed_bcu_of_closing {s : State} (closing : s.bcu.state = .closing) (close : s.bcu.close = true) :
    (s.pairState .closed).bcu = s.bcu.ended .closed (some .completed) s.lkc.count := by
  have completes : s.pairState .closed = s.becomeClosed (some .completed) := by
    unfold State.pairState
    rw [closing, close]
    rfl
  rw [completes, State.becomeClosed_bcu]

/-! ### The close drop of a close in progress (R108) -/

section Drop

variable {s : State} (closing : s.bcu.state = .closing) (close : s.bcu.close = true)

include closing close

/-- Whatever the contacts show, a close drop releases CLOSE. -/
theorem State.closeDrop_releases : s.closeDrop.bcu.close = false := by
  rw [State.closeDrop_bcu, if_pos ⟨closing, close⟩]
  cases s.pair <;> rfl

theorem State.closeDrop_bcu_of_opened (opened : s.pair = .opened) : s.closeDrop.bcu =
    { s.bcu with close := false }.ended .opened (some .dropped) s.lkc.count := by
  rw [State.closeDrop_bcu, if_pos ⟨closing, close⟩, opened]

/-- Contacts that show no position leave the breaker in CLOSING. -/
theorem State.closeDrop_stays (notOpen : s.pair ≠ .opened) (notClosed : s.pair ≠ .closed) :
    s.closeDrop.bcu.state = .closing := by
  rw [State.closeDrop_bcu, if_pos ⟨closing, close⟩]
  cases pair : s.pair
  case opened => exact absurd pair notOpen
  case closed => exact absurd pair notClosed
  case unjudged | undecided => exact closing

end Drop

/-! ### The consequences of a contact event -/

/-- The consequences of a contact event, in the order in which it takes them. -/
def State.takeAllNews (s : State) (n : ContactNews) : State :=
  (((s.takeNews n .pair).takeNews n .extTrip).takeNews n .extBlock).takeNews n .extLockout

theorem State.cons_takeAllNews (s : State) (n : ContactNews) : State.Consequence s (s.takeAllNews n) :=
  (((State.cons_takeNews ..).trans (State.cons_takeNews ..)).trans (State.cons_takeNews ..)).trans (State.cons_takeNews ..)

/-- No consequence of a contact event moves a line. -/
theorem State.takeAllNews_lines (s : State) (n : ContactNews) : (s.takeAllNews n).bcu.lines = s.bcu.lines := by
  have same : (s.takeAllNews n).linesAndDiffs = s.linesAndDiffs := by
    simp only [State.takeAllNews, State.takeNews_linesAndDiffs]
  exact congrArg Prod.fst same

/-- EXT_LOCKOUT is taken last, whatever else the event brings (R97). -/
theorem State.takeAllNews_lockout (s : State) {n : ContactNews} (lockout : n.extLockout = true) :
    (s.takeAllNews n).dbu.lockout = true := by
  have last (u : State) : u.takeNews n .extLockout = u.setLockout .extLockout := if_pos lockout
  rw [State.takeAllNews, last]
  exact State.setLockout_lockout ..

/-- A close drop reaches no breaker that is not CLOSING (R108). -/
theorem State.closeDrop_of_not_closing {s : State} (h : s.bcu.state ≠ .closing) : s.closeDrop = s :=
  if_neg fun drops => h drops.1

theorem State.takeNews_extBlock_of_not_closing {s : State} (h : s.bcu.state ≠ .closing) (n : ContactNews) :
    s.takeNews n .extBlock = s := by
  show (if n.extBlock then s.closeDrop else s) = s
  rw [State.closeDrop_of_not_closing h, ite_self]

/-- Lockout drops no close of a breaker that is not CLOSING (R97, R108). -/
theorem State.takeNews_extLockout_bcu_of_not_closing {s : State} (h : s.bcu.state ≠ .closing) (n : ContactNews) :
    (s.takeNews n .extLockout).bcu = s.bcu := by
  show (if n.extLockout then s.setLockout .extLockout else s).bcu = s.bcu
  split
  · exact State.setLockout_bcu_of_not_closing h _
  · rfl

/-- EXT_TRIP opens a CLOSED breaker whose contacts the event does not judge: with TRIP asserted, neither the close drop nor
lockout finds a close to end (R109). -/
theorem State.takeAllNews_bcu_of_extTrip {s : State} {n : ContactNews} (trip : n.extTrip = true) (pair : n.pair = false)
    (closed : s.bcu.state = .closed) : (s.takeAllNews n).bcu = { s.bcu.assertTrip with trippedNow := true } := by
  have request := State.tripRequest_of_closed closed
  have opening : s.tripRequest.bcu.state ≠ .closing := by rw [request]; exact nofun
  have unjudged : s.takeNews n .pair = s := if_neg (ne_true_of_eq_false pair)
  have tripped : s.takeNews n .extTrip = s.tripRequest := if_pos trip
  rw [State.takeAllNews, unjudged, tripped, State.takeNews_extBlock_of_not_closing opening,
    State.takeNews_extLockout_bcu_of_not_closing opening, request]

theorem State.takeAllNews_extBlock (s : State) :
    s.takeAllNews { pair := false, extTrip := false, extBlock := true, extLockout := false } = s.closeDrop := rfl

theorem State.takeAllNews_pair (s : State) :
    s.takeAllNews { pair := true, extTrip := false, extBlock := false, extLockout := false } = s.pairEvent := rfl

theorem State.takeAllNews_nothing (s : State) :
    s.takeAllNews { pair := false, extTrip := false, extBlock := false, extLockout := false } = s := rfl

/-! ### The command (R101) -/

theorem exec_contactEvent_of_held {s : State} {i : Fin 8} {high : Bool} (run : s.cfp.run = .run)
    (new : (s.bcu.lines.get i).level ≠ some (readLevel s.cfg i high))
    (held : s.cfg.debounce.toNat ≤ (s.bcu.lines.get i).holdAfter (readLevel s.cfg i high)) :
    exec (.contactEvent i high) s =
      .next ((s.settled i high).takeAllNews (newsOf s.cfg s.bcu.lines (s.settled i high).bcu.lines)) := by
  show execContactEvent i high s = _
  dsimp only [execContactEvent]
  rw [if_pos (by simp [State.running_of_run run, new, held])]
  rfl

theorem exec_contactEvent_of_pin {s : State} {i : Fin 8} {high : Bool}
    (unheld : s.cfp.run = .config ∨ (s.bcu.lines.get i).level = some (readLevel s.cfg i high) ∨
      (s.bcu.lines.get i).holdAfter (readLevel s.cfg i high) < s.cfg.debounce.toNat) :
    exec (.contactEvent i high) s = .next (s.setPin i high) := by
  show execContactEvent i high s = _
  dsimp only [execContactEvent]
  rw [if_neg]
  rcases unheld with config | known | short
  · simp [State.running, config]
  · simp [known]
  · simp [short]

/-! ### The obligation -/

/-- Settles O29: the line by `State.settled`, the consequences by what `State.takeAllNews` makes of the news, and the other
cases by the pin alone. -/
theorem contactEventSettlesTheLine : Obligations.ContactEventSettlesTheLine := by
  unfold Obligations.ContactEventSettlesTheLine
  refine ⟨fun i high s run new held => ?held, fun i high s unheld => ?pin⟩
  case held =>
    have lines := (s.settled i high).takeAllNews_lines (newsOf s.cfg s.bcu.lines (s.settled i high).bcu.lines)
    have reached := (s.settled i high).cons_takeAllNews (newsOf s.cfg s.bcu.lines (s.settled i high).bcu.lines)
    refine ⟨_, exec_contactEvent_of_held run new held, (s.cons_settled i high).trans reached, ?_⟩
    rw [State.pair_congr reached.cfg lines, lines]
    generalize newsOf s.cfg s.bcu.lines (s.settled i high).bcu.lines = n
    refine ⟨⟨s.withLine_get_self .., fun j ne => s.withLine_get_of_ne ne _⟩, State.takeAllNews_lockout _,
      fun trip pair closed => ?trip, fun only closing close => ?block, fun only => ?pair, fun only => ?nothing⟩
    case trip =>
      rw [State.takeAllNews_bcu_of_extTrip (s := s.settled i high) trip pair closed]
      exact ⟨rfl, rfl, rfl⟩
    case block =>
      rw [only, State.takeAllNews_extBlock]
      refine ⟨State.closeDrop_releases closing close, fun opened => ?_, State.closeDrop_stays closing close⟩
      rw [State.closeDrop_bcu_of_opened (s := s.settled i high) closing close opened]
      exact ⟨rfl, rfl⟩
    case pair =>
      rw [only, State.takeAllNews_pair]
      refine ⟨State.pairEvent_dbu_of_opened, fun closed opened => ?_, fun closing close shows => ?_⟩
      · have stands : ((s.settled i high).bfClear .opened).bcu.state = .closed := closed
        rw [State.pairEvent_of_opened opened, State.pairState_opened_bcu_of_closed stands]
        exact ⟨rfl, rfl, State.pairState_opened_alarm_of_closed stands⟩
      · rw [State.pairEvent_of_closed shows,
          State.pairState_closed_bcu_of_closing (s := s.settled i high) closing close]
        exact ⟨rfl, rfl, rfl⟩
    case nothing => rw [only, State.takeAllNews_nothing]; rfl
  case pin =>
    refine ⟨_, exec_contactEvent_of_pin unheld, rfl, fun j => ?_⟩
    rw [State.setPin_eq_withLine]
    split
    case isTrue same => rw [same]; exact s.withLine_get_self ..
    case isFalse ne => exact s.withLine_get_of_ne ne _

end Sys2Proof.Machine
end

section
/-! PROOFS. What every step keeps: the invariants of Safety.lean over the commands that `State.keeps_plain` covers, the resets,
START, STOP, RESET_LATCH and the writes to the store. -/

namespace Sys2Proof.Machine

/-- A choice by equivalent conditions between equal values. -/
theorem ite_of_iff {α : Sort _} {p q : Prop} [Decidable p] [Decidable q] {a b x y : α} (same : p ↔ q) (yes : a = x)
    (no : b = y) : (if p then a else b) = if q then x else y := ite_congr (propext same) (fun _ => yes) fun _ => no

/-! ### Commands in CONFIG (log 14) -/

/-- The commands that change nothing in CONFIG: those of a timer of the part or of a frame. -/
def timedCommand : Instr → Bool
  | .measurementFail | .goodRunComplete | .crossingListTimeout _ | .warmupComplete | .elementOperate _ | .captureHeld
  | .ownSlot | .readBack _ | .recordArrival _ | .cycleClose _ | .listenComplete | .silentSlotExpiry | .selfTimed
  | .differentialTrip _ | .zoneBlocked _ | .bfExpiry | .reconfirmation | .closeSupervisionExpiry | .tripRelease
  | .discrepancyExpiry | .operatorClaimExpiry | .restoreDelayExpiry | .syncSupervisionExpiry | .startFail | .retryExpiry
  | .unloadExpiry | .coolExpiry | .capacityShed | .underfreqShed _ | .deadbusShed | .lossConfirmExpiry | .returnShortExpiry
  | .returnExpiry | .resyncExpiry | .parallelTimeout => true
  | _ => false

theorem State.running_of_config {s : State} (config : s.cfp.run = .config) : s.running = false := by
  simp [State.running, config]

theorem State.run_of_running {s : State} (h : s.running = true) : s.cfp.run = .run := by
  simpa [State.running] using h

theorem State.config_of_not_running {s : State} (h : s.running ≠ true) : s.cfp.run = .config := by
  cases run : s.cfp.run with
  | config => rfl
  | run => exact absurd (State.running_of_run run) h

theorem State.atClose_running (s : State) : s.atClose.running = s.running := by
  simp only [State.running, State.atClose_cfp]

theorem exec_timed_of_config {c : Instr} {s : State} (timed : timedCommand c = true) (config : s.cfp.run = .config) :
    exec c s = .next s := by
  have idle := State.running_of_config config
  have idleClose := s.atClose_running.trans idle
  cases c
  case captureHeld => simp only [exec, execCaptureHeld]; split <;> simp [idle]
  case reconfirmation => simp only [exec, execReconfirmation]; split <;> simp [idle]
  case discrepancyExpiry => simp only [exec, execDiscrepancyExpiry]; split <;> simp [idle]
  case recordArrival => simp [exec, execRecordArrival, State.recordArrival, State.receives, idle]
  case measurementFail | goodRunComplete | crossingListTimeout | warmupComplete =>
    simp [exec, execMeasurementFail, execGoodRunComplete, execCrossingListTimeout, execWarmupComplete, idle]
  case elementOperate | bfExpiry | closeSupervisionExpiry | tripRelease =>
    simp [exec, execElementOperate, execBfExpiry, execCloseSupervisionExpiry, execTripRelease, idle]
  case ownSlot | readBack | cycleClose | listenComplete | silentSlotExpiry | selfTimed =>
    simp [exec, execOwnSlot, execReadBack, execCycleClose, execListenComplete, execSilentSlotExpiry, execSelfTimed,
      State.receives, idle]
  case differentialTrip | zoneBlocked | operatorClaimExpiry | restoreDelayExpiry =>
    simp [exec, execDifferentialTrip, execZoneBlocked, execOperatorClaimExpiry, execRestoreDelayExpiry, idle]
  case syncSupervisionExpiry => simp [exec, execSyncSupervisionExpiry, State.syncTicks, idleClose]
  case startFail | retryExpiry | unloadExpiry | coolExpiry =>
    simp [exec, execStartFail, execRetryExpiry, execUnloadExpiry, execCoolExpiry, State.gcuTicks, idleClose]
  case capacityShed | underfreqShed | deadbusShed =>
    have idleView : s.atClose.fcuView.running = false := idleClose
    simp [exec, execCapacityShed, execUnderfreqShed, execDeadbusShed, State.feederRuns, idleView]
  case lossConfirmExpiry | returnShortExpiry | returnExpiry | resyncExpiry | parallelTimeout =>
    simp [exec, execLossConfirmExpiry, execReturnShortExpiry, execReturnExpiry, execResyncExpiry, execParallelTimeout,
      State.truTicks, idleClose]
  all_goals cases timed

/-- The items of the bias codes and of the link that RUN alone changes. -/
structure State.Idle (s t : State) : Prop where
  gcu : t.gcu = s.gcu := by rfl
  cvp : t.cvp = s.cvp := by rfl
  link : t.lkc.link = s.lkc.link := by rfl

theorem State.idle_acknowledge (s : State) (m : Word) : State.Idle s ((s.acknowledge m).answer .accepted 12) := by
  unfold State.acknowledge
  dsimp only
  split <;> exact {}

theorem exec_plain_of_config {c : Instr} {s t : State} (plain : plainCommand c = true) (config : s.cfp.run = .config)
    (h : exec c s = .next t) : State.Idle s t := by
  cases timed : timedCommand c with
  | true =>
    rw [exec_timed_of_config timed config] at h
    rw [← next_inj h]
    exact {}
  | false =>
    have idle := State.running_of_config config
    cases c
    case sampleStrobe | phasorInstant =>
      simp only [exec, execSampleStrobe, execPhasorInstant, State.strobeAt, idle] at h
      rw [← next_inj h]
      exact {}
    case contactEvent =>
      simp only [exec, execContactEvent, idle] at h
      rw [← next_inj h]
      exact {}
    case openBreaker | closeBreaker | setAuto | setManual | retransferNow | triggerCapture =>
      simp only [exec, execOpenBreaker, execCloseBreaker, execSetAuto, execSetManual, execRetransferNow,
        execTriggerCapture, idle] at h
      rw [← next_inj h]
      exact {}
    case releaseCapture =>
      rw [← next_inj h]
      split <;> exact {}
    case ackAttention | attentionAcknowledgeWrite => rw [← next_inj h]; exact s.idle_acknowledge _
    case portNop | unknownCommand | attentionEnableWrite | groupAccessWrite | peerImageBlockRead =>
      rw [← next_inj h]
      exact {}
    all_goals simp [plainCommand, timedCommand] at plain timed

/-! ### What a command can do to the invariants: one case per kind of command -/

/-- Everything a command can do to the items the invariants read, by the command. -/
inductive State.Moved (s : State) : Instr → State → Prop
  | kept {c : Instr} {t : State} (keeps : State.Keeps s t) (idle : s.cfp.run = .config → State.Idle s t) :
    State.Moved s c t
  | reset {c : Instr} (number : Word) (which : c = .powerOnReset ∨ c = .resetN ∨ c = .softReset ∧ s.cfp.run = .config) :
    State.Moved s c (s.afterReset.answer .accepted number)
  | start (config : s.cfp.run = .config) (checked : s.cfg.checkCode = 0) :
    State.Moved s .start (s.started.answer .accepted 1)
  | stop (run : s.cfp.run = .run) : State.Moved s .stop (s.stopped.answer .accepted 2)
  | unlatch (run : s.cfp.run = .run) : State.Moved s .resetLatch (s.unlatch.answer .accepted 9)
  | store {c : Instr} (config : s.cfp.run = .config) (f : Settings → Settings) : State.Moved s c (s.withCfg f)

variable {c : Instr}

theorem State.moved_same {s t : State} (same : State.Same s t) (idle : State.Idle s t) : State.Moved s c t :=
  .kept same.keeps fun _ => idle

theorem State.moved_answer (s : State) (r : ResultCode) (n : Word) (k : Nat) : State.Moved s c (s.answer r n k) :=
  State.moved_same {} {}

theorem State.moved_raise (s : State) (b : Attention) : State.Moved s c (s.raise b) := State.moved_same {} {}

theorem State.moved_writeTrim (s : State) (x : Triple) (w : Word) : State.Moved s c (s.writeTrim x w) := by
  unfold State.writeTrim
  split
  · exact s.moved_raise _
  · exact .store (State.config_of_not_running ‹_›) _

theorem State.moved_writeStore (s : State) (x : ConfigWrite) : State.Moved s c (s.writeStore x) := by
  unfold State.writeStore
  split
  · split
    · exact s.moved_raise _
    · exact .store (State.config_of_not_running ‹_›) _
  · exact s.moved_raise _

theorem State.moved_writeOther (s : State) (a w : Word) : State.Moved s c (s.writeOther a w) := by
  unfold State.writeOther
  split
  · exact State.moved_same {} {}
  split
  · exact State.moved_same {} {}
  split
  · exact .kept (s.keeps_acknowledge w) fun _ => s.idle_acknowledge w
  split
  · exact s.moved_writeTrim _ w
  split
  · exact s.moved_writeTrim _ w
  · exact s.moved_raise _

/-- What a command can do to the invariants, said once for all of them. -/
theorem exec_moved {c : Instr} {s t : State} (h : exec c s = .next t) : State.Moved s c t := by
  cases plain : plainCommand c with
  | true => exact .kept (State.keeps_plain c plain s t h) fun config => exec_plain_of_config plain config h
  | false =>
    cases c
    case powerOnReset => rw [← next_inj h]; exact .reset 0 (.inl rfl)
    case resetN => rw [← next_inj h]; exact .reset 0 (.inr (.inl rfl))
    case start =>
      rw [← next_inj h]
      split
      · exact s.moved_answer ..
      split
      · exact s.moved_answer ..
      · exact .start (State.config_of_not_running ‹_›) (Classical.not_not.mp ‹_›)
    case stop =>
      rw [← next_inj h]
      split
      · rename_i accepted
        exact .stop (State.run_of_running (Bool.and_eq_true_iff.mp accepted).1)
      · exact s.moved_answer ..
    case softReset =>
      rw [← next_inj h]
      split
      · exact s.moved_answer ..
      · exact .reset 3 (.inr (.inr ⟨rfl, State.config_of_not_running ‹_›⟩))
    case resetLatch =>
      rw [← next_inj h]
      split
      · exact s.moved_answer ..
      split
      · exact s.moved_answer ..
      · exact .unlatch (State.run_of_running (by simpa using ‹¬(!s.running) = true›))
    case broadcastTrimWrite x w => rw [← next_inj h]; exact s.moved_writeTrim x w
    case configurationWrite w =>
      rw [← next_inj h]
      split
      · exact s.moved_writeOther ..
      · exact s.moved_writeStore _
    all_goals simp [plainCommand] at plain

/-! ### START, STOP and the unlatching of lockout -/

/-- RESET_LATCH clears lockout, and then reaches the requesting units alone (R98, R156, R184). -/
theorem State.told_unlatch (s : State) : State.Told (s.withDbu fun d => { d with lockout := false }) s.unlatch := by
  unfold State.unlatch
  dsimp only
  have unit : ∀ u : State, State.Told u (if s.cfg.isRole .generator ∧ s.gcu.unit = .fail then
      (u.gcuSet .idle).withGcu fun g => { g with failReason := .none } else u) := by
    intro u
    split
    · exact (u.told_gcuSet _).trans (.withGcu ..)
    · exact .refl u
  split
  · exact (unit _).trans (.withTru ..)
  · exact unit _

/-- What RESET_LATCH keeps of the state that has lockout cleared. -/
theorem State.keeps_unlatch (s : State) :
    State.Keeps (s.withDbu fun d => { d with lockout := false }) (s.unlatch.answer .accepted 9) :=
  s.told_unlatch.keeps.trans (State.keeps_answer ..)

section Stopped

variable (s : State)

theorem State.stopped_cfg : s.stopped.cfg = s.cfg := (s.told_syuEnd .stopped).cfg

theorem State.stopped_pending : s.stopped.pending = s.pending := (s.told_syuEnd .stopped).pending

theorem State.stopped_cvp : s.stopped.cvp = s.cvp.stop := congrArg Cvp.stop (s.told_syuEnd .stopped).cvp

theorem State.stopped_msu : s.stopped.msu = s.msu := (s.told_syuEnd .stopped).msu

theorem State.stopped_cap : s.stopped.cap = s.cap.stop := congrArg Cap.stop (s.told_syuEnd .stopped).cap

theorem State.stopped_lkc : s.stopped.lkc = s.lkc.stop := congrArg Lkc.stop (s.told_syuEnd .stopped).lkc

theorem State.stopped_pim : s.stopped.pim = s.pim.map stopEntry :=
  congrArg (Vector.map stopEntry) (s.told_syuEnd .stopped).pim

theorem State.stopped_pru : s.stopped.pru = s.pru.quiesce := congrArg Pru.quiesce (s.told_syuEnd .stopped).pru

theorem State.stopped_dbu : s.stopped.dbu = s.dbu.quiesce := congrArg Dbu.quiesce (s.told_syuEnd .stopped).dbu

theorem State.stopped_bcu : s.stopped.bcu = s.bcu.quiesce := congrArg Bcu.quiesce (s.told_syuEnd .stopped).bcu

theorem State.stopped_run : s.stopped.cfp.run = .config := rfl

theorem State.stopped_attempt (h : s.AttemptOk) : s.stopped.AttemptOk :=
  ⟨((s.told_syuEnd .stopped).attempt h).1, fun permit => nomatch permit⟩

end Stopped

theorem bcuOk_quiesce (b : Bcu) (l : Bool) : BcuOk b.quiesce l := by simp [BcuOk, Bcu.quiesce]

theorem Gcu.quiesce_codes (g : Gcu) (c : Settings) : (g.quiesce c).speed = 0 ∧ (g.quiesce c).volt = 0 := by
  unfold Gcu.quiesce
  split <;> exact ⟨rfl, rfl⟩

theorem biasCode_zero : biasCode 0 := by simp [biasCode]

theorem State.stopped_codes (s : State) : s.stopped.gcu.speed = 0 ∧ s.stopped.gcu.volt = 0 :=
  Gcu.quiesce_codes ..

/-! ### The breaker's outputs -/

theorem State.Moved.closeUnlocked {s t : State} (moved : State.Moved s c t) (ok : s.CloseUnlocked) : t.CloseUnlocked := by
  cases moved with
  | kept keeps => exact keeps.outputs ok
  | reset => exact (State.closeUnlocked_iff _).mpr (bcuOk_quiesce Bcu.reset false)
  | start => exact (State.closeUnlocked_iff _).mpr (bcuOk_quiesce s.bcu _)
  | stop =>
    rw [State.closeUnlocked_iff, State.answer_bcu, State.stopped_bcu]
    exact bcuOk_quiesce ..
  | unlatch =>
    refine s.keeps_unlatch.outputs ((State.closeUnlocked_iff _).mpr ?_)
    obtain ⟨close, trip, owner, -⟩ := (State.closeUnlocked_iff s).mp ok
    exact ⟨close, trip, owner, fun _ => rfl⟩
  | store => exact ok

/-! ### The capture banks -/

theorem Cap.start_banks {c : Cap} (ok : (banksConfig c.a.state c.b.state || banksConfig c.b.state c.a.state) = true) :
    (banksRun c.start.a.state c.start.b.state || banksRun c.start.b.state c.start.a.state) = true := by
  cases a : c.a.state <;> cases b : c.b.state <;>
    simp_all [banksConfig, banksRun, Cap.start, Bank.activate]

theorem Bank.stop_state (b : Bank) : b.stop.state = if b.state = .held then .held else .free := by
  unfold Bank.stop
  cases h : b.state <;> simp [h]

theorem Bank.stop_samples (b : Bank) : b.stop.samples = b.samples := by
  unfold Bank.stop
  split <;> rfl

theorem Cap.stop_banks {c : Cap} (ok : (banksRun c.a.state c.b.state || banksRun c.b.state c.a.state) = true) :
    (banksConfig c.stop.a.state c.stop.b.state || banksConfig c.stop.b.state c.stop.a.state) = true := by
  simp only [Cap.stop, Bank.stop_state]
  cases a : c.a.state <;> cases b : c.b.state <;> simp_all [banksConfig, banksRun]

theorem Cap.start_samples (c : Cap) : c.start.a.samples = c.a.samples ∧ c.start.b.samples = c.b.samples := by
  unfold Cap.start
  dsimp only
  split <;> exact ⟨rfl, rfl⟩

theorem State.banksOk_config {s : State} (config : s.cfp.run = .config) :
    s.BanksOk ↔ (banksConfig s.cap.a.state s.cap.b.state || banksConfig s.cap.b.state s.cap.a.state) = true := by
  simp [State.BanksOk, config]

theorem State.banksOk_run {s : State} (run : s.cfp.run = .run) :
    s.BanksOk ↔ (banksRun s.cap.a.state s.cap.b.state || banksRun s.cap.b.state s.cap.a.state) = true := by
  simp [State.BanksOk, run]

theorem State.Moved.banksOk {s t : State} (moved : State.Moved s c t) (ok : s.BanksOk) : t.BanksOk := by
  cases moved with
  | kept keeps => exact keeps.banks ok
  | reset => exact (State.banksOk_config (by rfl)).mpr (by rfl)
  | start config => exact (State.banksOk_run (by rfl)).mpr (Cap.start_banks ((State.banksOk_config config).mp ok))
  | stop run =>
    rw [State.banksOk_config (by rfl), State.answer_cap, State.stopped_cap]
    exact Cap.stop_banks ((State.banksOk_run run).mp ok)
  | unlatch => exact s.keeps_unlatch.banks ok
  | store => exact ok

theorem State.Moved.samplesOk {s t : State} (moved : State.Moved s c t) (ok : s.SamplesOk) : t.SamplesOk := by
  cases moved with
  | kept keeps => exact keeps.samples ok
  | reset => exact reset_samples_wf
  | start =>
    obtain ⟨a, b⟩ := s.cap.start_samples
    exact ⟨a ▸ ok.1, b ▸ ok.2⟩
  | stop =>
    simp only [State.SamplesOk, State.answer_cap, State.stopped_cap, Cap.stop, Bank.stop_samples]
    exact ok
  | unlatch => exact s.keeps_unlatch.samples ok
  | store => exact ok

/-! ### The bias codes -/

theorem State.biasOk_of_zero {s : State} (speed : s.gcu.speed = 0) (volt : s.gcu.volt = 0) : s.BiasOk := by
  refine ⟨?_, ⟨biasCode_toInt _, biasCode_toInt _⟩, fun _ => ⟨speed, volt⟩⟩
  rw [speed, volt]
  exact ⟨biasCode_zero, biasCode_zero⟩

theorem State.Idle.biasOk {s t : State} (idle : State.Idle s t) (config : s.cfp.run = .config) (ok : s.BiasOk) :
    t.BiasOk := by
  obtain ⟨speed, volt⟩ := ok.2.2 (.inl config)
  exact State.biasOk_of_zero (by rw [idle.gcu, speed]) (by rw [idle.gcu, volt])

theorem State.Moved.biasOk {s t : State} (moved : State.Moved s c t) (ok : s.BiasOk) : t.BiasOk := by
  cases moved with
  | kept keeps idle =>
    cases run : s.cfp.run with
    | run => exact keeps.bias run ok
    | config => exact (idle run).biasOk run ok
  | reset => exact State.biasOk_of_zero rfl rfl
  | start =>
    obtain ⟨speed, volt⟩ := s.gcu.quiesce_codes s.cfg
    exact State.biasOk_of_zero speed volt
  | stop =>
    obtain ⟨speed, volt⟩ := s.stopped_codes
    exact State.biasOk_of_zero speed volt
  | unlatch run => exact s.keeps_unlatch.bias run ok
  | store config =>
    obtain ⟨speed, volt⟩ := ok.2.2 (.inl config)
    exact State.biasOk_of_zero speed volt

/-! ### Run control and the counts -/

theorem State.Moved.checkedOk {s t : State} (moved : State.Moved s c t) (ok : s.CheckedOk) : t.CheckedOk := by
  cases moved with
  | kept keeps => intro run; rw [keeps.cfg]; exact ok (keeps.run ▸ run)
  | reset => intro run; cases run
  | start config checked => exact fun _ => checked
  | stop => intro run; cases run
  | unlatch run =>
    intro _
    rw [State.answer_cfg, s.told_unlatch.cfg]
    exact ok run
  | store config => intro run; rw [State.withCfg_cfp, config] at run; cases run

theorem State.Moved.linkOk {s t : State} (moved : State.Moved s c t) (ok : s.LinkOk) : t.LinkOk := by
  cases moved with
  | kept keeps idle =>
    cases run : s.cfp.run with
    | run => exact keeps.link run ok
    | config =>
      unfold State.LinkOk
      rw [(idle run).link, keeps.run]
      exact ok
  | reset => exact ⟨fun _ => rfl, fun _ => rfl⟩
  | start => exact ⟨(fun off => nomatch off), (fun config => nomatch config)⟩
  | stop => exact ⟨fun _ => rfl, fun _ => rfl⟩
  | unlatch run => exact s.keeps_unlatch.link run ok
  | store => exact ok

theorem State.Moved.countsOk {s t : State} (moved : State.Moved s c t) (ok : s.CountsOk) : t.CountsOk := by
  cases moved with
  | kept keeps => exact keeps.counts ok
  | reset => simp [State.CountsOk, State.afterReset, State.reset, Cvp.reset, Cap.reset, Lkc.reset, Dbu.reset,
      SectionDiff.reset, Bcu.reset, Pru.reset]
  | start =>
    obtain ⟨-, -, -, -, -, operations⟩ := ok
    have none := Nat.zero_le
    refine ⟨⟨none _, none _⟩, ?_, ⟨none _, none _, none _, none _⟩, ⟨⟨none _, none _⟩, none _, none _⟩, none _, operations⟩
    simp only [State.answer_cap, State.started, Cap.start]
    split <;> exact Nat.zero_le _
  | stop =>
    obtain ⟨cvp, cap, lkc, -, -, operations⟩ := ok
    unfold State.CountsOk
    rw [State.answer_cvp, State.answer_cap, State.answer_lkc, State.answer_dbu, State.answer_bcu, State.answer_pru,
      State.stopped_cvp, State.stopped_cap, State.stopped_lkc, State.stopped_dbu, State.stopped_bcu, State.stopped_pru]
    have none := Nat.zero_le
    exact ⟨cvp, cap, lkc, ⟨⟨none _, none _⟩, none _, none _⟩, none _, operations⟩
  | unlatch => exact s.keeps_unlatch.counts ok
  | store => exact ok

theorem State.Moved.attemptOk {s t : State} (moved : State.Moved s c t) (ok : s.AttemptOk) : t.AttemptOk := by
  cases moved with
  | kept keeps => exact keeps.attempt ok
  | reset => simp [State.AttemptOk, State.afterReset, State.reset, Syu.reset]
  | start => simp [State.AttemptOk, State.started, Syu.reset]
  | stop => exact s.stopped_attempt ok
  | unlatch => exact s.keeps_unlatch.attempt ok
  | store => exact ok

/-! ### The step -/

/-- A step idles, or it performs the front command on the state with the queue's rest. -/
theorem step_cases {s t : State} (h : step s = .next t) :
    t = s ∨ ∃ (c : Instr) (rest : List Instr), s.pending = c :: rest ∧ exec c (s.withPending rest) = .next t := by
  unfold step at h
  split at h
  case h_1 => exact .inl (next_inj h).symm
  case h_2 c rest front => exact .inr ⟨c, rest, front, h⟩

/-- A condition that does not read the queue, and that every command keeps, is kept by every step. -/
theorem step_keeps {ok : State → Prop} (queue : ∀ s q, ok s → ok (s.withPending q))
    (command : ∀ c s t, State.Moved s c t → ok s → ok t) {s t : State} (h : step s = .next t) (before : ok s) : ok t := by
  rcases step_cases h with rfl | ⟨c, rest, -, effect⟩
  · exact before
  · exact command _ _ _ (exec_moved effect) (queue s rest before)

/-! ### Completion and the bounds of a command -/

theorem exec_completes (c : Instr) (s : State) : ∃ t, exec c s = .next t := by
  cases c <;> exact ⟨_, rfl⟩

theorem State.Moved.pending {s t : State} (moved : State.Moved s c t) : t.pending = s.pending := by
  cases moved with
  | kept keeps => exact keeps.pending
  | stop => exact s.stopped_pending
  | unlatch => exact s.told_unlatch.pending
  | _ => rfl

/-- Lockout is cleared by a reset and by RESET_LATCH alone (R97, R98). -/
theorem State.Moved.latch {s t : State} (moved : State.Moved s c t) (set : s.dbu.lockout = true)
    (clear : t.dbu.lockout = false) : c = .powerOnReset ∨ c = .resetN ∨ c = .softReset ∨ c = .resetLatch := by
  cases moved with
  | kept keeps => rw [keeps.latch set] at clear; cases clear
  | reset _ which => exact which.imp_right (Or.imp_right fun soft => .inl soft.1)
  | start => cases set.symm.trans clear
  | stop => rw [State.answer_dbu, s.stopped_dbu] at clear; cases set.symm.trans clear
  | unlatch => exact .inr (.inr (.inr rfl))
  | store => cases set.symm.trans clear

/-- In RUN a reset alone changes the store (R192, R194). -/
theorem State.Moved.store_changed {s t : State} (moved : State.Moved s c t) (run : s.cfp.run = .run)
    (changed : t.cfg ≠ s.cfg) : c = .powerOnReset ∨ c = .resetN := by
  cases moved with
  | kept keeps => exact absurd keeps.cfg changed
  | reset _ which => exact which.imp_right fun h => h.resolve_right fun soft => by rw [soft.2] at run; cases run
  | start => exact absurd rfl changed
  | stop => exact absurd s.stopped_cfg changed
  | unlatch => exact absurd s.told_unlatch.cfg changed
  | store config => rw [config] at run; cases run

/-- The run state is changed by START, STOP and the two hardware resets alone (R194). -/
theorem State.Moved.run_changed {s t : State} (moved : State.Moved s c t) (changed : t.cfp.run ≠ s.cfp.run) :
    c = .powerOnReset ∨ c = .resetN ∨ c = .start ∨ c = .stop := by
  cases moved with
  | kept keeps => exact absurd keeps.run changed
  | reset _ which => exact which.imp_right (Or.imp_right fun soft => absurd soft.2.symm changed)
  | start => exact .inr (.inr (.inl rfl))
  | stop => exact .inr (.inr (.inr rfl))
  | unlatch => exact absurd s.told_unlatch.run changed
  | store => exact absurd rfl changed

/-! ### The obligations -/

/-- Settles O56: the outputs through every kind of command a step can take. -/
theorem stepKeepsCloseUnlocked : Obligations.StepKeepsCloseUnlocked :=
  fun _ _ ok h => step_keeps (ok := State.CloseUnlocked) (fun _ _ => id) (fun _ _ _ => State.Moved.closeUnlocked) h ok

/-- Settles O57: bank states and samples, each from itself alone. -/
theorem stepKeepsTheCaptureBanks : Obligations.StepKeepsTheCaptureBanks :=
  fun _ _ h => ⟨step_keeps (ok := State.BanksOk) (fun _ _ => id) (fun _ _ _ => State.Moved.banksOk) h,
    step_keeps (ok := State.SamplesOk) (fun _ _ => id) (fun _ _ _ => State.Moved.samplesOk) h⟩

/-- Settles O58: in CONFIG the codes stand at 0, and START, STOP and the resets put them there. -/
theorem stepKeepsTheBiasCodes : Obligations.StepKeepsTheBiasCodes :=
  fun _ _ ok h => step_keeps (ok := State.BiasOk) (fun _ _ => id) (fun _ _ _ => State.Moved.biasOk) h ok

/-- Settles O59: four invariants, each kept on its own. -/
theorem stepKeepsRunControlAndCounts : Obligations.StepKeepsRunControlAndCounts :=
  fun _ _ ⟨checked, link, counts, attempt⟩ h =>
    ⟨step_keeps (ok := State.CheckedOk) (fun _ _ => id) (fun _ _ _ => State.Moved.checkedOk) h checked,
      step_keeps (ok := State.LinkOk) (fun _ _ => id) (fun _ _ _ => State.Moved.linkOk) h link,
      step_keeps (ok := State.CountsOk) (fun _ _ => id) (fun _ _ _ => State.Moved.countsOk) h counts,
      step_keeps (ok := State.AttemptOk) (fun _ _ => id) (fun _ _ _ => State.Moved.attemptOk) h attempt⟩

/-- Settles O60: power-on reset is one of the moves that puts each invariant in place. -/
theorem resetMeetsTheInvariants : Obligations.ResetMeetsTheInvariants := by
  refine ⟨(State.closeUnlocked_iff _).mpr (bcuOk_quiesce Bcu.reset false), ⟨(State.banksOk_config (by rfl)).mpr (by rfl), reset_samples_wf⟩,
    State.biasOk_of_zero rfl rfl, (fun run => nomatch run), ⟨fun _ => rfl, fun _ => rfl⟩, ?_, ?_⟩
  · simp [State.CountsOk, State.reset, Cvp.reset, Cap.reset, Lkc.reset, Dbu.reset, SectionDiff.reset, Bcu.reset, Pru.reset]
  · simp [State.AttemptOk, State.reset, Syu.reset]

/-- Settles O4: each bound read off the kind of the command. -/
theorem commandsCompleteAndKeepTheirBounds : Obligations.CommandsCompleteAndKeepTheirBounds := by
  intro c s
  obtain ⟨t, h⟩ := exec_completes c s
  have moved := exec_moved h
  exact ⟨t, h, moved.pending, moved.latch, moved.store_changed, moved.run_changed⟩

end Sys2Proof.Machine
end

section
/-! PROOFS. What a cancel, a change of the transfer state and an answer leave in CLU, SYU, FCU and TRU (R114, R119, R120, R141,
R176). -/

namespace Sys2Proof.Machine

/-! ### Cancels (R119, R141) -/

theorem State.cancelClaim_only (s : State) (o : Origin) :
    s.cancelClaim o = { s with clu := { s.clu with claim := (s.cancelClaim o).clu.claim } } := by
  unfold State.cancelClaim
  split <;> rfl

theorem State.cancelClaim_claim (s : State) (o : Origin) :
    (s.cancelClaim o).clu.claim = s.clu.claim.filter fun c => c.origin != o := by
  unfold State.cancelClaim
  cases claim : s.clu.claim with
  | none => simp [claim]
  | some c => cases of : c.origin == o <;> simp_all [Option.filter]

/-- After its cancel a unit has no claim. -/
theorem State.cancelClaim_origin {s : State} {o : Origin} {c : Claim} (h : (s.cancelClaim o).clu.claim = some c) :
    c.origin ≠ o := by
  rw [s.cancelClaim_claim, Option.filter_eq_some_iff] at h
  simpa using h.2

theorem State.cancelAttempt_only (s : State) (o : SyncOwner) :
    s.cancelAttempt o = { s with
      syu := (s.cancelAttempt o).syu, tru := { s.tru with lastAnswer := (s.cancelAttempt o).tru.lastAnswer } } := by
  unfold State.cancelAttempt
  split
  · dsimp only
    split <;> rfl
  · rfl

theorem State.cancelAttempt_syu (s : State) (o : SyncOwner) :
    (s.cancelAttempt o).syu =
      if s.syu.state = .checking ∧ s.syu.owner = some o then (s.endAttempt .cancelled).syu else s.syu := by
  unfold State.cancelAttempt
  split
  · dsimp only
    split <;> rfl
  · rfl

/-- After its cancel a unit has no attempt in CHECKING. -/
theorem State.cancelAttempt_checking (s : State) (o : SyncOwner) :
    ¬((s.cancelAttempt o).syu.state = .checking ∧ (s.cancelAttempt o).syu.owner = some o) := by
  rw [s.cancelAttempt_syu]
  split
  · rintro ⟨checking, -⟩
    cases checking
  · assumption

/-- An attempt that is not the unit's in CHECKING stands. -/
theorem State.cancelAttempt_of_other {s : State} {o : SyncOwner}
    (other : ¬(s.syu.state = .checking ∧ s.syu.owner = some o)) : s.cancelAttempt o = s := if_neg other

/-! ### A change of the transfer state (R175, R176, R189) -/

theorem State.truSet_of_ne {s : State} {x : TransferState} (ne : s.tru.state ≠ x) :
    s.truSet x = ((s.withTru fun t =>
      { t with state := x, enteredNow := true,
               lossCount := if x = .lossConfirm then 0 else t.lossCount,
               returnCount := if x = .returnWait then 0 else t.returnCount,
               resyncCount := if x = .resync then 0 else t.resyncCount,
               parallelCount := if x = .parallel then 0 else t.parallelCount,
               reference := if x = .resync then t.healthLine else t.reference,
               direction := directionOf x }).truReflag).raise .transferChange := if_neg ne

theorem State.truSet_of_eq {s : State} {x : TransferState} (same : s.tru.state = x) : s.truSet x = s := if_pos same

theorem State.truLeave_of_eq {s : State} {x : TransferState} (same : s.tru.state = x) : s.truLeave x = s := if_pos same

theorem State.truLeave_of_ne {s : State} {x : TransferState} (ne : s.tru.state ≠ x) :
    s.truLeave x = ((s.cancelClaim .tru).cancelAttempt .tru).truSet x := if_neg ne

/-- The state in which TRU's claim and attempt are cancelled. -/
def State.truCancelled (s : State) : State := (s.cancelClaim .tru).cancelAttempt .tru

theorem State.truCancelled_only (s : State) :
    s.truCancelled = { s with
      clu := { s.clu with claim := s.truCancelled.clu.claim }, syu := s.truCancelled.syu,
      tru := { s.tru with lastAnswer := s.truCancelled.tru.lastAnswer } } := by
  unfold State.truCancelled
  rw [State.cancelAttempt_only, State.cancelClaim_only]

theorem State.truCancelled_claim {s : State} {c : Claim} (h : s.truCancelled.clu.claim = some c) : c.origin ≠ .tru := by
  rw [State.truCancelled, State.cancelAttempt_only] at h
  exact State.cancelClaim_origin h

theorem State.truCancelled_checking (s : State) :
    ¬(s.truCancelled.syu.state = .checking ∧ s.truCancelled.syu.owner = some .tru) :=
  (s.cancelClaim .tru).cancelAttempt_checking .tru

/-- TRU after it has left for another state, its last answer and the cancels apart. -/
def Tru.entering (t : Tru) (x : TransferState) (own : IslandState) : Tru :=
  { t with
    state := x, enteredNow := true,
    lossCount := if x = .lossConfirm then 0 else t.lossCount,
    returnCount := if x = .returnWait then 0 else t.returnCount,
    resyncCount := if x = .resync then 0 else t.resyncCount,
    parallelCount := if x = .parallel then 0 else t.parallelCount,
    direction := directionOf x, startDemand := demandStands x own, openDemand := x == .openReturn,
    parallelTimeout := t.parallelTimeout && x == .parallel,
    reference := if resyncStands x then (if x = .resync then t.healthLine else t.reference) else 0 }

theorem State.truLeave_eq {s : State} {x : TransferState} (ne : s.tru.state ≠ x) :
    s.truLeave x = (s.truCancelled.withTru fun t => t.entering x s.top.own).raise .transferChange := by
  rw [State.truLeave_of_ne ne]
  show s.truCancelled.truSet x = _
  rw [State.truSet_of_ne (by rw [s.truCancelled_only]; exact ne), s.truCancelled_only]
  rfl

theorem State.truLeave_tru {s : State} {x : TransferState} (ne : s.tru.state ≠ x) :
    (s.truLeave x).tru = { s.tru.entering x s.top.own with lastAnswer := s.truCancelled.tru.lastAnswer } := by
  rw [State.truLeave_eq ne, State.raise_tru, State.withTru_tru, s.truCancelled_only]
  rfl

theorem State.truLeave_state (s : State) (x : TransferState) : (s.truLeave x).tru.state = x := by
  by_cases same : s.tru.state = x
  · rw [State.truLeave_of_eq same, same]
  · rw [State.truLeave_tru same]
    rfl

theorem State.truLeave_mode (s : State) (x : TransferState) : (s.truLeave x).tru.mode = s.tru.mode := by
  by_cases same : s.tru.state = x
  · rw [State.truLeave_of_eq same]
  · rw [State.truLeave_tru same]
    rfl

theorem State.truLeave_hold (s : State) (x : TransferState) : (s.truLeave x).tru.hold = s.tru.hold := by
  by_cases same : s.tru.state = x
  · rw [State.truLeave_of_eq same]
  · rw [State.truLeave_tru same]
    rfl

theorem State.truLeave_clu {s : State} {x : TransferState} (ne : s.tru.state ≠ x) :
    (s.truLeave x).clu = s.truCancelled.clu := by rw [State.truLeave_eq ne]; rfl

theorem State.truLeave_syu {s : State} {x : TransferState} (ne : s.tru.state ≠ x) :
    (s.truLeave x).syu = s.truCancelled.syu := by rw [State.truLeave_eq ne]; rfl

theorem State.truLeave_gcu (s : State) (x : TransferState) : (s.truLeave x).gcu = s.gcu := by
  by_cases same : s.tru.state = x
  · rw [State.truLeave_of_eq same]
  · rw [State.truLeave_eq same, s.truCancelled_only]
    rfl

theorem State.truLeave_fcu (s : State) (x : TransferState) : (s.truLeave x).fcu = s.fcu := by
  by_cases same : s.tru.state = x
  · rw [State.truLeave_of_eq same]
  · rw [State.truLeave_eq same, s.truCancelled_only]
    rfl

theorem State.truLeave_pendingBit {s : State} {x : TransferState} (ne : s.tru.state ≠ x) :
    (s.truLeave x).pendingBit .transferChange = true := by
  rw [State.truLeave_eq ne]
  exact State.raise_pendingBit ..

/-! ### An ending other than COMPLETED -/

/-- What a cancel or an answer other than COMPLETED can do in CLU, SYU and FCU: a claim and an attempt can go, the pending
operator close and a feeder in MANUAL_OPEN stand. -/
structure State.Quiets (s t : State) : Prop where
  cfg : t.cfg = s.cfg := by rfl
  pendingClose : t.clu.pendingClose = s.clu.pendingClose := by rfl
  claim : t.clu.claim = s.clu.claim ∨ t.clu.claim = none := by exact .inl rfl
  syu : t.syu = s.syu ∨ t.syu.state = .idle := by exact .inl rfl
  fcu : s.fcu.state = .manualOpen → t.fcu = s.fcu := by exact fun _ => rfl

theorem State.Quiets.trans {s t u : State} (h : State.Quiets s t) (k : State.Quiets t u) : State.Quiets s u where
  cfg := k.cfg.trans h.cfg
  pendingClose := k.pendingClose.trans h.pendingClose
  claim := by
    rcases k.claim with same | gone
    · rw [same]; exact h.claim
    · exact .inr gone
  syu := by
    rcases k.syu with same | idle
    · rw [same]; exact h.syu
    · exact .inr idle
  fcu manual := by
    have first := h.fcu manual
    exact (k.fcu (first ▸ manual)).trans first

theorem State.quiets_cancelClaim (s : State) (o : Origin) : State.Quiets s (s.cancelClaim o) := by
  unfold State.cancelClaim
  split
  · exact { claim := .inr rfl }
  · exact {}

theorem State.quiets_endAttempt (s : State) (a : Answer) : State.Quiets s (s.endAttempt a) := { syu := .inr rfl }

theorem State.quiets_cancelAttempt (s : State) (o : SyncOwner) : State.Quiets s (s.cancelAttempt o) := by
  rw [s.cancelAttempt_only, s.cancelAttempt_syu]
  split
  · exact { syu := .inr rfl }
  · exact {}

theorem State.quiets_gcuSet (s : State) (u : UnitState) : State.Quiets s (s.gcuSet u) := by
  unfold State.gcuSet
  split <;> exact {}

theorem State.quiets_truCancelled (s : State) : State.Quiets s s.truCancelled :=
  (s.quiets_cancelClaim _).trans (State.quiets_cancelAttempt ..)

theorem State.quiets_truLeave (s : State) (x : TransferState) : State.Quiets s (s.truLeave x) := by
  by_cases same : s.tru.state = x
  · rw [State.truLeave_of_eq same]; exact {}
  · rw [State.truLeave_eq same]
    exact s.quiets_truCancelled.trans {}

/-- What an ending other than COMPLETED can do to mode and transfer state: nothing, the end of automatic transfer in a tie, and
in any other station RESYNC to ON_ALTERNATE and OPEN_RETURN to DEAD_WAIT (R176, R181, R183, R187). -/
def Tru.FailsTo (t u : Tru) (tie : Bool) : Prop :=
  (u.mode = t.mode ∧ u.state = t.state) ∨ (tie = true ∧ u.mode = .manual ∧ u.state = .manual) ∨
    (tie = false ∧ u.mode = t.mode ∧
      ((t.state = .resync ∧ u.state = .onAlternate) ∨ (t.state = .openReturn ∧ u.state = .deadWait)))

theorem Tru.FailsTo.trans {t u v : Tru} {tie : Bool} (h : t.FailsTo u tie) (k : u.FailsTo v tie) : t.FailsTo v tie := by
  unfold Tru.FailsTo at *
  grind

/-- What an ending other than COMPLETED can do in the requesting units. -/
structure State.Subsides (s t : State) : Prop extends State.Quiets s t where
  transfer : s.tru.FailsTo t.tru (s.cfg.isRole .tie) := by exact .inl ⟨rfl, rfl⟩

theorem State.Subsides.trans {s t u : State} (h : State.Subsides s t) (k : State.Subsides t u) : State.Subsides s u where
  toQuiets := h.toQuiets.trans k.toQuiets
  transfer := h.transfer.trans (h.cfg ▸ k.transfer)

/-- The operations that leave TRU. -/
theorem State.Quiets.subsides {s t : State} (h : State.Quiets s t) (tru : t.tru.mode = s.tru.mode ∧ t.tru.state = s.tru.state) :
    State.Subsides s t := { toQuiets := h, transfer := .inl tru }

theorem State.subsides_cancelClaim (s : State) (o : Origin) : State.Subsides s (s.cancelClaim o) :=
  (s.quiets_cancelClaim o).subsides (by rw [s.cancelClaim_only]; exact ⟨rfl, rfl⟩)

theorem State.subsides_cancelAttempt (s : State) (o : SyncOwner) : State.Subsides s (s.cancelAttempt o) :=
  (s.quiets_cancelAttempt o).subsides (by rw [s.cancelAttempt_only]; exact ⟨rfl, rfl⟩)

theorem State.subsides_gcuSet (s : State) (u : UnitState) : State.Subsides s (s.gcuSet u) :=
  (s.quiets_gcuSet u).subsides (by unfold State.gcuSet; split <;> exact ⟨rfl, rfl⟩)

theorem State.subsides_gcuFail (s : State) (r : FailReason) : State.Subsides s (s.gcuFail r) :=
  (((s.subsides_cancelClaim _).trans (State.subsides_cancelAttempt ..)).trans (State.subsides_gcuSet ..)).trans {}

theorem State.subsides_gcuHear (s : State) (a : Answer) : State.Subsides s (s.gcuHear a) := by
  unfold State.gcuHear
  repeat' split
  all_goals first
    | exact {}
    | exact s.subsides_gcuSet _
    | exact s.subsides_gcuFail _

theorem State.subsides_truFailed (s : State) : State.Subsides s s.truFailed := by
  unfold State.truFailed
  split
  case isTrue tie =>
    split
    · refine ⟨State.Quiets.trans (t := s.setMode .manual) ?_ (State.quiets_truLeave ..),
        .inr (.inl ⟨tie, ?_, State.truLeave_state ..⟩)⟩
      · unfold State.setMode
        split <;> exact {}
      · rw [State.truLeave_mode]
        unfold State.setMode
        split
        · assumption
        · rfl
    · exact {}
  case isFalse plain =>
    dsimp only
    split
    case h_1 resync =>
      exact { toQuiets := State.Quiets.trans (t := s.withTru fun t => { t with hold := true }) {} (State.quiets_truLeave ..),
              transfer := .inr (.inr ⟨by simpa using plain, State.truLeave_mode .., .inl ⟨resync, State.truLeave_state ..⟩⟩) }
    case h_2 openReturn =>
      exact { toQuiets := State.Quiets.trans (t := s.withTru fun t => { t with hold := true }) {} (State.quiets_truLeave ..),
              transfer := .inr (.inr ⟨by simpa using plain, State.truLeave_mode .., .inr ⟨openReturn, State.truLeave_state ..⟩⟩) }
    case h_3 => exact {}

section Answers

variable (s : State) {a : Answer} (ending : a ≠ .outcome .completed)

include ending

theorem State.subsides_truHear : State.Subsides s (s.truHear a) := by
  have noted : State.Subsides s (s.truNote a) := {}
  unfold State.truHear
  dsimp only
  split
  · exact absurd rfl ending
  · exact noted.trans (State.subsides_truFailed _)
  · exact noted.trans (State.subsides_truFailed _)
  · exact noted.trans (State.subsides_truFailed _)
  · exact noted

theorem State.subsides_fcuHear : State.Subsides s (s.fcuHear a) := by
  unfold State.fcuHear
  split
  · exact {}
  case isFalse other =>
    split
    · exact absurd rfl ending
    all_goals exact { fcu := fun manual => absurd manual other }

theorem State.subsides_operatorHear : State.Subsides s (s.operatorHear a) := by
  unfold State.operatorHear
  dsimp only
  split <;> exact {}

theorem State.subsides_tellClaimant (o : Origin) : State.Subsides s (s.tellClaimant o a) := by
  cases o with
  | tru =>
    unfold State.tellClaimant
    dsimp only
    split
    · exact (s.subsides_truHear ending).trans {}
    · exact s.subsides_truHear ending
  | gcu => exact s.subsides_gcuHear a
  | fcu => exact s.subsides_fcuHear ending
  | operator => exact s.subsides_operatorHear ending

theorem State.subsides_tellOwner (o : Option SyncOwner) : State.Subsides s (s.tellOwner o a) := by
  unfold State.tellOwner
  split
  · exact (s.subsides_truHear ending).trans {}
  · exact s.subsides_gcuHear a
  · exact {}
  · exact {}

theorem State.subsides_syuEnd : State.Subsides s (s.syuEnd a) := by
  unfold State.syuEnd
  split
  · exact {}
  · exact State.Subsides.trans { toQuiets := s.quiets_endAttempt a } (State.subsides_tellOwner _ ending _)

/-- An attempt that has ended is IDLE, whatever its owner does with the answer. -/
theorem State.syuEnd_idle : (s.syuEnd a).syu.state = .idle := by
  unfold State.syuEnd
  split
  · assumption
  · rcases (State.subsides_tellOwner (s.endAttempt a) ending s.syu.owner).syu with same | idle
    · rw [same]; rfl
    · exact idle

theorem State.subsides_syuEndChecking : State.Subsides s (s.syuEndChecking a) := by
  unfold State.syuEndChecking
  split
  · exact s.subsides_syuEnd ending
  · exact {}

theorem State.subsides_cluDrop (o : Origin) : State.Subsides s (s.cluDrop o a) := by
  unfold State.cluDrop
  dsimp only
  split
  · exact {}
  · have dropped : State.Subsides s (s.withClu Clu.dropClaim) := { claim := .inr rfl }
    split
    · exact dropped
    · exact dropped.trans (State.subsides_tellClaimant _ ending _)

theorem State.subsides_cluEnd (o : Origin) : State.Subsides s (s.cluEnd o a) :=
  (State.Subsides.trans {} (State.subsides_tellClaimant _ ending o)).trans (State.subsides_cluDrop _ ending o)

end Answers

theorem State.subsides_cluWithdraw (s : State) (w : WithdrawReason) : State.Subsides s (s.cluWithdraw w) := by
  unfold State.cluWithdraw
  split
  · exact {}
  · exact State.Subsides.trans { claim := .inr rfl } (State.subsides_tellClaimant _ (a := .withdrawn w) nofun _)

/-- A claim that has been withdrawn is gone, whatever its origin does with the reason. -/
theorem State.cluWithdraw_claim (s : State) (w : WithdrawReason) : (s.cluWithdraw w).clu.claim = none := by
  unfold State.cluWithdraw
  split
  · assumption
  · rename_i c _
    rcases (State.subsides_tellClaimant (s.withClu Clu.dropClaim) (a := .withdrawn w) nofun c.origin).claim with same | gone
    · rw [same]; rfl
    · exact gone

theorem State.subsides_cluOutcome (s : State) {o : CloseOutcome} (ending : o ≠ .completed) :
    State.Subsides s (s.cluOutcome o) := by
  unfold State.cluOutcome
  split
  · exact {}
  · dsimp only
    rw [if_neg ending]
    exact State.Subsides.trans {} (State.subsides_cluEnd _ (by simpa using ending) _)

theorem State.subsides_closeOutcome (s : State) {o : CloseOutcome} (ending : o ≠ .completed) :
    State.Subsides s (s.closeOutcome o) := by
  unfold State.closeOutcome
  dsimp only
  split
  · exact State.Subsides.trans {} (State.subsides_cluOutcome _ ending)
  · split
    · exact State.Subsides.trans {} (State.subsides_syuEnd _ (by simpa using ending))
    · exact {}
  · exact {}

theorem State.subsides_bcuTrip (s : State) : State.Subsides s s.bcuTrip := by
  unfold State.bcuTrip
  split
  case h_4 => exact State.Subsides.trans {} (State.subsides_closeOutcome _ nofun)
  all_goals exact {}

theorem State.subsides_bfRequest (s : State) : State.Subsides s s.bfRequest := by
  unfold State.bfRequest
  split <;> exact {}

/-- A trip request can end a close, a claim and an attempt, and completes none (R109, R114, R141). -/
theorem State.subsides_tripRequest (s : State) : State.Subsides s s.tripRequest :=
  (State.Subsides.trans (t := s.withBcu fun b => { b with trippedNow := true }) {}
    ((State.subsides_bfRequest _).trans (State.subsides_bcuTrip _))).trans (State.subsides_syuEndChecking _ nofun)

/-! ### Answers that a requester notes alone -/

/-- The answers to an attempt that move no requesting unit: all but an outcome and EXPIRED (R141, R142, R152). -/
def Answer.noted : Answer → Bool
  | .outcome _ | .expired => false
  | _ => true

theorem State.truHear_noted (s : State) {a : Answer} (noted : a.noted = true) : s.truHear a = s.truNote a := by
  unfold State.truHear
  dsimp only
  split
  case h_5 => rfl
  all_goals cases noted

theorem State.gcuHear_noted (s : State) {a : Answer} (noted : a.noted = true) :
    s.gcuHear a = if s.gcu.unit = .deadbus ∨ s.gcu.unit = .sync then s.withGcu fun g => { g with heardNow := true } else s := by
  unfold State.gcuHear
  split
  case isTrue => split <;> first | rfl | cases noted
  case isFalse => rfl

theorem State.tellOwner_noted (s : State) (o : Option SyncOwner) {a : Answer} (noted : a.noted = true) :
    s.tellOwner o a = { s with
      gcu := { s.gcu with heardNow := (s.tellOwner o a).gcu.heardNow },
      tru := { s.tru with
        heardNow := (s.tellOwner o a).tru.heardNow, lastAnswer := (s.tellOwner o a).tru.lastAnswer } } := by
  unfold State.tellOwner
  split
  · rw [s.truHear_noted noted]; rfl
  · rw [s.gcuHear_noted noted]; split <;> rfl
  · rfl
  · rfl

/-- An attempt that ends with an answer its owner notes alone: SYU is IDLE, and the owner's state stands (R141). -/
theorem State.syuEnd_noted {s : State} (stands : s.syu.state ≠ .idle) {a : Answer} (noted : a.noted = true) :
    s.syuEnd a = { s with
      syu := (s.endAttempt a).syu,
      gcu := { s.gcu with heardNow := (s.syuEnd a).gcu.heardNow },
      tru := { s.tru with heardNow := (s.syuEnd a).tru.heardNow, lastAnswer := (s.syuEnd a).tru.lastAnswer } } := by
  have ended : s.syuEnd a = (s.endAttempt a).tellOwner s.syu.owner a := if_neg stands
  rw [ended, State.tellOwner_noted _ _ noted]
  rfl

theorem State.syuEnd_of_idle {s : State} (idle : s.syu.state = .idle) (a : Answer) : s.syuEnd a = s := if_pos idle

/-- What the owner of an attempt keeps at an ending it notes alone. -/
theorem State.syuEnd_noted_owner (s : State) {a : Answer} (noted : a.noted = true) :
    (s.syuEnd a).gcu = { s.gcu with heardNow := (s.syuEnd a).gcu.heardNow } ∧ (s.syuEnd a).fcu = s.fcu ∧
      (s.syuEnd a).clu = s.clu ∧
      (s.syuEnd a).tru = { s.tru with
        heardNow := (s.syuEnd a).tru.heardNow, lastAnswer := (s.syuEnd a).tru.lastAnswer } := by
  by_cases idle : s.syu.state = .idle
  · rw [State.syuEnd_of_idle idle]
    exact ⟨rfl, rfl, rfl, rfl⟩
  · rw [State.syuEnd_noted idle noted]
    exact ⟨rfl, rfl, rfl, rfl⟩

end Sys2Proof.Machine
end

section
/-! PROOFS. The queue, the resets, the configuration check, START and STOP (chapter 12, R194). -/

namespace Sys2Proof.Machine

/-! ### Vectors of lines -/

theorem vector_toList_eq_map_get {α : Type} {n : Nat} (v : Vector α n) :
    v.toList = (List.finRange n).map fun i => v.get i := by
  apply List.ext_getElem
  · simp
  · intro i h₁ h₂
    simp [Vector.get]

/-- A list without repetition holds one element alone exactly when that is its every element. -/
theorem eq_singleton_iff_of_nodup {α : Type} {l : List α} (nodup : l.Nodup) (a : α) : l = [a] ↔ ∀ b, b ∈ l ↔ b = a := by
  constructor
  · rintro rfl b
    exact List.mem_singleton
  · intro members
    match l, nodup, members with
    | [], _, members => exact (nomatch (members a).mpr rfl)
    | [b], _, members => rw [(members b).mp (List.mem_singleton.mpr rfl)]
    | b :: c :: l, nodup, members =>
      have same : b = c := ((members b).mp (by simp)).trans ((members c).mp (by simp)).symm
      exact absurd (same ▸ List.mem_cons_self) (List.nodup_cons.mp nodup).1

theorem vector_length_filter {α : Type} {n : Nat} (v : Vector α n) (p : α → Bool) :
    (v.toList.filter p).length = ((List.finRange n).filter fun i => p (v.get i)).length := by
  rw [vector_toList_eq_map_get, List.filter_map, List.length_map]
  rfl

theorem mem_filter_finRange {n : Nat} (p : Fin n → Bool) (i : Fin n) : i ∈ (List.finRange n).filter p ↔ p i = true := by
  rw [List.mem_filter]
  exact and_iff_right (List.mem_finRange i)

theorem vector_filter_one {α : Type} {n : Nat} (v : Vector α n) (p : α → Bool) :
    (v.toList.filter p).length = 1 ↔ ∃ i : Fin n, ∀ j : Fin n, p (v.get j) = true ↔ j = i := by
  rw [vector_length_filter, List.length_eq_one_iff]
  refine exists_congr fun i => ?_
  rw [eq_singleton_iff_of_nodup (List.Pairwise.filter _ (List.nodup_finRange n))]
  exact forall_congr' fun j => iff_congr (mem_filter_finRange ..) Iff.rfl

theorem vector_filter_some {α : Type} {n : Nat} (v : Vector α n) (p : α → Bool) :
    1 ≤ (v.toList.filter p).length ↔ ∃ i : Fin n, p (v.get i) = true := by
  rw [vector_length_filter]
  exact List.length_pos_iff_exists_mem.trans (exists_congr fun i => mem_filter_finRange ..)

theorem vector_all_iff {α : Type} {n : Nat} (v : Vector α n) (p : α → Bool) :
    v.toList.all p = true ↔ ∀ i : Fin n, p (v.get i) = true := by
  simp [vector_toList_eq_map_get]

/-! ### The check code (R193, R194) -/

theorem checkCode_eq_zero_iff (c : Settings) : c.checkCode = 0 ↔ ∀ b ∈ c.checks, b = true := by
  have all := List.findIdx?_eq_none_iff (xs := c.checks) (p := fun b => !b)
  simp only [Bool.not_eq_false'] at all
  rw [← all]
  unfold Settings.checkCode
  split <;> simp_all

theorem checkCode_eq_succ_iff (c : Settings) (n : Nat) :
    c.checkCode = n + 1 ↔ c.checks[n]? = some false ∧ ∀ m < n, c.checks[m]? = some true := by
  have first : c.checkCode = n + 1 ↔ c.checks.findIdx? (fun b => !b) = some n := by
    unfold Settings.checkCode
    cases c.checks.findIdx? fun b => !b <;> simp
  rw [first, List.findIdx?_eq_some_iff_getElem]
  constructor
  · rintro ⟨short, fails, before⟩
    refine ⟨by simpa [List.getElem?_eq_getElem short] using fails, fun m hm => ?_⟩
    simpa [List.getElem?_eq_getElem (Nat.lt_trans hm short)] using before m hm
  · rintro ⟨fails, before⟩
    obtain ⟨short, value⟩ := List.getElem?_eq_some_iff.mp fails
    refine ⟨short, by simp [value], fun m hm => ?_⟩
    obtain ⟨_, passes⟩ := List.getElem?_eq_some_iff.mp (before m hm)
    simp [passes]

/-! ### What each kind of check tests -/

theorem within_iff (w : Word) (lo hi : Nat) : within w lo hi = true ↔ lo ≤ w.toNat ∧ w.toNat ≤ hi := decide_eq_true_iff

theorem withinInt_iff (w : Word) (lo hi : Int) : withinInt w lo hi = true ↔ lo ≤ w.toInt ∧ w.toInt ≤ hi :=
  decide_eq_true_iff

theorem word_le_top (w : Word) : w.toNat ≤ 65535 ↔ True := iff_true_intro (by have := w.isLt; omega)

theorem word_eq_iff_toNat (w : Word) (n : Nat) (h : n < 65536) : w = BitVec.ofNat 16 n ↔ w.toNat = n := by
  rw [BitVec.toNat_eq, BitVec.toNat_ofNat, Nat.mod_eq_of_lt h]

theorem inputsOf_one_iff (c : Settings) (f : InFn) :
    c.inputsOf f = 1 ↔ ∃ i : Fin 8, ∀ j : Fin 8, (c.inputs.get j).fn = some f ↔ j = i := by
  simp [Settings.inputsOf, vector_filter_one]

theorem outputsOf_one_iff (c : Settings) (o : OutSrc) :
    c.outputsOf o = 1 ↔ ∃ i : Fin 8, ∀ j : Fin 8, (c.outputs.get j).src = some o ↔ j = i := by
  simp [Settings.outputsOf, vector_filter_one]

theorem inputsOf_some_iff (c : Settings) (f : InFn) :
    1 ≤ c.inputsOf f ↔ ∃ i : Fin 8, (c.inputs.get i).fn = some f := by
  simp [Settings.inputsOf, vector_filter_some]

theorem roleOk_iff (c : Settings) :
    c.roleOk = true ↔ c.role ≠ none ∧ c.sect.toNat ≤ 2 ∧ (c.sect = 0#16 ↔ c.role = some .tie) := by
  have zero := word_eq_iff_toNat c.sect 0 (by decide)
  have one := word_eq_iff_toNat c.sect 1 (by decide)
  have two := word_eq_iff_toNat c.sect 2 (by decide)
  unfold Settings.roleOk
  cases role : c.role with
  | none => simp
  | some r => cases r <;> simp [zero, one, two] <;> omega

theorem own_has_iff (c : Settings) :
    (decide (c.station.toNat < 16) && StationSet.has c.peerMask c.own) = true ↔
      c.station.toNat ≤ 15 ∧ c.peerMask.getLsbD c.station.toNat = true := by
  rw [Bool.and_eq_true, decide_eq_true_iff, Nat.lt_succ_iff]
  refine and_congr_right fun h => ?_
  simp [StationSet.has, Settings.own, Nat.mod_eq_of_lt (Nat.lt_succ_of_le h)]

theorem gains_iff (c : Settings) :
    (∀ ch : Channel, (c.gain.get ch).toNat ≤ 32767) ↔
      c.gain.va.toNat ≤ 32767 ∧ c.gain.vb.toNat ≤ 32767 ∧ c.gain.vc.toNat ≤ 32767 ∧ c.gain.vl.toNat ≤ 32767 ∧
        c.gain.ia.toNat ≤ 32767 ∧ c.gain.ib.toNat ≤ 32767 ∧ c.gain.ic.toNat ≤ 32767 :=
  ⟨fun h => ⟨h .va, h .vb, h .vc, h .vl, h .ia, h .ib, h .ic⟩,
    fun ⟨va, vb, vc, vl, ia, ib, ic⟩ ch => by cases ch <;> assumption⟩

theorem trimOk_iff (c : Settings) :
    c.trimOk = true ↔ (∀ ch : Channel, (c.gain.get ch).toNat ≤ 32767) ∧
      (∀ w ∈ [c.rI, c.rVB, c.rVL], 1 ≤ w.toNat ∧ w.toNat ≤ 32767) ∧ (c.polarity.toInt = 1 ∨ c.polarity.toInt = -1) := by
  simp only [Settings.trimOk, Bool.and_eq_true, within_iff, Nat.zero_le, true_and, gains_iff, List.forall_mem_cons,
    List.not_mem_nil, false_imp_iff, implies_true, Bool.or_eq_true, beq_iff_eq, and_true, and_assoc]

theorem captureOk_iff (c : Settings) :
    c.captureOk = true ↔ (c.capLen.toNat = 256 ∨ c.capLen.toNat = 512 ∨ c.capLen.toNat = 1024) ∧
      32 ≤ c.pre.toNat ∧ c.pre.toNat ≤ c.capLen.toNat - 32 ∧ 8 ∣ c.pre.toNat := by
  have short := word_eq_iff_toNat c.capLen 256 (by decide)
  have middle := word_eq_iff_toNat c.capLen 512 (by decide)
  have long := word_eq_iff_toNat c.capLen 1024 (by decide)
  simp only [Settings.captureOk, Bool.and_eq_true, Bool.or_eq_true, beq_iff_eq, within_iff, ← short, ← middle, ← long,
    Nat.dvd_iff_mod_eq_zero, and_assoc, or_assoc]
  rfl

theorem elementsOk_iff (g : FaultGroup) :
    g.elementsOk = true ↔ g.overIAction ≠ none ∧ g.highIAction ≠ none ∧
      (1 ≤ g.overIPickup.toNat ∧ g.overIPickup.toNat ≤ 46339) ∧ (1 ≤ g.highIPickup.toNat ∧ g.highIPickup.toNat ≤ 46339) ∧
      1 ≤ g.overIDelay.toNat := by
  simp only [FaultGroup.elementsOk, Bool.and_eq_true, Option.isSome_iff_ne_none, within_iff, word_le_top, and_true]
  grind

theorem sourceOk_iff (g : SourceGroup) :
    g.ok = true ↔
      (∀ w ∈ [g.underV, g.overV, g.underF, g.overF, g.rocof, g.revPower], w.action ≠ none ∧ 1 ≤ w.delay.toNat) ∧
      (∀ w ∈ [g.underV, g.overV], w.pickup.toNat ≤ 46339) ∧
      (∀ w ∈ [g.underF, g.overF, g.rocof], 1 ≤ w.pickup.toNat) ∧
      1 ≤ g.revPower.pickup.toNat ∧ g.revPower.pickup.toNat ≤ 32767 := by
  simp only [SourceGroup.ok, ElementWords.ok, Bool.and_eq_true, Option.isSome_iff_ne_none, within_iff, Nat.zero_le, true_and,
    word_le_top, List.forall_mem_cons, List.not_mem_nil, false_imp_iff, implies_true, and_true]
  grind

theorem diffOk_iff (g : FaultGroup) :
    g.diffOk = true ↔ g.diffAction ≠ none ∧ 1 ≤ g.ipu.toNat ∧ (8 ≤ g.slope.toNat ∧ g.slope.toNat ≤ 56) ∧
      1 ≤ g.confirm.toNat ∧ g.confirm.toNat ≤ 4 := by
  simp only [FaultGroup.diffOk, Bool.and_eq_true, Option.isSome_iff_ne_none, within_iff, word_le_top, and_true, and_assoc]

theorem generatorOk_iff (c : Settings) :
    c.generatorOk = true ↔ (1 ≤ c.pRated.toNat ∧ c.pRated.toNat ≤ 32767) ∧
      (∀ w ∈ [c.tStart, c.tRetry, c.tUnload, c.tCool], 1 ≤ w.toNat) ∧ c.lBase.toNat ≤ 8191 ∧ c.lOff.toNat ≤ 4096 ∧
      (1 ≤ c.ramp.toNat ∧ c.ramp.toNat ≤ 4096) ∧ (-50 ≤ c.sTarget.toInt ∧ c.sTarget.toInt ≤ 50) ∧
      (∀ w ∈ [c.gS, c.gV, c.gF, c.gU], w.toNat ≤ 255) ∧ c.gL.toNat ≤ 4095 ∧ c.gQ.toNat ≤ 4095 := by
  simp only [Settings.generatorOk, Bool.and_eq_true, within_iff, Nat.zero_le, true_and, word_le_top, withinInt_iff,
    List.forall_mem_cons, List.not_mem_nil, false_imp_iff, implies_true, and_true]
  grind

theorem feederOk_iff (c : Settings) :
    c.feederOk = true ↔ (1 ≤ c.priority.toNat ∧ c.priority.toNat ≤ 15) ∧ c.margin.toNat ≤ 4096 ∧
      (∀ x ∈ [c.stage1, c.stage2], 1 ≤ x.delay.toNat ∧ 1 ≤ x.threshold.toNat ∧ x.threshold.toNat ≤ 16) ∧
      1 ≤ c.pDead.toNat ∧ c.pDead.toNat ≤ 16 := by
  simp only [Settings.feederOk, Bool.and_eq_true, within_iff, Nat.zero_le, true_and, word_le_top, List.forall_mem_cons,
    List.not_mem_nil, false_imp_iff, implies_true, and_true, and_assoc]

theorem transferOk_iff (c : Settings) :
    c.transferOk = true ↔ c.startMode ≠ none ∧ c.vULo.toNat < c.vUHi.toNat ∧ c.fULo.toNat < c.fUHi.toNat ∧
      (∀ w ∈ [c.tLoss, c.tReturnShort, c.tReturn, c.tResync, c.tParallelMax], 1 ≤ w.toNat) ∧
      -50 ≤ c.resyncOffset.toInt ∧ c.resyncOffset.toInt ≤ 50 := by
  simp only [Settings.transferOk, Bool.and_eq_true, Option.isSome_iff_ne_none, decide_eq_true_iff, within_iff, word_le_top,
    withinInt_iff, List.forall_mem_cons, List.not_mem_nil, false_imp_iff, implies_true, and_true, and_assoc]

theorem some_eq_some_true_iff {b : Bool} {p : Prop} (h : b = true ↔ p) : some b = some true ↔ p :=
  Option.some_inj.trans h

theorem voltageLevelsOk_iff (c : Settings) :
    (within c.vDead 0 46339 && within c.vLive 0 46339 && decide (c.vDead.toNat < c.vLive.toNat)) = true ↔
      c.vDead.toNat < c.vLive.toNat ∧ c.vLive.toNat ≤ 46339 := by
  simp only [Bool.and_eq_true, within_iff, Nat.zero_le, true_and, decide_eq_true_iff]
  omega

theorem nominalOk_iff (c : Settings) :
    ((c.fNom == 50 || c.fNom == 60) && within c.strobeOffset 0 15) = true ↔
      (c.fNom.toNat = 50 ∨ c.fNom.toNat = 60) ∧ c.strobeOffset.toNat ≤ 15 := by
  have low := word_eq_iff_toNat c.fNom 50 (by decide)
  have high := word_eq_iff_toNat c.fNom 60 (by decide)
  simp only [Bool.and_eq_true, Bool.or_eq_true, beq_iff_eq, within_iff, Nat.zero_le, true_and, ← low, ← high]
  rfl

theorem assignmentsOk_iff (c : Settings) :
    (c.inputs.toList.all (fun l => l.fn.isSome) && c.outputs.toList.all (fun l => l.src.isSome)) = true ↔
      ∀ i : Fin 8, (c.inputs.get i).fn ≠ none ∧ (c.outputs.get i).src ≠ none := by
  simp only [Bool.and_eq_true, vector_all_iff, Option.isSome_iff_ne_none, forall_and]

theorem engineLineOk_iff (c : Settings) :
    (!c.isRole .generator || decide (1 ≤ c.inputsOf .engineReady)) = true ↔
      (c.role = some .generator → ∃ i : Fin 8, (c.inputs.get i).fn = some .engineReady) := by
  rw [Bool.or_eq_true, Bool.not_eq_true', decide_eq_true_iff, inputsOf_some_iff, ← Settings.isRole_iff, ← Bool.not_eq_true]
  exact (Decidable.imp_iff_not_or).symm

theorem groupsOk_iff (c : Settings) :
    (c.faultMode.isSome && c.sourceMode.isSome && c.fault0.elementsOk && c.fault1.elementsOk && c.source0.ok
        && c.source1.ok) = true ↔
      c.faultMode ≠ none ∧ c.sourceMode ≠ none ∧ (∀ g ∈ [c.fault0, c.fault1], g.elementsOk = true) ∧
        ∀ g ∈ [c.source0, c.source1], g.ok = true := by
  simp only [Bool.and_eq_true, Option.isSome_iff_ne_none, List.forall_mem_cons, List.not_mem_nil, false_imp_iff,
    implies_true, and_true, and_assoc]

theorem differentialOk_iff (c : Settings) :
    (c.fault0.diffOk && c.fault1.diffOk && within c.tBf 2 100) = true ↔
      (∀ g ∈ [c.fault0, c.fault1], g.diffOk = true) ∧ 2 ≤ c.tBf.toNat ∧ c.tBf.toNat ≤ 100 := by
  simp only [Bool.and_eq_true, within_iff, List.forall_mem_cons, List.not_mem_nil, false_imp_iff, implies_true, and_true]

theorem syncOk_iff (c : Settings) :
    (within c.tRestore 1 65535 && within c.sMax 1 500 && c.direction.isSome && within c.dvMax 0 16384
        && within c.window 1 900 && within c.tCloseMs 20 250 && within c.tSyncMax 1 65535) = true ↔
      1 ≤ c.tRestore.toNat ∧ (1 ≤ c.sMax.toNat ∧ c.sMax.toNat ≤ 500) ∧ c.direction ≠ none ∧
        c.dvMax.toNat ≤ 16384 ∧ (1 ≤ c.window.toNat ∧ c.window.toNat ≤ 900) ∧
        (20 ≤ c.tCloseMs.toNat ∧ c.tCloseMs.toNat ≤ 250) ∧ 1 ≤ c.tSyncMax.toNat := by
  simp only [Bool.and_eq_true, Option.isSome_iff_ne_none, within_iff, word_le_top, Nat.zero_le, true_and, and_true, and_assoc]

/-- Settles O5: the code by `findIdx?`, and one lemma per check. -/
theorem checkCodeIsTheFirstFailure : Obligations.CheckCodeIsTheFirstFailure := by
  intro c
  refine ⟨⟨checkCode_eq_zero_iff c, rfl, checkCode_eq_succ_iff c⟩, some_eq_some_true_iff ?_,
    some_eq_some_true_iff (roleOk_iff c), some_eq_some_true_iff (own_has_iff c), some_eq_some_true_iff (nominalOk_iff c),
    some_eq_some_true_iff (trimOk_iff c), some_eq_some_true_iff (voltageLevelsOk_iff c),
    some_eq_some_true_iff (captureOk_iff c), some_eq_some_true_iff (assignmentsOk_iff c), some_eq_some_true_iff ?_,
    some_eq_some_true_iff ?_, some_eq_some_true_iff (engineLineOk_iff c), some_eq_some_true_iff ?_,
    some_eq_some_true_iff ?_, some_eq_some_true_iff ?_, some_eq_some_true_iff (syncOk_iff c),
    some_eq_some_true_iff (generatorOk_iff c), some_eq_some_true_iff (feederOk_iff c),
    some_eq_some_true_iff (transferOk_iff c)⟩
  · exact (within_iff ..).trans (and_iff_right (Nat.zero_le _))
  · rw [Bool.and_eq_true, beq_iff_eq, beq_iff_eq, inputsOf_one_iff, inputsOf_one_iff]
  · rw [Bool.and_eq_true, beq_iff_eq, beq_iff_eq, outputsOf_one_iff, outputsOf_one_iff]
  · simp only [Bool.and_eq_true, within_iff, and_assoc]
  · rw [groupsOk_iff]
    simp only [elementsOk_iff, sourceOk_iff]
  · rw [differentialOk_iff]
    simp only [diffOk_iff]

/-! ### The queue and the resets -/

/-- Settles O1: by the definition of a step. -/
theorem stepTakesTheFrontCommand : Obligations.StepTakesTheFrontCommand := ⟨fun _ _ _ => rfl, fun _ => rfl⟩

theorem reset_entry (k : Station) : State.reset.pim.get k = Entry.reset := by
  simp [State.reset, Vector.get]

theorem reset_element (e : Element) : State.reset.pru.elements.get e = .quiet := by cases e <;> rfl

/-- Settles O2: the values of the reset state, block by block. -/
theorem resetLeavesThePowerOnValues : Obligations.ResetLeavesThePowerOnValues :=
  ⟨⟨rfl, rfl, by decide⟩, ⟨rfl, rfl, rfl⟩, rfl, ⟨rfl, rfl, rfl⟩, ⟨rfl, rfl, rfl⟩, ⟨rfl, rfl, rfl⟩, reset_entry,
    ⟨rfl, rfl, rfl⟩, ⟨fun e => congrArg ElementRec.state (reset_element e), rfl⟩, ⟨rfl, rfl, rfl⟩, ⟨rfl, rfl, rfl⟩,
    ⟨rfl, rfl⟩, ⟨rfl, rfl, rfl, rfl⟩, ⟨rfl, rfl, rfl⟩, rfl, rfl, rfl⟩

theorem keepPins_get (ls : Vector LineState 8) (i : Fin 8) :
    (keepPins ls).get i = { high := (ls.get i).high, read := none, level := none, hold := 0 } := lines_get_ofFn ..

theorem exec_softReset_of_config {s : State} (config : s.cfp.run = .config) :
    exec .softReset s = .next (s.afterReset.answer .accepted 3) := by
  show execSoftReset s = _
  rw [execSoftReset, if_neg (by simp [State.running_of_config config])]

theorem exec_softReset_of_run {s : State} (run : s.cfp.run = .run) :
    exec .softReset s = .next (s.answer .refusedState 3) := by
  show execSoftReset s = _
  rw [execSoftReset, if_pos (State.running_of_run run)]

/-- Settles O3: both hardware resets leave `State.afterReset`, and SOFT_RESET adds its answer to it. -/
theorem resetsRestoreEveryBlock : Obligations.ResetsRestoreEveryBlock :=
  ⟨fun s => ⟨s.afterReset, rfl, rfl, rfl, keepPins_get s.bcu.lines⟩,
    fun s => ⟨fun config => ⟨s.afterReset, rfl, exec_softReset_of_config config⟩, fun run => exec_softReset_of_run run⟩⟩

/-! ### START (R194) -/

theorem exec_start_of_run {s : State} (run : s.cfp.run = .run) : exec .start s = .next (s.answer .refusedState 1) := by
  show execStart s = _
  rw [execStart, if_pos (State.running_of_run run)]

theorem exec_start_of_failed {s : State} (config : s.cfp.run = .config) (failed : s.cfg.checkCode ≠ 0) :
    exec .start s = .next (s.answer .refusedCheck 1 s.cfg.checkCode) := by
  show execStart s = _
  rw [execStart, if_neg (by simp [State.running_of_config config]), if_pos failed]

theorem exec_start_of_passed {s : State} (config : s.cfp.run = .config) (passed : s.cfg.checkCode = 0) :
    exec .start s = .next (s.started.answer .accepted 1) := by
  show execStart s = _
  rw [execStart, if_neg (by simp [State.running_of_config config]), if_neg (Classical.not_not.mpr passed)]

theorem started_entry (s : State) (k : Station) :
    s.started.pim.get k = { record := none, accepted := 0, expected := s.cfg.peerMask.getLsbD k.val, crcErrors := 0 } := by
  show (Vector.ofFn (startEntry s.cfg)).get k = _
  simp only [Vector.get, Vector.toArray_ofFn, Array.getElem_ofFn]
  rfl

theorem quiesce_element (p : Pru) (e : Element) : p.quiesce.elements.get e = .quiet := by cases e <;> rfl

theorem Gcu.quiesce_eq (g : Gcu) (c : Settings) :
    g.quiesce c = if g.unit = .fail ∧ c.role = some .generator then { Gcu.reset with unit := .fail, failReason := g.failReason }
      else Gcu.reset := by
  simp only [Gcu.quiesce, Settings.isRole_iff]

theorem hasSequence_iff (c : Settings) :
    hasSequence c = true ↔ c.role = some .incomer ∨ c.role = some .tie ∧ c.tieTransfer = true := by
  simp only [hasSequence, Bool.or_eq_true, Bool.and_eq_true, Settings.isRole_iff]

theorem Tru.start_eq (t : Tru) (c : Settings) :
    t.start c = { Tru.reset with
      mode := if c.startMode = some .auto then .auto else .manual, hold := t.hold,
      derive := decide (c.startMode = some .auto ∧
        (c.role = some .incomer ∨ (c.role = some .tie ∧ c.tieTransfer = true))) } := by
  have derive : (c.startMode == some .auto && hasSequence c) = decide (c.startMode = some .auto ∧
      (c.role = some .incomer ∨ (c.role = some .tie ∧ c.tieTransfer = true))) := by
    rw [Bool.eq_iff_iff, Bool.and_eq_true, beq_iff_eq, hasSequence_iff, decide_eq_true_iff]
  have mode : c.startMode.getD .manual = if c.startMode = some .auto then .auto else .manual := by
    cases c.startMode with
    | none => rfl
    | some m => cases m <;> rfl
  rw [Tru.start, derive, mode]

theorem Lkc.start_reference (l : Lkc) (c : Settings) : (l.start c).reference = none := by
  show StationSet.lowest (0 ||| 0) = none
  decide

/-- Settles O6: the refusals, and the blocks as `State.started` has them. -/
theorem startEntersRun : Obligations.StartEntersRun := by
  refine ⟨fun s => ⟨exec_start_of_run, exec_start_of_failed⟩, fun s config passed =>
    ⟨_, exec_start_of_passed config passed, ⟨rfl, rfl, rfl⟩, ⟨rfl, rfl, rfl, rfl⟩, ⟨fun free => ?_, fun busy => ?_⟩, ?_,
      started_entry s, ⟨rfl, rfl, rfl⟩, ⟨rfl, quiesce_element s.pru⟩, rfl, ⟨rfl, keepPins_get s.bcu.lines⟩,
      Gcu.quiesce_eq s.gcu s.cfg, rfl, Tru.start_eq s.tru s.cfg⟩⟩
  · exact if_pos free
  · exact if_neg busy
  · exact ⟨rfl, rfl, rfl, rfl, rfl, Lkc.start_reference .., rfl, rfl, rfl, rfl, rfl, rfl, rfl, rfl, rfl, rfl⟩

/-! ### STOP (R194) -/

theorem State.stoppable_iff (s : State) :
    s.stoppable = true ↔ s.bcu.state = .opened ∧ s.bcu.trip = false ∧ s.bcu.close = false := by
  simp only [State.stoppable, Bool.and_eq_true, beq_iff_eq, Bool.not_eq_true', and_assoc]

theorem State.running_iff (s : State) : s.running = true ↔ s.cfp.run = .run := beq_iff_eq

theorem exec_stop (s : State) :
    exec .stop s = .next (if s.cfp.run = .run ∧ s.bcu.state = .opened ∧ s.bcu.trip = false ∧ s.bcu.close = false then
      s.stopped.answer .accepted 2 else s.answer .refusedState 2) := by
  show execStop s = _
  simp only [execStop, Bool.and_eq_true, State.stoppable_iff, State.running_iff]

theorem stopped_entry (s : State) (k : Station) :
    s.stopped.pim.get k = { s.pim.get k with record := none, accepted := 0 } := by
  rw [s.stopped_pim]
  simp [Vector.get, stopEntry]

theorem Gcu.quiesce_unit (g : Gcu) (c : Settings) :
    (g.quiesce c).unit = if g.unit = .fail ∧ c.role = some .generator then .fail else .idle := by
  rw [Gcu.quiesce_eq]
  split <;> rfl

/-- Settles O7: an accepted STOP leaves `State.stopped`, in which the attempt that stood has ended first. -/
theorem stopEntersConfigWithAnOpenBreaker : Obligations.StopEntersConfigWithAnOpenBreaker := by
  intro s
  rw [exec_stop]
  refine ⟨fun accepted => ⟨_, congrArg _ (if_pos accepted), ?_⟩, fun refused => congrArg _ (if_neg refused)⟩
  have ended := s.told_syuEnd .stopped
  obtain ⟨gcu, fcu, -, tru⟩ := s.syuEnd_noted_owner (a := .stopped) rfl
  obtain ⟨speed, volt⟩ := s.stopped_codes
  have unit : s.stopped.gcu.unit = if s.gcu.unit = .fail ∧ s.cfg.role = some .generator then .fail else .idle := by
    refine (Gcu.quiesce_unit ..).trans ?_
    rw [ended.cfg, gcu]
  have enable : (s.syuEnd .stopped).cfp.enable = s.cfp.enable := by rw [ended.cfp]
  refine ⟨⟨s.stopped_cfg, s.stopped_pending, rfl, rfl, ended.bits, enable⟩, ⟨rfl, rfl, s.stopped_msu⟩, ?_, s.stopped_lkc,
    stopped_entry s, ⟨?_, fun e => ?_⟩, s.stopped_dbu, ?_, ⟨rfl, rfl, rfl⟩, ⟨State.syuEnd_idle s nofun, rfl⟩,
    ⟨speed, volt, unit⟩, ?_, ⟨rfl, rfl, rfl, rfl, rfl, ?_, ?_⟩⟩
  · rw [State.answer_cap, s.stopped_cap]
    exact ⟨s.cap.a.stop_state, s.cap.b.stop_state⟩
  · rw [State.answer_pru, s.stopped_pru]
    rfl
  · rw [State.answer_pru, s.stopped_pru, quiesce_element]
    rfl
  · rw [State.answer_bcu, s.stopped_bcu]
    exact ⟨rfl, rfl, rfl, rfl, rfl, rfl, rfl⟩
  · show (if (s.syuEnd .stopped).fcu.state = .restoring then _ else _) = _
    rw [fcu]
  · show (s.syuEnd .stopped).tru.mode = _
    rw [tru]
  · show (s.syuEnd .stopped).tru.hold = _
    rw [tru]

/-! ### Commands that need RUN (R193, R194) -/

/-- Settles O8: each guard asks for RUN. -/
theorem commandsOfRunAreRefusedInConfig : Obligations.CommandsOfRunAreRefusedInConfig := by
  intro s config p hp
  have idle := State.running_of_config config
  simp only [List.mem_cons, List.not_mem_nil, or_false] at hp
  obtain rfl | rfl | rfl | rfl | rfl | rfl | rfl | rfl := hp
  · exact congrArg _ (if_neg (by simp [idle]))
  · exact congrArg _ (if_neg (by simp [idle]))
  · exact congrArg _ (if_pos (by simp [idle]))
  · exact congrArg _ (if_neg (by simp [idle]))
  · exact congrArg _ (if_neg (by simp [idle]))
  · exact congrArg _ (if_pos (by simp [idle]))
  · exact congrArg _ (if_pos (by simp [idle]))
  · exact congrArg _ (if_pos (by simp [idle]))

end Sys2Proof.Machine
end

section
/-! PROOFS. The operator commands OPEN, CLOSE, SET_AUTO, RETRANSFER_NOW, SET_MANUAL and RESET_LATCH (R98, R109, R125, R157,
R172, R185, R186, R188). -/

namespace Sys2Proof.Machine

/-- A consequence stands beside the same answer in LAST_RESULT. -/
theorem State.Consequence.answer {s t : State} (h : State.Consequence s t) (r : ResultCode) (n : Word) (k : Nat) :
    State.Consequence (s.answer r n k) (t.answer r n k) := ⟨by rw [h.rest]; rfl, h.bits⟩

/-! ### OPEN (R109, R120, R125, R172, R186, R188) -/

theorem exec_openBreaker_of_run {s : State} (run : s.cfp.run = .run) :
    exec .openBreaker s = .next (s.fcuOpen.cluOpen.tripRequest.truOpen.answer .accepted 4) := by
  show execOpenBreaker s = _
  rw [execOpenBreaker, if_pos (State.running_of_run run)]

theorem State.told_fcuOpen (s : State) : State.Told s s.fcuOpen := by
  unfold State.fcuOpen
  split
  · exact .withFcu ..
  · exact .refl s

theorem State.fcuOpen_only (s : State) : s.fcuOpen = { s with fcu := s.fcuOpen.fcu } := by
  unfold State.fcuOpen
  split <;> rfl

theorem State.fcuOpen_fcu_of_feeder {s : State} (feeder : s.cfg.role = some .feeder) :
    s.fcuOpen.fcu = { s.fcu with
      state := .manualOpen, reason := .none, cause := .operator, held := 0,
      openPending := s.fcu.openPending || s.fcu.state == .restoring } :=
  congrArg State.fcu (if_pos ((Settings.isRole_iff ..).mpr feeder))

/-- The pending operator close cleared. -/
def State.closeForgotten (s : State) : State := s.withClu fun u => { u with pendingClose := false }

theorem State.cluOpen_eq (s : State) :
    s.cluOpen = if s.operatorClaim then s.closeForgotten.cluWithdraw .operatorOpen else s.closeForgotten := rfl

theorem State.told_cluOpen (s : State) : State.Told s s.cluOpen := by
  rw [s.cluOpen_eq]
  split
  · exact (State.Told.withClu ..).trans (State.told_cluWithdraw ..)
  · exact .withClu ..

theorem State.subsides_cluOpen (s : State) : State.Subsides s.closeForgotten s.cluOpen := by
  rw [s.cluOpen_eq]
  split
  · exact State.subsides_cluWithdraw ..
  · exact {}

theorem State.cluOpen_claim {s : State} {c : Claim} (h : s.cluOpen.clu.claim = some c) : c.origin ≠ .operator := by
  rw [s.cluOpen_eq] at h
  split at h
  case isTrue => rw [State.cluWithdraw_claim] at h; cases h
  case isFalse other =>
    have standing : s.clu.claim = some c := h
    simpa [State.operatorClaim, standing] using other

/-- The transfer state that an operator OPEN leaves an incomer in (R186). -/
def TransferState.openedByHand : TransferState → TransferState
  | .normal | .lossConfirm => .deadWait
  | .returnWait | .resync | .parallel => .onAlternate
  | x => x

theorem State.incomerOpen_tru (s : State) :
    s.incomerOpen.tru.hold = true ∧ s.incomerOpen.tru.mode = s.tru.mode ∧
      s.incomerOpen.tru.state = s.tru.state.openedByHand := by
  unfold State.incomerOpen
  dsimp only [State.withTru_tru]
  split
  case h_6 state | h_7 state =>
    rw [State.cancelClaim_only, state]
    exact ⟨rfl, rfl, state⟩
  case h_8 =>
    refine ⟨rfl, rfl, ?_⟩
    rw [State.withTru_tru]
    cases state : s.tru.state <;> simp_all [TransferState.openedByHand]
  all_goals
    rename_i state
    exact ⟨State.truLeave_hold .., State.truLeave_mode .., by rw [State.truLeave_state, state]; rfl⟩

theorem State.quiets_incomerOpen (s : State) : State.Quiets s s.incomerOpen := by
  have held : State.Quiets s (s.withTru fun t => { t with hold := true }) := {}
  unfold State.incomerOpen
  dsimp only
  split
  all_goals first
    | exact held.trans (State.quiets_truLeave ..)
    | exact held.trans (State.quiets_cancelClaim ..)
    | exact held

theorem State.quiets_setMode (s : State) (m : Mode) : State.Quiets s (s.setMode m) := by
  unfold State.setMode
  split <;> exact {}

theorem State.setMode_mode (s : State) (m : Mode) : (s.setMode m).tru.mode = m := by
  unfold State.setMode
  split
  · assumption
  · rfl

theorem State.quiets_tieOpenedByHand (s : State) : State.Quiets s s.tieOpenedByHand :=
  (((s.quiets_setMode _).trans (State.quiets_cancelClaim ..)).trans (State.quiets_truLeave ..)).trans {}

theorem State.tieOpenedByHand_tru (s : State) : s.tieOpenedByHand.tru.mode = .manual ∧ s.tieOpenedByHand.tru.state = .manual := by
  refine ⟨?_, State.truLeave_state ..⟩
  refine (State.truLeave_mode ..).trans ?_
  rw [State.cancelClaim_only]
  exact s.setMode_mode _

theorem State.quiets_truOpen (s : State) : State.Quiets s s.truOpen := by
  unfold State.truOpen
  split
  · split
    · exact s.quiets_incomerOpen
    split
    · exact s.quiets_tieOpenedByHand
    · exact {}
  · exact {}

theorem State.told_truOpen (s : State) : State.Told s s.truOpen := by
  unfold State.truOpen State.incomerOpen State.tieOpenedByHand
  dsimp only
  repeat' split
  all_goals first
    | exact .refl s
    | exact (State.Told.withTru ..).trans (State.told_truLeave ..)
    | exact (State.Told.withTru ..).trans (State.told_cancelClaim ..)
    | exact State.Told.withTru ..
    | exact (((s.told_setMode _).trans (State.told_cancelClaim ..)).trans (State.told_truLeave ..)).trans (.withTru ..)

theorem State.truOpen_of_incomer {s : State} (incomer : s.cfg.role = some .incomer) (auto : s.tru.mode = .auto) :
    s.truOpen = s.incomerOpen := by
  rw [State.truOpen, if_pos auto, if_pos ((Settings.isRole_iff ..).mpr incomer)]

theorem State.truOpen_of_tie {s : State} (tie : s.cfg.role = some .tie) (transfer : s.cfg.tieTransfer = true)
    (auto : s.tru.mode = .auto) : s.truOpen = s.tieOpenedByHand := by
  rw [State.truOpen, if_pos auto, if_neg (by simp [Settings.isRole, tie]), if_pos (by simp [Settings.isRole, tie, transfer])]

theorem State.truOpen_of_manual {s : State} (manual : s.tru.mode = .manual) : s.truOpen = s := if_neg (by simp [manual])

/-- The state that meets TRU at an OPEN: the trip request has been made. -/
def State.tripped (s : State) : State := s.fcuOpen.cluOpen.tripRequest

theorem State.subsides_tripped (s : State) : State.Subsides s.fcuOpen.closeForgotten s.tripped :=
  s.fcuOpen.subsides_cluOpen.trans (State.subsides_tripRequest _)

theorem State.cons_tripped (s : State) : State.Consequence s s.tripped :=
  (s.told_fcuOpen.trans (State.told_cluOpen _)).toConsequence.trans (State.cons_tripRequest _)

theorem State.tripped_dbu (s : State) : s.tripped.dbu =
    if s.dbu.timer = .idle ∧ s.bcu.state ≠ .opened ∧ s.bcu.state ≠ .failedOpen then { s.dbu with timer := .running 0 }
    else s.dbu := by
  have told := s.told_fcuOpen.trans (State.told_cluOpen _)
  rw [State.tripped, State.tripRequest_dbu, State.bfRequest_dbu, told.dbu, told.bcu]

theorem State.tripped_transfer (s : State) : s.tru.FailsTo s.tripped.tru (s.cfg.isRole .tie) := by
  have fails := s.subsides_tripped.transfer
  rwa [State.fcuOpen_only] at fails

/-- OPEN: TRIP by the breaker state found, the BF timer, and the blocks a consequence reaches. -/
theorem openBreaker_trips (s : State) (run : s.cfp.run = .run) : ∃ t, exec .openBreaker s = .next t ∧
    State.Consequence (s.answer .accepted 4) t ∧ t.dbu = s.tripped.dbu ∧ t.bcu = s.tripped.bcu := by
  have told := State.told_truOpen s.tripped
  exact ⟨_, exec_openBreaker_of_run run, (s.cons_tripped.trans told.toConsequence).answer .., told.dbu, told.bcu⟩

/-- Settles O9: the trip request of OPEN finds BCU and DBU as they stood, and what it ends can only leave a requester less. -/
theorem openActsOnTheStateItFinds : Obligations.OpenActsOnTheStateItFinds := by
  refine ⟨fun s run => ?trips, fun s run => ⟨_, exec_openBreaker_of_run run, ?feeder, ?claim, ?incomer, ?tie⟩⟩
  case trips =>
    obtain ⟨t, effect, cons, dbu, bcu⟩ := openBreaker_trips s run
    refine ⟨t, effect, cons, dbu.trans s.tripped_dbu, ?_⟩
    have told := s.told_fcuOpen.trans (State.told_cluOpen _)
    rw [bcu, State.tripped, State.tripRequest_bcu, told.bcu, told.lkc]
    cases s.bcu.state <;> rfl
  case feeder =>
    intro feeder
    have quiet := s.subsides_tripped.toQuiets.trans (State.quiets_truOpen _)
    have opened := State.fcuOpen_fcu_of_feeder feeder
    exact (quiet.fcu (congrArg Fcu.state opened)).trans opened
  case claim =>
    have quiet := (State.subsides_tripRequest s.fcuOpen.cluOpen).toQuiets.trans (State.quiets_truOpen _)
    refine ⟨quiet.pendingClose.trans s.fcuOpen.subsides_cluOpen.pendingClose, fun c standing => ?_⟩
    rcases quiet.claim with same | gone
    · exact State.cluOpen_claim (same.symm.trans standing)
    · cases gone.symm.trans standing
  case incomer =>
    intro incomer auto
    have fails := s.tripped_transfer
    have noTie : s.cfg.isRole .tie = false := by simp [Settings.isRole, incomer]
    rw [noTie] at fails
    obtain ⟨mode, state⟩ : s.tripped.tru.mode = s.tru.mode ∧ (s.tripped.tru.state = s.tru.state ∨
        (s.tru.state = .resync ∧ s.tripped.tru.state = .onAlternate) ∨
        (s.tru.state = .openReturn ∧ s.tripped.tru.state = .deadWait)) := by
      rcases fails with ⟨mode, state⟩ | ⟨tie, -⟩ | ⟨-, mode, state⟩
      · exact ⟨mode, .inl state⟩
      · cases tie
      · exact ⟨mode, .inr state⟩
    have open_ : s.tripped.truOpen = s.tripped.incomerOpen :=
      State.truOpen_of_incomer (by rw [s.cons_tripped.cfg, incomer]) (mode.trans auto)
    obtain ⟨hold, modeAfter, stateAfter⟩ := s.tripped.incomerOpen_tru
    rw [State.answer_tru]
    show s.tripped.truOpen.tru.hold = true ∧ s.tripped.truOpen.tru.mode = .auto ∧ _
    have stateEq : (s.fcuOpen.cluOpen.tripRequest.truOpen).tru.state = s.tripped.tru.state.openedByHand := by
      rw [← stateAfter, ← open_]; rfl
    rw [stateEq, open_]
    refine ⟨hold, modeAfter.trans (mode.trans auto), ?_⟩
    rcases state with same | ⟨resync, moved⟩ | ⟨openReturn, moved⟩
    · rw [same]
      cases s.tru.state <;> first | rfl | exact .inl rfl
    · rw [resync, moved]; rfl
    · rw [openReturn, moved]; exact .inr rfl
  case tie =>
    intro tie transfer auto
    rw [State.answer_tru]
    show s.tripped.truOpen.tru.mode = .manual ∧ s.tripped.truOpen.tru.state = .manual
    rcases s.tripped_transfer with ⟨mode, -⟩ | ⟨-, mode, state⟩ | ⟨plain, -⟩
    · rw [State.truOpen_of_tie (by rw [s.cons_tripped.cfg, tie]) (by rw [s.cons_tripped.cfg, transfer]) (mode.trans auto)]
      exact State.tieOpenedByHand_tru _
    · rw [State.truOpen_of_manual mode]
      exact ⟨mode, state⟩
    · simp [Settings.isRole, tie] at plain

/-! ### CLOSE (R125, R186) -/

theorem Settings.isRole_false_of_eq {c : Settings} {r x : Role} (role : c.role = some r) (ne : r ≠ x) : c.isRole x = false := by
  simp [Settings.isRole, role, ne]

theorem exec_closeBreaker_of_run {s : State} (run : s.cfp.run = .run) :
    exec .closeBreaker s = .next
      (if s.tru.mode = .auto then
         if s.cfg.isRole .generator then s.answer .refusedMode 5
         else if s.cfg.isRole .incomer then s.incomerClose
         else if s.cfg.isRole .tie && s.cfg.tieTransfer then s.answer .refusedMode 5
         else s.operatorClose
       else s.operatorClose) := by
  show execCloseBreaker s = _
  rw [execCloseBreaker, if_neg (by simp [State.running_of_run run])]

theorem exec_closeBreaker_of_clu {s : State} (run : s.cfp.run = .run)
    (clu : s.tru.mode = .manual ∨ s.cfg.role = some .feeder ∨ (s.cfg.role = some .tie ∧ s.cfg.tieTransfer = false)) :
    exec .closeBreaker s = .next s.operatorClose := by
  rw [exec_closeBreaker_of_run run]
  rcases clu with manual | feeder | ⟨tie, disabled⟩
  · rw [if_neg (by simp [manual])]
  · simp [Settings.isRole, feeder]
  · simp [Settings.isRole, tie, disabled]

theorem State.operatorClose_eq (s : State) : s.operatorClose =
    if s.dbu.lockout = true ∨ s.top.ownLocked s.cfg = true then s.answer .refusedLockout 5
    else if s.bcu.state ≠ .opened ∨ s.clu.pendingClose = true ∨ s.clu.claim ≠ none ∨ s.clu.inFlight ≠ none then
      s.answer .refusedState 5
    else (s.withClu fun u => { u with pendingClose := true }).answer .accepted 5 := by
  unfold State.operatorClose
  simp only [Bool.or_eq_true, Option.isSome_iff_ne_none, ite_not]
  by_cases opened : s.bcu.state = .opened
  · simp only [opened, if_true, not_true_eq_false, false_or, ne_eq, or_assoc]
  · simp only [opened, if_false, ne_eq, not_false_eq_true, true_or, if_true]

theorem exec_closeBreaker_of_incomer {s : State} (run : s.cfp.run = .run) (auto : s.tru.mode = .auto)
    (incomer : s.cfg.role = some .incomer) : exec .closeBreaker s = .next s.incomerClose := by
  rw [exec_closeBreaker_of_run run, if_pos auto, if_neg (by simp [Settings.isRole, incomer]),
    if_pos ((Settings.isRole_iff ..).mpr incomer)]

/-- An incomer back in its sequence: the hold cleared, and the state by the last health (R186). -/
def State.closeReturns (s : State) : State :=
  (s.withTru fun t => { t with hold := false }).truLeave (if s.tru.healthy then .resync else .onAlternate)

theorem State.incomerClose_of_move {s : State} (clear : s.dbu.lockout = false)
    (state : s.tru.state = .onAlternate ∨ s.tru.state = .returnWait) :
    s.incomerClose = s.closeReturns.answer .accepted 5 := by
  unfold State.incomerClose
  dsimp only
  rw [if_neg (by simp [clear])]
  rcases state with state | state <;> rw [state] <;> rfl

theorem State.incomerClose_of_deadWait {s : State} (clear : s.dbu.lockout = false) (state : s.tru.state = .deadWait) :
    s.incomerClose = (s.withTru fun t => { t with hold := false }).answer .accepted 5 := by
  unfold State.incomerClose
  dsimp only
  rw [if_neg (by simp [clear]), state]

theorem State.closeReturns_reference {s : State} (state : s.tru.state = .onAlternate ∨ s.tru.state = .returnWait)
    (healthy : s.tru.healthy = true) : s.closeReturns.tru.reference = s.tru.healthLine := by
  unfold State.closeReturns
  rw [if_pos healthy, State.truLeave_tru (by rcases state with state | state <;> simp [state])]
  rfl

/-- Settles O10: CLOSE by the unit that judges it, and the incomer's own judgement by its state. -/
theorem closeIsJudgedByTheClaimUnit : Obligations.CloseIsJudgedByTheClaimUnit := by
  refine ⟨fun s run clu => (exec_closeBreaker_of_clu run clu).trans (congrArg _ s.operatorClose_eq), fun s run auto =>
    ⟨fun refuses => ?refuses, fun incomer locked => ?locked, fun incomer clear => ?_⟩⟩
  case refuses =>
    rw [exec_closeBreaker_of_run run, if_pos auto]
    rcases refuses with generator | ⟨tie, transfer⟩
    · rw [if_pos ((Settings.isRole_iff ..).mpr generator)]
      rfl
    · rw [if_neg (by simp [Settings.isRole, tie]), if_neg (by simp [Settings.isRole, tie]),
        if_pos (by simp [Settings.isRole, tie, transfer])]
      rfl
  case locked => exact (exec_closeBreaker_of_incomer run auto incomer).trans (congrArg _ (if_pos locked))
  rw [exec_closeBreaker_of_incomer run auto incomer]
  refine ⟨fun state => ⟨_, congrArg _ (State.incomerClose_of_move clear state), ?_⟩, fun deadWait => ?_, fun other => ?_⟩
  · have told := (State.Told.withTru s fun t => { t with hold := false }).trans
      (State.told_truLeave _ (if s.tru.healthy then .resync else .onAlternate))
    exact ⟨told.toConsequence.answer .., State.truLeave_hold .., State.truLeave_state ..,
      State.closeReturns_reference state, told.bcu, told.dbu, State.truLeave_gcu .., State.truLeave_fcu ..⟩
  · exact congrArg _ (State.incomerClose_of_deadWait clear deadWait)
  · unfold State.incomerClose
    dsimp only
    rw [if_neg (by simp [clear])]
    obtain ⟨onAlternate, returnWait, deadWait⟩ := other
    split <;> first | contradiction | rfl

/-! ### SET_AUTO and RETRANSFER_NOW (R185, R186) -/

theorem Settings.isRole_eq_decide (c : Settings) (r : Role) : c.isRole r = decide (c.role = some r) := by
  rw [Bool.eq_iff_iff, Settings.isRole_iff, decide_eq_true_iff]

theorem State.setMode_of_ne {s : State} {m : Mode} (ne : s.tru.mode ≠ m) :
    s.setMode m = (s.withTru fun t => { t with mode := m }).raise .transferChange := if_neg ne

theorem exec_setAuto_of_run {s : State} (run : s.cfp.run = .run) :
    exec .setAuto s = .next ((if s.tru.mode = .manual then
      (s.setMode .auto).withTru fun t => { t with derive := t.derive || hasSequence s.cfg } else s).answer .accepted 6) := by
  show execSetAuto s = _
  rw [execSetAuto, if_pos (State.running_of_run run)]

theorem exec_retransferNow_of_run {s : State} (run : s.cfp.run = .run) :
    exec .retransferNow s = .next
      (if s.cfg.role = some .incomer ∧ s.tru.mode = .manual then s.answer .refusedMode 8
       else if s.cfg.role = some .incomer ∧ s.tru.state = .returnWait then (s.truLeave .resync).answer .accepted 8
       else s.answer .refusedState 8) := by
  show execRetransferNow s = _
  rw [execRetransferNow, if_neg (by simp [State.running_of_run run])]
  simp only [Settings.isRole_iff]

/-- Settles O11: the mode with its mark, and RETURN_WAIT left for RESYNC. -/
theorem setAutoAsksForADerivation : Obligations.SetAutoAsksForADerivation := by
  refine ⟨fun s run => ⟨fun auto => ?_, fun manual => ?_⟩, fun s run => ?_⟩
  · rw [exec_setAuto_of_run run, if_neg (by simp [auto])]
    rfl
  · rw [exec_setAuto_of_run run, if_pos manual, State.setMode_of_ne (by simp [manual])]
    simp only [hasSequence, Settings.isRole_eq_decide, ← Bool.or_assoc]
    rfl
  · rw [exec_retransferNow_of_run run]
    refine ⟨fun incomer auto returnWait => ?_, fun incomer manual => ?_, fun other => ?_⟩
    · have told := s.told_truLeave .resync
      have tru := State.truLeave_tru (s := s) (x := .resync) (by simp [returnWait])
      rw [if_neg (by simp [auto]), if_pos ⟨incomer, returnWait⟩]
      refine ⟨_, rfl, told.toConsequence.answer .., State.truLeave_state .., ?_, ?_, State.truLeave_hold .., told.bcu,
        told.dbu, State.truLeave_gcu .., State.truLeave_fcu ..⟩
      · exact congrArg Tru.resyncCount tru
      · exact congrArg Tru.reference tru
    · rw [if_pos ⟨incomer, manual⟩]
      rfl
    · rw [if_neg, if_neg]
      · rfl
      · rintro ⟨incomer, returnWait⟩
        exact other.elim (fun no => no incomer) fun no => no.2 returnWait
      · rintro ⟨incomer, manual⟩
        refine other.elim (fun no => no incomer) fun no => ?_
        cases manual.symm.trans no.1

/-! ### SET_MANUAL (R157, R185) -/

theorem exec_setManual_of_run {s : State} (run : s.cfp.run = .run) :
    exec .setManual s = .next
      ((if s.tru.mode = .auto then (s.setMode .manual).truManual.gcuManual else s).answer .accepted 7) := by
  show execSetManual s = _
  rw [execSetManual, if_pos (State.running_of_run run)]

/-- A change of the unit or the transfer state marks TRANSFER_CHANGE; a mark that stands is left (R195). -/
theorem transferChange_again (w : Word) :
    w ||| Attention.transferChange.word ||| Attention.transferChange.word = w ||| Attention.transferChange.word := by
  rw [BitVec.or_assoc, BitVec.or_self]

/-- The blocks a move of TRU or GCU reaches; CFP with the bit of SET_MANUAL pending, whether the move marks it again or not. -/
structure State.ManualMove (s t : State) : Prop where
  rest : t = { s with clu := t.clu, syu := t.syu, gcu := t.gcu, tru := t.tru, cfp := t.cfp }
  cfp : ∀ w : Word, s.cfp.attention = w ||| Attention.transferChange.word → t.cfp = s.cfp

theorem State.ManualMove.refl (s : State) : State.ManualMove s s := ⟨rfl, fun _ _ => rfl⟩

theorem State.ManualMove.trans {s t u : State} (h : State.ManualMove s t) (k : State.ManualMove t u) :
    State.ManualMove s u where
  rest := by rw [k.rest, h.rest]
  cfp w pending := by
    have first := h.cfp w pending
    exact (k.cfp w (first ▸ pending)).trans first

theorem State.ManualMove.of_raise {s : State} : State.ManualMove s (s.raise .transferChange) where
  rest := rfl
  cfp w pending := by rw [State.raise_cfp, pending, transferChange_again, ← pending]

theorem State.manualMove_cancelClaim (s : State) (o : Origin) : State.ManualMove s (s.cancelClaim o) := by
  rw [s.cancelClaim_only]
  exact ⟨rfl, fun _ _ => rfl⟩

theorem State.manualMove_cancelAttempt (s : State) (o : SyncOwner) : State.ManualMove s (s.cancelAttempt o) := by
  rw [s.cancelAttempt_only]
  exact ⟨rfl, fun _ _ => rfl⟩

theorem State.manualMove_withTru (s : State) (f : Tru → Tru) : State.ManualMove s (s.withTru f) := ⟨rfl, fun _ _ => rfl⟩

theorem State.manualMove_truSet (s : State) (x : TransferState) : State.ManualMove s (s.truSet x) := by
  unfold State.truSet
  split
  · exact .refl s
  · exact ((State.manualMove_withTru ..).trans (State.manualMove_withTru ..)).trans .of_raise

theorem State.manualMove_gcuSet (s : State) (u : UnitState) : State.ManualMove s (s.gcuSet u) := by
  unfold State.gcuSet
  split
  · exact .refl s
  · exact State.ManualMove.trans (t := s.withGcu _) ⟨rfl, fun _ _ => rfl⟩ .of_raise

theorem State.truSet_kept (s : State) (x : TransferState) :
    (s.truSet x).tru.state = x ∧ (s.truSet x).tru.mode = s.tru.mode ∧ (s.truSet x).tru.hold = s.tru.hold ∧
      (s.truSet x).gcu = s.gcu ∧ (s.truSet x).clu = s.clu ∧ (s.truSet x).syu = s.syu := by
  unfold State.truSet
  split
  · exact ⟨‹_›, rfl, rfl, rfl, rfl, rfl⟩
  · exact ⟨rfl, rfl, rfl, rfl, rfl, rfl⟩

theorem State.gcuSet_unit (s : State) (u : UnitState) : (s.gcuSet u).gcu.unit = u := by
  unfold State.gcuSet
  split
  · assumption
  · rfl

theorem State.gcuSet_others (s : State) (u : UnitState) :
    (s.gcuSet u).clu = s.clu ∧ (s.gcuSet u).syu = s.syu ∧ (s.gcuSet u).tru = s.tru := by
  unfold State.gcuSet
  split <;> exact ⟨rfl, rfl, rfl⟩

theorem State.gcuCancel_tru (s : State) : s.gcuCancel.tru = s.tru := by
  have claim : (s.cancelClaim .gcu).tru = s.tru := by rw [s.cancelClaim_only]
  unfold State.gcuCancel State.cancelAttempt
  split <;> exact claim

theorem State.gcuCancel_unit (s : State) : s.gcuCancel.gcu = s.gcu := by
  rw [State.gcuCancel, State.cancelAttempt_only, State.cancelClaim_only]

theorem State.gcuCancel_claim {s : State} {c : Claim} (h : s.gcuCancel.clu.claim = some c) : c.origin ≠ .gcu := by
  rw [State.gcuCancel, State.cancelAttempt_only] at h
  exact State.cancelClaim_origin h

/-- TRU of an incomer or a tie after SET_MANUAL (R185). -/
theorem State.truManual_eq {s : State} (role : s.cfg.role = some .incomer ∨ s.cfg.role = some .tie) :
    s.truManual = (s.truCancelled.truSet .manual).withTru fun t =>
      { t with derive := false, lossCount := 0, returnCount := 0, resyncCount := 0, parallelCount := 0,
               startDemand := false, openDemand := false, parallelTimeout := false, direction := none } :=
  if_pos (by simpa only [Bool.or_eq_true, Settings.isRole_iff] using role)

theorem State.truManual_kept (s : State) :
    s.truManual.tru.mode = s.tru.mode ∧ s.truManual.tru.hold = s.tru.hold ∧ s.truManual.gcu = s.gcu := by
  unfold State.truManual
  split
  · obtain ⟨-, mode, hold, gcu, -, -⟩ := State.truSet_kept s.truCancelled .manual
    have cancelled := s.truCancelled_only
    refine ⟨mode.trans ?_, hold.trans ?_, gcu.trans ?_⟩ <;> rw [cancelled]
  · exact ⟨rfl, rfl, rfl⟩

theorem State.truManual_of_other {s : State} (incomer : s.cfg.role ≠ some .incomer) (tie : s.cfg.role ≠ some .tie) :
    s.truManual = s := if_neg (by simp [Settings.isRole_iff, incomer, tie])

theorem State.manualMove_truManual (s : State) : State.ManualMove s s.truManual := by
  unfold State.truManual
  split
  · exact (((State.manualMove_cancelClaim ..).trans (State.manualMove_cancelAttempt ..)).trans
      (State.manualMove_truSet ..)).trans (State.manualMove_withTru ..)
  · exact .refl s

theorem State.gcuManual_of_other {s : State} (role : s.cfg.role ≠ some .generator) : s.gcuManual = s :=
  if_neg (by simpa only [Settings.isRole_iff] using role)

/-- GCU of a generator after SET_MANUAL (R157). -/
theorem State.gcuManual_eq {s : State} (generator : s.cfg.role = some .generator) :
    s.gcuManual = if comingOn s.gcu.unit then s.gcuCancel.gcuSet .cooldown
      else if s.gcu.unit = .unload then s.gcuSet .online else s := if_pos ((Settings.isRole_iff ..).mpr generator)

theorem State.manualMove_gcuManual (s : State) : State.ManualMove s s.gcuManual := by
  unfold State.gcuManual
  split
  · split
    · exact ((State.manualMove_cancelClaim ..).trans (State.manualMove_cancelAttempt ..)).trans (State.manualMove_gcuSet ..)
    split
    · exact State.manualMove_gcuSet ..
    · exact .refl s
  · exact .refl s

theorem State.gcuManual_tru (s : State) : s.gcuManual.tru = s.tru := by
  unfold State.gcuManual
  repeat' split
  · exact (State.gcuSet_others ..).2.2.trans s.gcuCancel_tru
  · exact (State.gcuSet_others ..).2.2
  · rfl
  · rfl

theorem State.gcuManual_unit {s : State} {x : UnitState} (generator : s.cfg.role = some .generator) :
    s.gcu.unit = x → s.gcuManual.gcu.unit = (match x with
      | .starting => .cooldown
      | .deadbus => .cooldown
      | .sync => .cooldown
      | .syncWait => .cooldown
      | .unload => .online
      | u => u) := by
  intro unit
  rw [State.gcuManual_eq generator]
  cases x <;> simp [comingOn, State.gcuSet_unit, unit]

theorem State.gcuManual_cancels {s : State} (generator : s.cfg.role = some .generator) (coming : comingOn s.gcu.unit = true) :
    (∀ c, s.gcuManual.clu.claim = some c → c.origin ≠ .gcu) ∧
      ¬(s.gcuManual.syu.state = .checking ∧ s.gcuManual.syu.owner = some .gcu) := by
  rw [State.gcuManual_eq generator, if_pos coming]
  obtain ⟨clu, syu, -⟩ := s.gcuCancel.gcuSet_others .cooldown
  rw [clu, syu]
  exact ⟨fun c => State.gcuCancel_claim, (s.cancelClaim .gcu).cancelAttempt_checking .gcu⟩

/-- Settles O12: the mode, then TRU by its role, then GCU. -/
theorem setManualEndsTheSequence : Obligations.SetManualEndsTheSequence := by
  intro s run
  rw [exec_setManual_of_run run]
  refine ⟨fun manual => by rw [if_neg (by simp [manual])]; rfl, fun auto => ⟨_, congrArg _ (congrArg (State.answer · _ _) (if_pos auto)), ?_⟩⟩
  have setMode := State.setMode_of_ne (s := s) (m := .manual) (by simp [auto])
  have move := (State.manualMove_truManual (s.setMode .manual)).trans (State.manualMove_gcuManual _)
  have cfg : (s.setMode .manual).cfg = s.cfg := by rw [setMode]; rfl
  have cfgTru : (s.setMode .manual).truManual.cfg = s.cfg := by
    rw [(State.manualMove_truManual (s.setMode .manual)).rest]; exact cfg
  have cfp := move.cfp s.cfp.attention (by rw [setMode]; rfl)
  have tru := State.gcuManual_tru (s.setMode .manual).truManual
  refine ⟨?rest, ?cfp, ?mode, fun role => ?transfer, fun generator => ?generator, fun feeder => ?feeder⟩
  case rest => rw [move.rest, setMode]; rfl
  case cfp => rw [State.answer_cfp, cfp, setMode]; rfl
  case mode => rw [State.answer_tru, tru, (State.truManual_kept _).1, s.setMode_mode]
  case transfer =>
    have manual := State.truManual_eq (s := s.setMode .manual) (by rw [cfg]; exact role)
    have noGcu : (s.setMode .manual).truManual.gcuManual = (s.setMode .manual).truManual :=
      State.gcuManual_of_other (by rw [cfgTru]; rcases role with role | role <;> simp [role])
    obtain ⟨-, hold, gcu⟩ := (s.setMode .manual).truManual_kept
    obtain ⟨state, -, -, -, clu, syu⟩ := (s.setMode .manual).truCancelled.truSet_kept .manual
    rw [State.answer_tru, State.answer_gcu, State.answer_clu, State.answer_syu, noGcu, gcu, hold]
    rw [manual, State.withTru_clu, State.withTru_syu, clu, syu]
    refine ⟨state, rfl, by rw [setMode]; rfl, rfl, rfl, rfl, rfl, rfl, rfl, rfl, rfl, by rw [setMode]; rfl,
      fun c => State.truCancelled_claim, State.truCancelled_checking _⟩
  case generator =>
    have other : (s.setMode .manual).truManual = s.setMode .manual :=
      State.truManual_of_other (by simp [cfg, generator]) (by simp [cfg, generator])
    have role : (s.setMode .manual).cfg.role = some .generator := by rw [cfg, generator]
    have gcu : (s.setMode .manual).gcu = s.gcu := by rw [setMode]; rfl
    rw [State.answer_tru, tru, other]
    refine ⟨by rw [setMode]; rfl, ?_, fun coming => ?_⟩
    · exact (congrArg Gcu.unit (State.answer_gcu ..)).trans (State.gcuManual_unit role (congrArg Gcu.unit gcu))
    · exact State.gcuManual_cancels role (by rw [gcu]; rcases coming with unit | unit | unit | unit <;> rw [unit] <;> rfl)
  case feeder =>
    have other : (s.setMode .manual).truManual = s.setMode .manual :=
      State.truManual_of_other (by simp [cfg, feeder]) (by simp [cfg, feeder])
    rw [other, State.gcuManual_of_other (by simp [cfg, feeder]), setMode]
    exact ⟨rfl, rfl, rfl, rfl⟩

/-! ### RESET_LATCH (R98, R156, R184) -/

theorem exec_resetLatch_of_run {s : State} (run : s.cfp.run = .run) :
    exec .resetLatch s = .next (if s.latchHeld then s.answer .refusedLockout 9 else s.unlatch.answer .accepted 9) := by
  show execResetLatch s = _
  rw [execResetLatch, if_neg (by simp [State.running_of_run run])]

theorem State.usable_iff (s : State) (k : Station) (p : BayRecord → Bool) :
    s.usable k p = true ↔ ∃ r, s.usableRec k = some r ∧ p r = true := Option.any_eq_true ..

theorem State.anyUsable_iff (s : State) (p : BayRecord → Bool) :
    s.anyUsable p = true ↔ ∃ k r, s.usableRec k = some r ∧ p r = true := by
  simp only [State.anyUsable, List.any_eq_true, mem_allStations, true_and, State.usable_iff]

theorem State.latchHeld_iff (s : State) :
    s.latchHeld = true ↔ s.fnActive .extLockout = true ∨ s.dbu.notice = true ∨ ∃ k : Station, ∃ r : BayRecord,
      s.usableRec k = some r ∧ r.bfNotice = true ∧ concerns s.cfg r = true := by
  simp only [State.latchHeld, Bool.or_eq_true, State.anyUsable_iff, Bool.and_eq_true, or_assoc]

/-- GCU after RESET_LATCH (R156). -/
def State.gcuUnlatched (s : State) : State :=
  if s.cfg.isRole .generator ∧ s.gcu.unit = .fail then (s.gcuSet .idle).withGcu fun g => { g with failReason := .none } else s

theorem State.gcuUnlatched_of_fail {s : State} (generator : s.cfg.role = some .generator) (fail : s.gcu.unit = .fail) :
    s.gcuUnlatched = (s.withGcu fun g =>
      { g with unit := .idle, failReason := .none, enteredNow := true }).raise .transferChange := by
  have set : s.gcuUnlatched = (s.gcuSet .idle).withGcu fun g => { g with failReason := .none } :=
    if_pos ⟨(Settings.isRole_iff ..).mpr generator, fail⟩
  rw [set, State.gcuSet, if_neg (by simp [fail])]
  rfl

theorem State.gcuUnlatched_of_not {s : State} (other : ¬(s.cfg.role = some .generator ∧ s.gcu.unit = .fail)) :
    s.gcuUnlatched = s := if_neg (by simpa only [Settings.isRole_iff] using other)

/-- The state with lockout cleared (R98). -/
def State.lockoutCleared (s : State) : State := s.withDbu fun d => { d with lockout := false }

theorem State.unlatch_eq (s : State) : s.unlatch =
    if s.cfg.role = some .incomer ∧ s.tru.state = .halted then
      s.lockoutCleared.gcuUnlatched.withTru fun t => { t with derive := true }
    else s.lockoutCleared.gcuUnlatched := by
  simp only [← Settings.isRole_iff]
  rfl

/-- Settles O13: lockout, then GCU by its state, then TRU by its own. -/
theorem resetLatchClearsLockout : Obligations.ResetLatchClearsLockout := by
  intro s run
  rw [exec_resetLatch_of_run run]
  refine ⟨fun held => congrArg _ (if_pos (s.latchHeld_iff.mpr held)), fun ⟨line, notice, records⟩ => ?_⟩
  have released : ¬s.latchHeld = true := by
    rw [s.latchHeld_iff]
    rintro (active | set | ⟨k, r, usable, carries, concern⟩)
    · rw [line] at active; cases active
    · rw [notice] at set; cases set
    · rw [records k r usable carries] at concern; cases concern
  refine ⟨_, congrArg _ (if_neg released), ?_⟩
  rw [s.unlatch_eq]
  by_cases fail : s.cfg.role = some .generator ∧ s.gcu.unit = .fail
  · have noIncomer : ¬(s.cfg.role = some .incomer ∧ s.tru.state = .halted) := by simp [fail.1]
    rw [if_neg noIncomer, if_neg noIncomer, if_pos fail, State.gcuUnlatched_of_fail (s := s.lockoutCleared) fail.1 fail.2]
    exact ⟨rfl, rfl, rfl⟩
  · rw [if_neg fail, State.gcuUnlatched_of_not (s := s.lockoutCleared) fail]
    by_cases halted : s.cfg.role = some .incomer ∧ s.tru.state = .halted
    · rw [if_pos halted, if_pos halted]
      exact ⟨rfl, rfl, rfl⟩
    · rw [if_neg halted, if_neg halted]
      exact ⟨rfl, rfl, rfl⟩

end Sys2Proof.Machine
end

section
/-! PROOFS. The capture memory (R19 to R24), the acknowledge (R195), the writes of the port (R192) and the block read (R54). -/

namespace Sys2Proof.Machine

/-! ### The two banks (R19, R21, R22) -/

theorem Cap.bank_setBank_other (c : Cap) (i : Bool) (x : Bank) : (c.setBank i x).bank (!i) = c.bank (!i) := by
  cases i <;> rfl

theorem Cap.setBank_setBank (c : Cap) (i : Bool) (x y : Bank) : (c.setBank i x).setBank i y = c.setBank i y := by
  cases i <;> rfl

theorem Bank.recording_iff (b : Bank) : b.recording = true ↔ b.state = .active ∨ b.state = .post := by
  simp [Bank.recording]

theorem Bank.recording_of_active {b : Bank} (h : b.state = .active) : b.recording = true := b.recording_iff.mpr (.inl h)

theorem Bank.recording_of_post {b : Bank} (h : b.state = .post) : b.recording = true := b.recording_iff.mpr (.inr h)

theorem Bank.recording_eq_false {b : Bank} (a : b.state ≠ .active) (p : b.state ≠ .post) : b.recording = false := by
  rw [← Bool.not_eq_true, b.recording_iff]
  exact fun h => h.elim a p

theorem Cap.current_of_recording {c : Cap} {i : Bool} (h : (c.bank i).recording = true)
    (other : (c.bank (!i)).recording = false) : c.current = some i := by
  cases i
  · exact if_pos h
  · have hb : c.b.recording = true := h
    have ha : c.a.recording = false := other
    rw [Cap.current, ha, hb]
    rfl

theorem Cap.current_of_idle {c : Cap} (h : ∀ i : Bool, (c.bank i).recording = false) : c.current = none := by
  have ha : c.a.recording = false := h false
  have hb : c.b.recording = false := h true
  rw [Cap.current, ha, hb]
  rfl

theorem Cap.heldBank_of_held {c : Cap} {i : Bool} (h : (c.bank i).state = .held) (other : (c.bank (!i)).state ≠ .held) :
    c.heldBank = some i := by
  cases i
  · exact if_pos h
  · have hb : c.b.state = .held := h
    have ha : c.a.state ≠ .held := other
    rw [Cap.heldBank, if_neg ha, if_pos hb]

theorem Cap.heldBank_of_none {c : Cap} (h : ∀ i : Bool, (c.bank i).state ≠ .held) : c.heldBank = none := by
  have ha : c.a.state ≠ .held := h false
  have hb : c.b.state ≠ .held := h true
  rw [Cap.heldBank, if_neg ha, if_neg hb]

theorem Cap.hold_bank (c : Cap) (g : Settings) (i : Bool) : (c.hold g i).bank i = (c.bank i).complete g := by
  cases i <;> rfl

theorem Cap.hold_bank_other (c : Cap) (g : Settings) (i : Bool) : (c.hold g i).bank (!i) = (c.bank (!i)).follow := by
  cases i <;> rfl

theorem Cap.hold_lost (c : Cap) (g : Settings) (i : Bool) : (c.hold g i).lost = c.lost := by
  cases i <;> rfl

/-! ### The trigger (R20, R21) -/

theorem State.takeTrigger_of_free {s : State} {i : Bool} (src : Trigger) (h : (s.cap.bank i).state = .active)
    (other : (s.cap.bank (!i)).state = .free) :
    s.takeTrigger src = s.withCap fun c => c.setBank i ((c.bank i).capture src s.lkc.count) := by
  have current := Cap.current_of_recording (Bank.recording_of_active h)
    (Bank.recording_eq_false (by simp [other]) (by simp [other]))
  rw [State.takeTrigger, current]
  simp only [h, other, reduceCtorEq, if_false]

theorem State.takeTrigger_of_held {s : State} {i : Bool} (src : Trigger) (h : (s.cap.bank i).state = .active)
    (other : (s.cap.bank (!i)).state = .held) :
    s.takeTrigger src = (s.withCap fun c => { c with lost := satInc 255 c.lost }).raise .captureLost := by
  have current := Cap.current_of_recording (Bank.recording_of_active h)
    (Bank.recording_eq_false (by simp [other]) (by simp [other]))
  rw [State.takeTrigger, current]
  simp only [h, other, reduceCtorEq, if_false, if_true]

theorem State.takeTrigger_of_post {s : State} {i : Bool} (src : Trigger) (h : (s.cap.bank i).state = .post)
    (other : (s.cap.bank (!i)).recording = false) :
    s.takeTrigger src = s.withCap fun c => c.setBank i ((c.bank i).retrigger src) := by
  rw [State.takeTrigger, Cap.current_of_recording (Bank.recording_of_post h) other]
  simp only [h, if_true]

theorem State.takeTrigger_of_idle {s : State} (src : Trigger) (h : ∀ i : Bool, (s.cap.bank i).recording = false) :
    s.takeTrigger src = s := by
  rw [State.takeTrigger, Cap.current_of_idle h]

theorem exec_triggerCapture_of_masked {s : State} (run : s.cfp.run = .run) (mask : s.cfg.triggers.command = false) :
    exec .triggerCapture s = .next (s.answer .refusedMode 11) := by
  show execTriggerCapture s = _
  have hrun : (!s.running) = false := by rw [State.running_of_run run]; rfl
  have hmask : (!s.cfg.triggers.has .command) = true := congrArg not mask
  rw [execTriggerCapture, hrun, hmask]
  rfl

theorem exec_triggerCapture_of_taken {s : State} (run : s.cfp.run = .run) (mask : s.cfg.triggers.command = true) :
    exec .triggerCapture s = .next ((s.takeTrigger .command).answer .accepted 11) := by
  show execTriggerCapture s = _
  have hrun : (!s.running) = false := by rw [State.running_of_run run]; rfl
  have hmask : (!s.cfg.triggers.has .command) = false := congrArg not mask
  rw [execTriggerCapture, hrun, hmask]
  rfl

/-! ### The end of a capture (R22) -/

/-- The capture begins PRE samples before the trigger, counted around the bank. -/
theorem captureStart_eq (trigger pre length : Nat) (h : pre ≤ length) :
    (trigger + (length - pre)) % length = (((trigger : Int) - (pre : Int)).emod length).toNat := by
  have wraps : ((trigger + (length - pre) : Nat) : Int) = (trigger : Int) - pre + length := by omega
  have emod : ((trigger : Int) - (pre : Int)).emod length = (((trigger + (length - pre)) % length : Nat) : Int) := by
    rw [Int.natCast_emod, wraps, Int.add_emod_right]
    rfl
  rw [emod, Int.toNat_natCast]

theorem Settings.pre_le_of_check {c : Settings} (h : c.checkCode = 0) : c.pre.toNat ≤ c.capLen.toNat := by
  have capture : c.captureOk = true := (checkCode_eq_zero_iff c).mp h _ (by simp [Settings.checks])
  obtain ⟨length, _, pre, _⟩ := (captureOk_iff c).mp capture
  omega

theorem exec_captureHeld_of_last {s : State} {i : Bool} (run : s.cfp.run = .run) (h : (s.cap.bank i).state = .post)
    (other : (s.cap.bank (!i)).recording = false) (last : s.cfg.post ≤ (s.cap.bank i).post + 1) :
    exec .captureHeld s = .next ((s.withCap fun c =>
      (c.setBank i { c.bank i with post := s.cfg.post }).hold s.cfg i).raise .captureHeld) := by
  show execCaptureHeld s = _
  rw [execCaptureHeld, Cap.current_of_recording (Bank.recording_of_post h) other]
  simp only [State.running_of_run run, h, decide_eq_true last, beq_self_eq_true, Bool.and_self, if_true]

/-- Settles O15, by the states of the two banks. -/
theorem triggerCaptureIsTakenByTheRecordingBank : Obligations.TriggerCaptureIsTakenByTheRecordingBank := by
  refine ⟨fun s run => ⟨exec_triggerCapture_of_masked run, fun mask => ⟨?_, ?_, ?_, ?_⟩⟩, ?_⟩
  · intro x active free
    rw [exec_triggerCapture_of_taken run mask, State.takeTrigger_of_free .command active free]
    rfl
  · intro x active held
    rw [exec_triggerCapture_of_taken run mask, State.takeTrigger_of_held .command active held]
    rfl
  · intro x post active' post'
    rw [exec_triggerCapture_of_taken run mask,
      State.takeTrigger_of_post .command post (Bank.recording_eq_false active' post')]
    rfl
  · intro idle
    have none : ∀ i : Bool, (s.cap.bank i).recording = false := fun i =>
      Bank.recording_eq_false (idle i).1 (idle i).2
    rw [exec_triggerCapture_of_taken run mask, State.takeTrigger_of_idle .command none]
    rfl
  · intro x s run check post active' post' last _
    refine ⟨_, exec_captureHeld_of_last run post (Bank.recording_eq_false active' post') (Nat.le_of_eq last.symm), rfl,
      Cap.hold_lost .. |>.trans (by cases x <;> rfl), ?_, ?_⟩
    · refine (Cap.hold_bank ..).trans ?_
      rw [Cap.bank_setBank, Bank.complete, Settings.length, captureStart_eq _ _ _ (Settings.pre_le_of_check check)]
      rfl
    · refine (Cap.hold_bank_other ..).trans ?_
      rw [Cap.bank_setBank_other]
      rfl

/-! ### The capture window and the set written (R19, R24) -/

/-- Two places of the sample memory are the same exactly when channel and bank position are. -/
theorem samplePlace_eq_iff {p q : Nat} (hp : p < 1024) (hq : q < 1024) (c d : Channel) :
    samplePlace c p = samplePlace d q ↔ c = d ∧ p = q := by
  have apart : channelNumber c = channelNumber d ↔ c = d := by cases c <;> cases d <;> decide
  rw [← apart, samplePlace, samplePlace]
  omega

/-- The writes of a list of channels, read back: the first of the list that is the channel read has written it. -/
theorem readSample_foldl_write (x : Seven Cell) {p q : Nat} (hp : p < 1024) (hq : q < 1024) (ch : Channel) :
    ∀ (l : List Channel) (m : SampleMem), Memory.wf m = true →
      readSample (l.foldl (fun acc c => writeSample acc (samplePlace c p) (toWord (x.get c).value)) m) (samplePlace ch q) =
        if ch ∈ l ∧ q = p then toWord (x.get ch).value else readSample m (samplePlace ch q)
  | [], m, _ => by simp
  | c :: l, m, wf => by
    rw [List.foldl_cons, readSample_foldl_write x hp hq ch l _ (writeSample_wf m _ _ wf),
      readSample_writeSample m wf]
    simp only [samplePlace_eq_iff hq hp, List.mem_cons]
    by_cases place : q = p
    · by_cases later : ch ∈ l
      · simp [later, place]
      · by_cases first : ch = c
        · simp [first, place]
        · simp [later, first]
    · simp [place]

theorem readSample_writeSet (m : SampleMem) (x : Seven Cell) (ch : Channel) {p q : Nat} (wf : Memory.wf m = true)
    (hp : p < 1024) (hq : q < 1024) :
    readSample (writeSet m p x) (samplePlace ch q) =
      if q = p then BitVec.ofInt 16 (x.get ch).value else readSample m (samplePlace ch q) := by
  have every : ch ∈ allChannels := by cases ch <;> decide
  rw [writeSet, readSample_foldl_write x hp hq ch allChannels m wf]
  simp only [every, true_and, toWord]

theorem Bank.write_of_active {b : Bank} (c : Settings) (x : Seven Cell) (h : b.state = .active) :
    b.write c x = { b with
      samples := writeSet b.samples b.index x, index := (b.index + 1) % c.capLen.toNat,
      written := min c.pre.toNat (b.written + 1) } := by
  unfold Bank.write
  rw [h]
  rfl

theorem Bank.write_of_post {b : Bank} (c : Settings) (x : Seven Cell) (h : b.state = .post) :
    b.write c x = { b with
      samples := writeSet b.samples b.index x, index := (b.index + 1) % c.capLen.toNat, post := b.post + 1 } := by
  unfold Bank.write
  rw [h]
  rfl

theorem Bank.full_iff (b : Bank) (c : Settings) :
    b.full c = true ↔ b.state = .post ∧ c.capLen.toNat - c.pre.toNat ≤ b.post := by
  simp [Bank.full, Settings.post]

/-- A set taken in that does not complete the capture goes into the bank that records. -/
theorem State.capWrite_of_filling {s : State} {i : Bool} (x : Seven Cell) (current : s.cap.current = some i)
    (filling : ((s.cap.bank i).write s.cfg x).full s.cfg = false) :
    s.capWrite x = s.withCap fun c => c.setBank i ((s.cap.bank i).write s.cfg x) := by
  simp only [State.capWrite, current, filling, Bool.false_eq_true, if_false]

theorem State.capWrite_of_full {s : State} {i : Bool} (x : Seven Cell) (current : s.cap.current = some i)
    (full : ((s.cap.bank i).write s.cfg x).full s.cfg = true) :
    s.capWrite x = ((s.withCap fun c => c.setBank i ((s.cap.bank i).write s.cfg x)).withCap
      fun c => c.hold s.cfg i).raise .captureHeld := by
  simp only [State.capWrite, current, full, if_true]

/-- Settles O16, by the state of the bank that is read and of the bank that records. -/
theorem captureWindowReadsTheHeldBank : Obligations.CaptureWindowReadsTheHeldBank := by
  refine ⟨⟨fun s ch k => ⟨fun x held other => ?_, fun none => ?_⟩, fun m p q x ch wf hp hq =>
    ⟨writeSet_wf m p x wf, readSample_writeSet m x ch wf hp hq⟩⟩, fun s x i noActive noPost => ?_⟩
  · rw [State.captureRead, Cap.heldBank_of_held held other]
    rfl
  · rw [State.captureRead, Cap.heldBank_of_none none]
  have other := Bank.recording_eq_false noActive noPost
  have samples : ((s.cap.bank i).write s.cfg x).samples = writeSet (s.cap.bank i).samples (s.cap.bank i).index x := by
    unfold Bank.write
    cases (s.cap.bank i).state <;> rfl
  refine ⟨fun active => ?_, fun post below => ?_, fun post reached => ?_, fun active post => ?_⟩
  · rw [State.capWrite_of_filling x (Cap.current_of_recording (Bank.recording_of_active active) other)
      (by rw [← Bool.not_eq_true, Bank.full_iff, Bank.write_state, active]; simp), Bank.write_of_active _ x active]
    rfl
  · have filling : ((s.cap.bank i).write s.cfg x).full s.cfg = false := by
      rw [← Bool.not_eq_true, Bank.full_iff, Bank.write_of_post _ x post]
      exact fun h => Nat.not_le.mpr below h.2
    rw [State.capWrite_of_filling x (Cap.current_of_recording (Bank.recording_of_post post) other) filling,
      Bank.write_of_post _ x post]
    rfl
  · have full : ((s.cap.bank i).write s.cfg x).full s.cfg = true := by
      rw [Bank.full_iff, Bank.write_of_post _ x post]
      exact ⟨post, reached⟩
    rw [State.capWrite_of_full x (Cap.current_of_recording (Bank.recording_of_post post) other) full]
    refine ⟨congrArg Bank.state (Cap.hold_bank ..), (congrArg Bank.samples (Cap.hold_bank ..)).trans ?_,
      (congrArg Bank.state (Cap.hold_bank_other ..)).trans ?_, (congrArg Bank.samples (Cap.hold_bank_other ..)).trans ?_,
      State.raise_pendingBit ..⟩
    · exact (congrArg Bank.samples (Cap.bank_setBank ..)).trans samples
    · rw [State.withCap_cap, Cap.bank_setBank_other, Bank.follow_state]
    · rw [State.withCap_cap, Cap.bank_setBank_other, Bank.follow_samples]
  · have idle : ∀ j : Bool, (s.cap.bank j).recording = false := fun j => by
      by_cases h : j = i
      · exact h ▸ Bank.recording_eq_false active post
      · rw [show j = !i by cases j <;> cases i <;> simp_all]
        exact other
    rw [State.capWrite, Cap.current_of_idle idle]

/-! ### The acknowledge and the items of the port (R192, R195) -/

theorem State.acknowledge_eq (s : State) (w : Word) :
    s.acknowledge w = { s with
      lkc := (if w.getLsbD 4 then { s.lkc with
          crcError := false, slotMismatch := false, late := false, duplicateSeen := false, referenceMissing := false }
        else s.lkc),
      cfp := { s.cfp with attention := s.cfp.attention &&& ~~~w } } := by
  rw [State.acknowledge]
  show (if w.getLsbD 4 = true then _ else _) = _
  split <;> rfl

/-- Settles O17: both paths to the acknowledge are one function of the state. -/
theorem acknowledgeClearsTheNamedBits : Obligations.AcknowledgeClearsTheNamedBits := by
  intro w s
  refine ⟨(s.acknowledge w).answer .accepted 12, rfl, rfl, ?_⟩
  rw [State.acknowledge_eq]
  rfl

theorem State.running_eq_false {s : State} (h : s.cfp.run = .config) : s.running = false := by
  rw [State.running, h]
  rfl

theorem State.writeTrim_of_config {s : State} (t : Triple) (w : Word) (h : s.cfp.run = .config) :
    s.writeTrim t w = s.withCfg fun c => c.broadcast t w := by
  rw [State.writeTrim, State.running_eq_false h]
  rfl

theorem State.writeTrim_of_run {s : State} (t : Triple) (w : Word) (h : s.cfp.run = .run) :
    s.writeTrim t w = s.raise .writeRefused := by
  rw [State.writeTrim, State.running_of_run h]
  rfl

/-- Settles O18, by the run state for the broadcast trim. -/
theorem portItemsTakeTheirOwnWrites : Obligations.PortItemsTakeTheirOwnWrites := by
  refine ⟨fun w s => ⟨rfl, rfl, rfl, fun b => rfl⟩, fun w s => ⟨fun config => ⟨?_, ?_⟩, fun run x => ?_⟩⟩
  · exact congrArg Host.Outcome.next (State.writeTrim_of_config .current w config)
  · exact congrArg Host.Outcome.next (State.writeTrim_of_config .voltage w config)
  · exact congrArg Host.Outcome.next (State.writeTrim_of_run x w run)

end Sys2Proof.Machine
end

section
/-! PROOFS. The configuration store: what a word written reads as and what it leaves (R84, R192), and the words of a Peer
Image block (R54). -/

namespace Sys2Proof.Machine

/-! ### The numeric words of the tables -/

theorem Settings.getNumber_setNumber_same (c : Settings) (x : NumWord) (w : Word) : (c.setNumber x w).getNumber x = w := by
  cases x
  case gain ch => cases ch <;> rfl
  case ufPickup st | ufDelay st | ufThreshold st => cases st <;> rfl
  all_goals rfl

theorem Settings.getNumber_setNumber_other (c : Settings) {x y : NumWord} (w : Word) (h : y ≠ x) :
    (c.setNumber x w).getNumber y = c.getNumber y := by
  cases x
  case gain ch =>
    cases y
    case gain d => cases ch <;> cases d <;> first | rfl | exact absurd rfl h
    all_goals rfl
  case ufPickup st | ufDelay st | ufThreshold st =>
    cases st <;> cases y <;> first | rfl | (rename_i d; cases d <;> first | rfl | exact absurd rfl h)
  all_goals cases y <;> first | rfl | exact absurd rfl h

/-! ### What a write leaves

The store in three parts beside the numeric words of the tables: the values that words of the tables code, the two halves
of the group window, and the words that code a value, as they were written. -/

/-- The values that the words of the tables code. -/
structure CodedValues where
  role : Option Role
  triggers : Sources
  faultMode : Option GroupMode
  sourceMode : Option GroupMode
  deadDead : Bool
  direction : Option Direction
  startMode : Option Mode
  openTransition : Bool
  tieTransfer : Bool
  inputs : Vector InputLine 8
  outputs : Vector OutputLine 8

/-- The values that the words of the tables code, of a store. -/
def Settings.codedValues (c : Settings) : CodedValues :=
  { role := c.role, triggers := c.triggers, faultMode := c.faultMode, sourceMode := c.sourceMode, deadDead := c.deadDead,
    direction := c.direction, startMode := c.startMode, openTransition := c.openTransition, tieTransfer := c.tieTransfer,
    inputs := c.inputs, outputs := c.outputs }

/-- The four instances of the group window. -/
def Settings.groups (c : Settings) : FaultGroup × FaultGroup × SourceGroup × SourceGroup :=
  (c.fault0, c.fault1, c.source0, c.source1)

/-- The words that code a value, as they were written. -/
def Settings.words (c : Settings) : Vector (Option Word) 25 × Vector (Option Word) 10 × Vector (Option Word) 10 :=
  (c.coded, c.group0, c.group1)

theorem Settings.setNumber_keeps (c : Settings) (x : NumWord) (w : Word) :
    (c.setNumber x w).codedValues = c.codedValues ∧ (c.setNumber x w).groups = c.groups ∧
      (c.setNumber x w).words = c.words := by
  cases x
  case ufPickup st | ufDelay st | ufThreshold st => cases st <;> exact ⟨rfl, rfl, rfl⟩
  all_goals exact ⟨rfl, rfl, rfl⟩

/-- The numeric words of the tables, the values coded there and the words as written stand. -/
def Settings.TablesStand (c d : Settings) : Prop :=
  (∀ y, d.getNumber y = c.getNumber y) ∧ d.codedValues = c.codedValues ∧ d.words = c.words

theorem Settings.onFault_tables (c : Settings) (g : Bool) (f : FaultGroup → FaultGroup) :
    Settings.TablesStand c (c.onFault g f) := by
  cases g <;> exact ⟨fun _ => rfl, rfl, rfl⟩

theorem Settings.onSource_tables (c : Settings) (g : Bool) (e : Element) (f : ElementWords → ElementWords) :
    Settings.TablesStand c (c.onSource g e f) := by
  cases g <;> exact ⟨fun _ => rfl, rfl, rfl⟩

theorem Settings.onFault_fault (c : Settings) (g b : Bool) (f : FaultGroup → FaultGroup) :
    (c.onFault g f).fault b = if b = g then f (c.fault b) else c.fault b := by
  cases g <;> cases b <;> rfl

theorem Settings.onFault_source (c : Settings) (g b : Bool) (f : FaultGroup → FaultGroup) :
    (c.onFault g f).source b = c.source b := by
  cases g <;> cases b <;> rfl

theorem Settings.onSource_fault (c : Settings) (g b : Bool) (e : Element) (f : ElementWords → ElementWords) :
    (c.onSource g e f).fault b = c.fault b := by
  cases g <;> cases b <;> rfl

theorem Settings.onSource_source (c : Settings) (g b : Bool) (e : Element) (f : ElementWords → ElementWords) :
    (c.onSource g e f).source b = if b = g then (c.source b).onWords e f else c.source b := by
  cases g <;> cases b <;> rfl

theorem SourceGroup.onWords_words (s : SourceGroup) (e d : Element) (f : ElementWords → ElementWords)
    (h : d.inSource = true) : (s.onWords e f).words d = if d = e then f (s.words d) else s.words d := by
  cases d
  case overI | highI => exact absurd h (by decide)
  all_goals cases e <;> rfl

/-! ### The numeric words of the group window -/

theorem Settings.setGroupNumber_tables (c : Settings) (g : Bool) (x : GroupWord) (w : Word) :
    Settings.TablesStand c (c.setGroupNumber g x w) := by
  cases x
  case pickup e | delay e => exact c.onSource_tables g e _
  all_goals exact c.onFault_tables g _

theorem Settings.setAction_tables (c : Settings) (g : Bool) (e : Element) (v : Option Action) :
    Settings.TablesStand c (c.setAction g e v) := by
  cases e
  case overI | highI => exact c.onFault_tables g _
  all_goals exact c.onSource_tables g _ _

/-- The words of the group window that are numbers, read from the two halves. -/
theorem Settings.getGroupNumber_setGroupNumber (c : Settings) (g b : Bool) {x y : GroupWord} (w : Word)
    (hx : StoreItem.wf (.group x) = true) (hy : StoreItem.wf (.group y) = true) :
    (c.setGroupNumber g x w).getGroupNumber b y = if y = x ∧ b = g then w else c.getGroupNumber b y := by
  cases x
  case pickup e | delay e =>
    have hx : e.inSource = true := hx
    cases y
    case pickup d | delay d =>
      have hy : d.inSource = true := hy
      by_cases side : b = g <;> by_cases same : d = e <;>
        simp [Settings.getGroupNumber, Settings.setGroupNumber, Settings.onSource_source, SourceGroup.onWords_words,
          side, same, hx, hy]
    all_goals simp [Settings.getGroupNumber, Settings.setGroupNumber, Settings.onSource_fault]
  all_goals
    cases y
    case pickup d | delay d => simp [Settings.getGroupNumber, Settings.setGroupNumber, Settings.onFault_source]
    all_goals
      by_cases side : b = g <;>
        simp [Settings.getGroupNumber, Settings.setGroupNumber, Settings.onFault_fault, side]

/-- A word of the window that belongs to no element of the source half reads 0 whatever the store. -/
theorem Settings.getGroupNumber_of_not_wf (c : Settings) (b : Bool) {y : GroupWord}
    (hy : StoreItem.wf (.group y) = false) : c.getGroupNumber b y = 0 := by
  cases y
  case pickup e | delay e =>
    have hy : e.inSource = false := hy
    simp [Settings.getGroupNumber, hy]
  all_goals exact absurd hy (by decide)

theorem Settings.fault_of_groups {c d : Settings} (h : d.groups = c.groups) (b : Bool) : d.fault b = c.fault b := by
  obtain ⟨h0, h1, -, -⟩ : d.fault0 = c.fault0 ∧ d.fault1 = c.fault1 ∧ d.source0 = c.source0 ∧ d.source1 = c.source1 := by
    simpa [Settings.groups] using h
  rw [Settings.fault, Settings.fault, h0, h1]

theorem Settings.source_of_groups {c d : Settings} (h : d.groups = c.groups) (b : Bool) : d.source b = c.source b := by
  obtain ⟨-, -, h0, h1⟩ : d.fault0 = c.fault0 ∧ d.fault1 = c.fault1 ∧ d.source0 = c.source0 ∧ d.source1 = c.source1 := by
    simpa [Settings.groups] using h
  rw [Settings.source, Settings.source, h0, h1]

theorem Settings.getGroupNumber_of_groups {c d : Settings} (h : d.groups = c.groups) (b : Bool) (y : GroupWord) :
    d.getGroupNumber b y = c.getGroupNumber b y := by
  cases y <;> simp only [Settings.getGroupNumber, Settings.fault_of_groups h, Settings.source_of_groups h]

/-- A change of the fault half that leaves its numbers leaves every number of the window. -/
theorem Settings.getGroupNumber_onFault (c : Settings) (g b : Bool) (y : GroupWord) (f : FaultGroup → FaultGroup)
    (h : ∀ t, (f t).overIPickup = t.overIPickup ∧ (f t).overIDelay = t.overIDelay ∧ (f t).highIPickup = t.highIPickup ∧
      (f t).ipu = t.ipu ∧ (f t).slope = t.slope ∧ (f t).confirm = t.confirm) :
    (c.onFault g f).getGroupNumber b y = c.getGroupNumber b y := by
  by_cases side : b = g
  · obtain ⟨overIPickup, overIDelay, highIPickup, ipu, slope, confirm⟩ := h (c.fault g)
    cases y <;> simp [Settings.getGroupNumber, Settings.onFault_fault, Settings.onFault_source, side, overIPickup,
      overIDelay, highIPickup, ipu, slope, confirm]
  · cases y <;> simp [Settings.getGroupNumber, Settings.onFault_fault, Settings.onFault_source, side]

theorem Settings.getGroupNumber_setAction (c : Settings) (g b : Bool) (e : Element) (v : Option Action) (y : GroupWord) :
    (c.setAction g e v).getGroupNumber b y = c.getGroupNumber b y := by
  cases e
  case overI | highI => exact c.getGroupNumber_onFault g b y _ fun t => ⟨rfl, rfl, rfl, rfl, rfl, rfl⟩
  all_goals
    cases y
    case pickup d | delay d =>
      by_cases side : b = g <;> cases d <;>
        simp [Settings.getGroupNumber, Settings.setAction, Settings.onSource_source, side, Element.inSource,
          SourceGroup.onWords, SourceGroup.words]
    all_goals simp [Settings.getGroupNumber, Settings.setAction, Settings.onSource_fault]

/-! ### The words as they were written (log 7) -/

theorem vector_get_set {α : Type} {n : Nat} (v : Vector α n) (i j : Fin n) (x : α) :
    (v.set i.val x i.isLt).get j = if j = i then x else v.get j := by
  by_cases h : j = i
  · rw [if_pos h, h]
    exact Vector.getElem_set_self i.isLt
  · rw [if_neg h]
    exact Vector.getElem_set_ne i.isLt j.isLt fun e => h (Fin.ext e.symm)

/-- The words of the tables that code a value, in the order of their places. -/
def codedTable : List CodedItem :=
  [.role, .triggers, .groupMode .fault, .groupMode .source] ++ (List.finRange 8).map .inputLine ++
    (List.finRange 8).map .outputLine ++ [.deadDead, .direction, .startMode, .openTransition, .tieTransfer]

theorem codedTable_codedPlace (x : CodedItem) : codedTable[(codedPlace x).val]? = some x := by
  cases x
  case inputLine i | outputLine i => revert i; decide
  case groupMode a => cases a <;> rfl
  all_goals rfl

theorem codedPlace_eq_iff (x y : CodedItem) : codedPlace x = codedPlace y ↔ x = y := by
  refine ⟨fun same => ?_, congrArg _⟩
  have found := codedTable_codedPlace x
  rw [same, codedTable_codedPlace y] at found
  exact (Option.some.inj found).symm

theorem groupPlace_eq_iff (x y : GroupCoded) : groupPlace x = groupPlace y ↔ x = y := by
  refine ⟨fun h => ?_, congrArg _⟩
  cases x <;> cases y
  case action.action d e => cases d <;> cases e <;> simp_all [groupPlace]
  case action.highILockout d | action.diffAction d => cases d <;> simp [groupPlace] at h
  case highILockout.action e | diffAction.action e => cases e <;> simp [groupPlace] at h
  all_goals simp_all [groupPlace]

theorem Settings.keepWord_keeps (c : Settings) (g : Bool) (i : StoreItem) (w : Word) :
    (∀ y, (c.keepWord g i w).getNumber y = c.getNumber y) ∧ (c.keepWord g i w).codedValues = c.codedValues ∧
      (c.keepWord g i w).groups = c.groups := by
  cases i
  case groupCoded i => cases g <;> exact ⟨fun _ => rfl, rfl, rfl⟩
  all_goals exact ⟨fun _ => rfl, rfl, rfl⟩

theorem Settings.read_coded_keepWord (c : Settings) (g b : Bool) (i : StoreItem) (x : CodedItem) (w : Word) :
    (c.keepWord g i w).read b (.coded x) = if i = .coded x then w else c.read b (.coded x) := by
  cases i
  case coded y =>
    simp only [Settings.keepWord, Settings.read, vector_get_set, codedPlace_eq_iff, StoreItem.coded.injEq]
    by_cases h : x = y
    · simp [h]
    · simp [h, Ne.symm h]
  case groupCoded y => cases g <;> rfl
  all_goals rfl

theorem Settings.read_groupCoded_keepWord (c : Settings) (g b : Bool) (i : StoreItem) (x : GroupCoded) (w : Word) :
    (c.keepWord g i w).read b (.groupCoded x) =
      if i = .groupCoded x ∧ b = g then w else c.read b (.groupCoded x) := by
  cases i
  case groupCoded y =>
    by_cases h : x = y
    · cases g <;> cases b <;> simp [Settings.keepWord, Settings.read, vector_get_set, h]
    · cases g <;> cases b <;>
        simp [Settings.keepWord, Settings.read, vector_get_set, groupPlace_eq_iff, h, Ne.symm h]
  all_goals rfl

theorem Settings.read_coded_of_words {c d : Settings} (h : d.words = c.words) (b : Bool) (x : CodedItem) :
    d.read b (.coded x) = c.read b (.coded x) := by
  have coded : d.coded = c.coded := congrArg Prod.fst h
  rw [Settings.read, Settings.read, coded]

theorem Settings.read_groupCoded_of_words {c d : Settings} (h : d.words = c.words) (b : Bool) (x : GroupCoded) :
    d.read b (.groupCoded x) = c.read b (.groupCoded x) := by
  have group0 : d.group0 = c.group0 := congrArg (·.2.1) h
  have group1 : d.group1 = c.group1 := congrArg (·.2.2) h
  rw [Settings.read, Settings.read, group0, group1]

/-! ### A word written (R192) -/

theorem Settings.write_eq_some {c : Settings} {g : Bool} {x : ConfigWrite} {i : StoreItem} (item : x.item = some i) :
    ∃ e, c.setValue g x = some e ∧ c.write g x = some (e.keepWord g i x.word) := by
  have value : ∃ e, c.setValue g x = some e := by
    cases x
    case groupMode h v w => cases h <;> exact ⟨_, rfl⟩
    case other a w => exact nomatch item
    all_goals exact ⟨_, rfl⟩
  obtain ⟨e, value⟩ := value
  exact ⟨e, value, by rw [Settings.write, value, item]⟩

/-- What a write takes into the settings, before its word is kept as written: the numbers, and no such word. -/
theorem Settings.setValue_reads {c e : Settings} {g : Bool} {x : ConfigWrite} {i : StoreItem} (wf : x.wf = true)
    (item : x.item = some i) (value : c.setValue g x = some e) :
    (∀ y, e.getNumber y = if i = .number y then x.word else c.getNumber y) ∧
      (∀ b y, StoreItem.wf (.group y) = true →
        e.getGroupNumber b y = if i = .group y ∧ b = g then x.word else c.getGroupNumber b y) ∧
      e.words = c.words := by
  cases x
  case number n w =>
    cases item; cases value
    obtain ⟨-, groups, words⟩ := c.setNumber_keeps n w
    refine ⟨fun y => ?_, fun b y _ => Settings.getGroupNumber_of_groups groups b y, words⟩
    simp only [StoreItem.number.injEq]
    split
    · next same => exact same ▸ c.getNumber_setNumber_same n w
    · next ne => exact c.getNumber_setNumber_other w (Ne.symm ne)
  case groupNumber n w =>
    cases item; cases value
    obtain ⟨numbers, -, words⟩ := c.setGroupNumber_tables g n w
    refine ⟨numbers, fun b y hy => ?_, words⟩
    simp only [StoreItem.group.injEq, eq_comm (a := n)]
    exact c.getGroupNumber_setGroupNumber g b w wf hy
  case action d v w =>
    cases item; cases value
    obtain ⟨numbers, -, words⟩ := c.setAction_tables g d v
    exact ⟨numbers, fun b y _ => c.getGroupNumber_setAction g b d v y, words⟩
  case highILockout v w | diffAction v w =>
    cases item; cases value
    obtain ⟨numbers, -, words⟩ := c.onFault_tables g _
    exact ⟨numbers, fun b y _ => c.getGroupNumber_onFault g b y _ fun t => ⟨rfl, rfl, rfl, rfl, rfl, rfl⟩, words⟩
  case other a w => exact nomatch item
  case groupMode h v w => cases h <;> cases item <;> cases value <;> exact ⟨fun _ => rfl, fun _ _ _ => rfl, rfl⟩
  all_goals cases item; cases value; exact ⟨fun _ => rfl, fun _ _ _ => rfl, rfl⟩

/-- A word of the store read after a write: the item written reads the word, in the setting group it was written to. -/
theorem Settings.read_write {c e : Settings} {g : Bool} {x : ConfigWrite} {i j : StoreItem} (wf : x.wf = true)
    (item : x.item = some i) (value : c.setValue g x = some e) (hj : j.wf = true) (b : Bool) :
    (e.keepWord g i x.word).read b j =
      if i = j ∧ (b = g ∨ j.half = none) then x.word else c.read b j := by
  obtain ⟨numbers, groupNumbers, words⟩ := Settings.setValue_reads wf item value
  obtain ⟨keptNumbers, -, keptGroups⟩ := e.keepWord_keeps g i x.word
  cases j
  case number y => simp only [Settings.read, keptNumbers, numbers, StoreItem.half, or_true, and_true]
  case coded y =>
    rw [Settings.read_coded_keepWord, Settings.read_coded_of_words words]
    simp only [StoreItem.half, or_true, and_true]
  case group y =>
    have half : (StoreItem.group y).half ≠ none := by cases y <;> exact nofun
    simp only [Settings.read, Settings.getGroupNumber_of_groups keptGroups, groupNumbers b y hj, half, or_false]
  case groupCoded y =>
    have half : (StoreItem.groupCoded y).half ≠ none := by cases y <;> exact nofun
    rw [Settings.read_groupCoded_keepWord, Settings.read_groupCoded_of_words words]
    simp only [half, or_false]

theorem Settings.getGroupNumber_write_other {c e : Settings} {g : Bool} {x : ConfigWrite} {i : StoreItem}
    (wf : x.wf = true) (item : x.item = some i) (value : c.setValue g x = some e) (y : GroupWord) :
    (e.keepWord g i x.word).getGroupNumber (!g) y = c.getGroupNumber (!g) y := by
  cases hy : StoreItem.wf (.group y)
  case false => rw [Settings.getGroupNumber_of_not_wf _ _ hy, Settings.getGroupNumber_of_not_wf _ _ hy]
  case true =>
    have half : (StoreItem.group y).half ≠ none := by cases y <;> exact nofun
    refine (Settings.read_write wf item value hy (!g)).trans (if_neg fun h => ?_)
    exact h.2.elim (g.not_eq_self.mp ·) half

/-! ### The values in force after a write (R192) -/

/-- What a word of the tables that codes a value puts in force; any other word leaves the values. -/
def CodedValues.take (v : CodedValues) : ConfigWrite → CodedValues
  | .role x _ => { v with role := x }
  | .triggers x _ => { v with triggers := x }
  | .groupMode .fault x _ => { v with faultMode := x }
  | .groupMode .source x _ => { v with sourceMode := x }
  | .inputLine i f low _ => { v with inputs := v.inputs.set i.val { fn := f, low := low } i.isLt }
  | .outputLine i f low _ => { v with outputs := v.outputs.set i.val { src := f, low := low } i.isLt }
  | .deadDead x _ => { v with deadDead := x }
  | .direction x _ => { v with direction := x }
  | .startMode x _ => { v with startMode := x }
  | .openTransition x _ => { v with openTransition := x }
  | .tieTransfer x _ => { v with tieTransfer := x }
  | _ => v

theorem Settings.codedValues_setValue {c e : Settings} {g : Bool} {x : ConfigWrite} (value : c.setValue g x = some e) :
    e.codedValues = c.codedValues.take x := by
  cases x
  case number n w => cases value; exact (c.setNumber_keeps n w).1
  case groupNumber n w => cases value; exact (c.setGroupNumber_tables g n w).2.1
  case action d v w => cases value; exact (c.setAction_tables g d v).2.1
  case highILockout v w | diffAction v w => cases value; exact (c.onFault_tables g _).2.1
  case groupMode h v w => cases h <;> cases value <;> rfl
  case other a w => exact nomatch value
  all_goals cases value; rfl

/-- The values that the words of the fault half code, and the action of one element of the source half. -/
structure GroupValues where
  overIAction : Option Action
  highIAction : Option Action
  highILockout : Bool
  diffAction : Option DiffAction
  sourceAction : Option Action

/-- The values that the words of setting group `b` code, in the source half for the element `e`. -/
def Settings.groupValues (c : Settings) (b : Bool) (e : Element) : GroupValues :=
  { overIAction := (c.fault b).overIAction, highIAction := (c.fault b).highIAction,
    highILockout := (c.fault b).highILockout, diffAction := (c.fault b).diffAction,
    sourceAction := ((c.source b).words e).action }

/-- What a word of the group window that codes a value puts in force in the setting group it is written to. -/
def GroupValues.take (v : GroupValues) (e : Element) : ConfigWrite → GroupValues
  | .action .overI x _ => { v with overIAction := x }
  | .action .highI x _ => { v with highIAction := x }
  | .action d x _ => if d = e then { v with sourceAction := x } else v
  | .highILockout x _ => { v with highILockout := x }
  | .diffAction x _ => { v with diffAction := x }
  | _ => v

theorem Settings.groupValues_of_groups {c d : Settings} (h : d.groups = c.groups) (b : Bool) (e : Element) :
    d.groupValues b e = c.groupValues b e := by
  rw [Settings.groupValues, Settings.groupValues, Settings.fault_of_groups h, Settings.source_of_groups h]

theorem Settings.groupValues_setGroupNumber (c : Settings) (g b : Bool) (n : GroupWord) (w : Word) {e : Element}
    (he : e.inSource = true) : (c.setGroupNumber g n w).groupValues b e = c.groupValues b e := by
  cases n
  case pickup d | delay d =>
    by_cases side : b = g
    · simp only [Settings.groupValues, Settings.setGroupNumber, Settings.onSource_fault, Settings.onSource_source, side,
        SourceGroup.onWords_words _ _ _ _ he, if_true]
      split <;> rfl
    · simp only [Settings.groupValues, Settings.setGroupNumber, Settings.onSource_fault, Settings.onSource_source, side,
        if_false]
  all_goals
    by_cases side : b = g <;>
      simp [Settings.groupValues, Settings.setGroupNumber, Settings.onFault_fault, Settings.onFault_source, side]

theorem Settings.groupValues_setValue {c e : Settings} {g : Bool} {x : ConfigWrite} (value : c.setValue g x = some e)
    (b : Bool) {d : Element} (hd : d.inSource = true) :
    e.groupValues b d = if b = g then (c.groupValues b d).take d x else c.groupValues b d := by
  cases x
  case number n w => cases value; exact ((c.setNumber_keeps n w).2.1 |> Settings.groupValues_of_groups <| b) d |>.trans (ite_self _).symm
  case groupNumber n w => cases value; exact (c.groupValues_setGroupNumber g b n w hd).trans (ite_self _).symm
  case action f v w =>
    cases value
    by_cases side : b = g
    · cases f
      case overI | highI =>
        simp [Settings.groupValues, Settings.setAction, Settings.onFault_fault, Settings.onFault_source, side,
          GroupValues.take]
      all_goals
        simp only [Settings.groupValues, Settings.setAction, Settings.onSource_fault, Settings.onSource_source, side,
          SourceGroup.onWords_words _ _ _ _ hd, if_true, GroupValues.take, eq_comm (a := d)]
        split <;> rfl
    · cases f <;>
        simp [Settings.groupValues, Settings.setAction, Settings.onFault_fault, Settings.onFault_source,
          Settings.onSource_fault, Settings.onSource_source, side]
  case highILockout v w | diffAction v w =>
    cases value
    by_cases side : b = g <;>
      simp [Settings.groupValues, Settings.onFault_fault, Settings.onFault_source, side, GroupValues.take]
  case groupMode h v w => cases h <;> cases value <;> exact (ite_self _).symm
  case other a w => exact nomatch value
  all_goals cases value; exact (ite_self _).symm

theorem exec_configurationWrite_of_item {c : ConfigWrite} {i : StoreItem} (item : c.item = some i) (s : State) :
    exec (.configurationWrite c) s = .next (s.writeStore c) := by
  cases c
  case other => exact nomatch item
  all_goals rfl

theorem State.writeStore_of_config {s : State} {c : ConfigWrite} {g : Settings} (config : s.cfp.run = .config)
    (write : s.cfg.write s.cfp.groupAccess c = some g) : s.writeStore c = { s with cfg := g } := by
  rw [State.writeStore, write]
  simp only [State.running_eq_false config, Bool.false_eq_true, if_false]
  rfl

theorem State.writeStore_of_run {s : State} {c : ConfigWrite} (run : s.cfp.run = .run) :
    s.writeStore c = s.raise .writeRefused := by
  rw [State.writeStore]
  split
  · rw [if_pos (State.running_of_run run)]
  · rfl

theorem State.writeOther_of_no_row {a w : Word} (s : State) (h : hasOwnRow a = false) :
    s.writeOther a w = s.raise .writeRefused := by
  simp only [hasOwnRow, Bool.or_eq_false_iff, beq_eq_false_iff_ne, ne_eq] at h
  obtain ⟨⟨⟨⟨enable, access⟩, acknowledge⟩, current⟩, voltage⟩ := h
  rw [State.writeOther, if_neg enable, if_neg access, if_neg acknowledge, if_neg current, if_neg voltage]

/-- Settles O19, by the kind of word written: what it reads as, and the value it codes. -/
theorem storeWritesAreAppliedInConfigAlone : Obligations.StoreWritesAreAppliedInConfigAlone := by
  intro c s wf
  refine ⟨fun i item config => ?_, fun i item run => ?_, fun none => ?_⟩
  · obtain ⟨e, value, write⟩ := Settings.write_eq_some (c := s.cfg) (g := s.cfp.groupAccess) item
    have read := fun {j} (hj : StoreItem.wf j = true) b => Settings.read_write wf item value hj b
    obtain ⟨-, keptValues, keptGroups⟩ := e.keepWord_keeps s.cfp.groupAccess i c.word
    have fault := Settings.fault_of_groups keptGroups
    have source := Settings.source_of_groups keptGroups
    refine ⟨_, (exec_configurationWrite_of_item item s).trans (congrArg _ (State.writeStore_of_config config write)),
      ⟨?_, fun j hj ne => ?_, Settings.getGroupNumber_write_other wf item value⟩, fun y => ?_, ?_, fun n => ?_, fun b => ?_⟩
    · have hi : i.wf = true := by cases c <;> cases item <;> first | rfl | exact wf
      exact (read hi _).trans (if_pos ⟨rfl, .inl rfl⟩)
    · exact (read hj _).trans (if_neg fun h => ne h.1.symm)
    · have half : (StoreItem.groupCoded y).half ≠ none := by cases y <;> exact nofun
      exact (read (j := .groupCoded y) rfl _).trans (if_neg fun h => h.2.elim ((Bool.not_eq_self _).mp ·) half)
    · have values {α : Type} (f : CodedValues → α) := congrArg f (keptValues.trans (Settings.codedValues_setValue value))
      refine ⟨(values (·.role)).trans ?_, (values (·.triggers)).trans ?_, (values (·.faultMode)).trans ?_,
        (values (·.sourceMode)).trans ?_, (values (·.deadDead)).trans ?_, (values (·.direction)).trans ?_,
        (values (·.startMode)).trans ?_, (values (·.openTransition)).trans ?_, (values (·.tieTransfer)).trans ?_⟩
      all_goals
        cases c
        case groupMode h v w => cases h <;> rfl
        all_goals rfl
    · have values {α : Type} (f : CodedValues → α) := congrArg f (keptValues.trans (Settings.codedValues_setValue value))
      refine ⟨(values (·.inputs.get n)).trans ?_, (values (·.outputs.get n)).trans ?_⟩
      all_goals
        cases c
        case inputLine | outputLine => first | rfl | exact vector_get_set ..
        case groupMode h v w => cases h <;> rfl
        all_goals rfl
    · have values {α : Type} (f : GroupValues → α) {d : Element} (hd : d.inSource = true) := congrArg f
        ((Settings.groupValues_of_groups keptGroups b d).trans (Settings.groupValues_setValue value b hd))
      refine ⟨(values (·.overIAction) (d := .underV) rfl).trans ?_, (values (·.highIAction) (d := .underV) rfl).trans ?_,
        (values (·.highILockout) (d := .underV) rfl).trans ?_, (values (·.diffAction) (d := .underV) rfl).trans ?_,
        fun d hd => ?_⟩
      case refine_5 =>
        have source : d.inSource = true := by
          revert d
          decide
        refine (values (·.sourceAction) source).trans ?_
        by_cases side : b = s.cfp.groupAccess
        · rw [if_pos side]
          cases c
          case action f v w =>
            cases f
            case overI | highI => cases d <;> first | rfl | exact nomatch source
            all_goals
              simp only [GroupValues.take, side, and_true]
              split <;> rfl
          all_goals rfl
        · rw [if_neg side]
          cases c
          case action f v w => simp only [side, and_false, if_false]; rfl
          all_goals rfl
      all_goals
        by_cases side : b = s.cfp.groupAccess
        · simp only [side, if_true]
          cases c
          case action f v w => cases f <;> rfl
          all_goals rfl
        · simp only [side, if_false]
          cases c
          case action f v w => cases f <;> rfl
          all_goals rfl
  · exact (exec_configurationWrite_of_item item s).trans (congrArg _ (State.writeStore_of_run run))
  · cases c
    case other a w => exact congrArg Host.Outcome.next (State.writeOther_of_no_row s (by simpa [ConfigWrite.wf] using wf))
    all_goals exact nomatch none

/-! ### The words of a Peer Image block (R54) -/

theorem length_pairWords : ∀ (l : List Byte), (pairWords l).length = l.length / 2
  | [] => rfl
  | [_] => by simp [pairWords]
  | a :: b :: rest => by
    rw [pairWords, List.length_cons, length_pairWords rest, List.length_cons, List.length_cons]
    omega

theorem encodeRecord_length (r : BayRecord) : (encodeRecord r).length = 38 := by
  rw [encodeRecord, List.length_append, encodeBody_length]
  rfl

/-- The first nineteen words of a block: the record held, or zeros. -/
def Entry.recordWords (e : Entry) : List Word :=
  match e.record with
  | some r => pairWords (encodeRecord r)
  | none => List.replicate 19 0

theorem Entry.length_recordWords (e : Entry) : e.recordWords.length = 19 := by
  unfold Entry.recordWords
  cases e.record
  · rfl
  · exact (length_pairWords _).trans (by rw [encodeRecord_length])

theorem State.blockWords_eq (s : State) (k : Station) :
    s.blockWords k = (s.pim.get k).recordWords ++ ([(s.pim.get k).accepted.extractLsb' 16 16,
      (s.pim.get k).accepted.extractLsb' 0 16,
      (s.status k).code ++ BitVec.ofNat 8 ((s.pim.get k).age s.lkc.count),
      (if (s.pim.get k).expected then 1#8 else 0#8) ++ BitVec.ofNat 8 (s.pim.get k).crcErrors] ++
        List.replicate 9 0) := by
  unfold State.blockWords State.entry Entry.recordWords
  refine (List.append_assoc ..).trans ?_
  cases (s.pim.get k).record <;> rfl

/-- Settles O20: the block is the record's nineteen words, four words of the entry and nine zeros. -/
theorem blockReadCopiesTheEntry : Obligations.BlockReadCopiesTheEntry := by
  intro k n s
  have block := s.blockWords_eq k
  have length := (s.pim.get k).length_recordWords
  refine ⟨s.blockWords k, ?_, rfl, ?_, ?_, ?_, ?_, ?_, ?_⟩ <;> rw [block]
  · rw [List.length_append, length]
    rfl
  · rw [← length, List.take_left]
    unfold Entry.recordWords
    cases (s.pim.get k).record <;> rfl
  all_goals first
    | rw [List.getElem?_append_right (by omega), length]; rfl
    | rw [List.drop_append, length, List.drop_eq_nil_of_le (by omega)]; rfl

end Sys2Proof.Machine
end

section
/-! PROOFS. The arithmetic words, the measurement state (R3 to R5) and the measurement of a window (R7 to R18). -/

namespace Sys2Proof.Machine

/-! ### The arithmetic words -/

theorem clampSample_eq (x : Int) : clampSample x = max (-32767) (min 32767 x) :=
  clamp_eq_max_min (by decide) x

theorem shiftRight_eq (x : Int) (n : Nat) : shiftRight x n = x / 2 ^ n := by
  rw [shiftRight, Int.shiftRight_eq_div_pow]
  norm_cast

/-- The root found bit by bit, from a bound that is 2^b away. -/
theorem isqrtFrom_bounds (n : Nat) : ∀ b acc : Nat, acc * acc ≤ n → n < (acc + 2 ^ b) * (acc + 2 ^ b) →
    isqrtFrom b n acc * isqrtFrom b n acc ≤ n ∧ n < (isqrtFrom b n acc + 1) * (isqrtFrom b n acc + 1)
  | 0, _, low, high => ⟨low, high⟩
  | b + 1, acc, low, high => by
    rw [isqrtFrom]
    split
    · next fits => exact isqrtFrom_bounds n b _ fits (by rwa [Nat.add_assoc, ← Nat.two_mul, ← Nat.pow_succ'])
    · next above => exact isqrtFrom_bounds n b acc low (Nat.not_le.mp above)

theorem isqrt_bounds (n : Nat) : isqrt n * isqrt n ≤ n ∧ n < (isqrt n + 1) * (isqrt n + 1) := by
  refine isqrtFrom_bounds n _ 0 (Nat.zero_le n) ?_
  have top : n.log2 + 1 ≤ n.log2 / 2 + 1 + (n.log2 / 2 + 1) := by omega
  calc n < 2 ^ (n.log2 + 1) := Nat.lt_log2_self
    _ ≤ 2 ^ (n.log2 / 2 + 1 + (n.log2 / 2 + 1)) := Nat.pow_le_pow_right (by decide) top
    _ = (0 + 2 ^ (n.log2 / 2 + 1)) * (0 + 2 ^ (n.log2 / 2 + 1)) := by rw [Nat.zero_add, Nat.pow_add]

theorem int_mul_self_nonneg (x : Int) : 0 ≤ x * x := by
  rw [← Int.natAbs_mul_self]
  exact Int.natCast_nonneg _

theorem magnitude_bounds (re im : Int) :
    (magnitude re im : Int) ^ 2 ≤ re ^ 2 + im ^ 2 ∧ re ^ 2 + im ^ 2 < ((magnitude re im : Int) + 1) ^ 2 := by
  obtain ⟨low, high⟩ := isqrt_bounds (re * re + im * im).toNat
  have square : ((re * re + im * im).toNat : Int) = re * re + im * im :=
    Int.toNat_of_nonneg (Int.add_nonneg (int_mul_self_nonneg re) (int_mul_self_nonneg im))
  have power (x : Int) : x ^ 2 = x * x := by
    rw [Int.pow_succ, Int.pow_succ, Int.pow_zero, Int.one_mul]
  rw [power re, power im, ← square, power, power, magnitude]
  exact_mod_cast And.intro low high

/-- Settles O23: the root is found bit by bit, and the sums are the model's own, shifted and clamped. -/
theorem magnitudeAndPower : Obligations.MagnitudeAndPower := by
  refine ⟨magnitude_bounds, fun x p q hp hq => ⟨?_, ?_⟩⟩
  · rw [activePower, clampSample_eq, shiftRight_eq, hp]
    rfl
  · rw [reactivePower, clampSample_eq, shiftRight_eq, hq]
    rfl

/-! ### The sample hold and the measurement state (R3 to R5) -/

theorem Cvp.take_of_good {r : Reply} {x : Seven Word} (c : Cvp) (h : goodSet r = some x) : c.take r = c.takeGood x := by
  rw [Cvp.take, h]

theorem Cvp.take_of_bad {r : Reply} (c : Cvp) (h : goodSet r = none) : c.take r = c.takeBad := by
  rw [Cvp.take, h]

theorem Cvp.takeBad_eq (c : Cvp) :
    c.takeBad = { c with held := true, missing := min 255 (c.missing + 1), bad := min 2 (c.bad + 1), goodRun := 0,
                         meas := if 2 ≤ c.bad + 1 then .fail else c.meas } := by
  unfold Cvp.takeBad satInc
  by_cases second : 2 ≤ c.bad + 1
  · have two : min 2 (c.bad + 1) = 2 := Nat.min_eq_left second
    by_cases fail : c.meas = .fail <;> simp only [two, second, fail, ne_eq, not_true, not_false_eq_true, and_false,
      and_true, if_true, if_false]
  · have below : min 2 (c.bad + 1) ≠ 2 := by omega
    simp only [below, second, false_and, if_false]

theorem Cvp.takeGood_of_working {c : Cvp} (x : Seven Word) (h : c.meas ≠ .fail) :
    c.takeGood x = { c with lastGood := x, held := false, bad := 0 } := by
  simp only [Cvp.takeGood, h, if_false]

theorem Cvp.takeGood_of_fail {c : Cvp} (x : Seven Word) (h : c.meas = .fail) :
    c.takeGood x =
      if 31 ≤ c.goodRun then { c with lastGood := x, held := false, bad := 0, goodRun := 32, meas := .warmup, warm := 0 }
      else { c with lastGood := x, held := false, bad := 0, goodRun := c.goodRun + 1 } := by
  have last : c.goodRun + 1 ≥ 32 ↔ 31 ≤ c.goodRun := by omega
  simp only [Cvp.takeGood, h, if_true, last]

theorem Crossings.timeout_of_last {x : Crossings} (last : 63 ≤ x.since) : x.timeout = { times := [], since := 0 } :=
  if_pos (Nat.succ_le_succ last)

/-- Settles O22, by the reply and the measurement state it meets, and by the count of each event. -/
theorem measurementStateAndItsEvents : Obligations.MeasurementStateAndItsEvents := by
  refine ⟨fun c r => ⟨fun bad => ?_, fun x good => ?_⟩, fun s run =>
    ⟨fun working second => ?_, fun fail last => ?_, fun warmup last => ?_, fun last => ?_, fun last => ?_⟩⟩
  · rw [Cvp.take_of_bad c bad, Cvp.takeBad_eq]
    exact ⟨rfl, rfl, rfl, rfl, rfl, rfl⟩
  · rw [Cvp.take_of_good c good]
    by_cases fail : c.meas = .fail
    · rw [Cvp.takeGood_of_fail x fail]
      by_cases last : 31 ≤ c.goodRun
      · rw [if_pos last]
        exact ⟨rfl, rfl, rfl, rfl, fun h => absurd fail h, fun _ h => absurd last (Nat.not_le.mpr h), fun _ _ => ⟨rfl, rfl⟩⟩
      · rw [if_neg last]
        exact ⟨rfl, rfl, rfl, rfl, fun h => absurd fail h, fun _ _ => ⟨fail, rfl⟩, fun _ h => absurd h last⟩
    · rw [Cvp.takeGood_of_working x fail]
      exact ⟨rfl, rfl, rfl, rfl, fun _ => rfl, fun h => absurd h fail, fun h => absurd h fail⟩
  all_goals have running := State.running_of_run run
  · have two : 2 ≤ s.cvp.bad + 1 := by omega
    exact congrArg Host.Outcome.next (if_pos (by simp [running, working, two]))
  · have end32 : 32 ≤ s.cvp.goodRun + 1 := by omega
    exact congrArg Host.Outcome.next (if_pos (by simp [running, fail, end32]))
  · exact congrArg Host.Outcome.next (if_pos (by simp [running, warmup, last]))
  all_goals
    refine congrArg Host.Outcome.next ((if_pos running).trans ?_)
    rw [← Crossings.timeout_of_last last]
    rfl

/-! ### Trim, phasors and classes (R7 to R13) -/

theorem trim_value (x g : Word) :
    (trim x g).value = max (-32767) (min 32767 ((x.toInt * (g.toNat : Int) + 8192) / 16384)) := by
  rw [trim, clampSample_eq, shiftRight_eq]
  rfl

theorem trim_clamped_iff (x g : Word) :
    (trim x g).clamped = true ↔ (trim x g).value ≠ (x.toInt * (g.toNat : Int) + 8192) / 16384 := by
  have raw : shiftRight (x.toInt * (g.toNat : Int) + 8192) 14 = (x.toInt * (g.toNat : Int) + 8192) / 16384 :=
    shiftRight_eq ..
  rw [trim, raw, decide_eq_true_eq]

theorem rawComponent_eq (sum : Int) : rawComponent sum = max (-32767) (min 32767 ((sum + 131072) / 262144)) := by
  rw [rawComponent, clampSample_eq, shiftRight_eq]
  rfl

theorem ratioMatch_eq (r c : Int) : ratioMatch r c = max (-32767) (min 32767 ((r * c + 2048) / 4096)) := by
  rw [ratioMatch, clampSample_eq, shiftRight_eq, Int.mul_comm]
  rfl

/-- The polarity −1 is the word FFFF hex (log 47). -/
theorem polarity_iff (w : Word) : w.toInt = -1 ↔ w = 0xFFFF#16 := by
  rw [← BitVec.toInt_inj]
  rfl

theorem matchPhasor_voltage (c : Settings) (p : Phasor) {ch : Channel} (h : ch ∈ [Channel.va, .vb, .vc]) :
    matchPhasor c ch p = { re := ratioMatch c.rVB.toNat p.re, im := ratioMatch c.rVB.toNat p.im } := by
  simp only [List.mem_cons, List.not_mem_nil, or_false] at h
  rcases h with rfl | rfl | rfl <;> rfl

theorem matchPhasor_current (c : Settings) (p : Phasor) {ch : Channel} {sign : Int} (h : ch ∈ [Channel.ia, .ib, .ic])
    (hsign : c.polarity = 0xFFFF#16 ∧ sign = -1 ∨ c.polarity ≠ 0xFFFF#16 ∧ sign = 1) :
    matchPhasor c ch p = { re := ratioMatch c.rI.toNat (sign * p.re), im := ratioMatch c.rI.toNat (sign * p.im) } := by
  have signed : ∀ x : Int, (if c.polarity.toInt = -1 then -x else x) = sign * x := fun x => by
    rcases hsign with ⟨reversed, rfl⟩ | ⟨straight, rfl⟩
    · rw [if_pos ((polarity_iff _).mpr reversed), Int.neg_one_mul]
    · rw [if_neg fun h => straight ((polarity_iff _).mp h), Int.one_mul]
  rw [← signed, ← signed]
  simp only [List.mem_cons, List.not_mem_nil, or_false] at h
  rcases h with rfl | rfl | rfl <;> rfl

theorem classify_iff (c : Settings) (m : Nat) :
    (classify c m = .live ↔ c.vLive.toNat ≤ m) ∧ (classify c m = .dead ↔ m < c.vLive.toNat ∧ m ≤ c.vDead.toNat) := by
  unfold classify
  by_cases live : c.vLive.toNat ≤ m
  · rw [if_pos live]
    exact ⟨iff_of_true rfl live, iff_of_false (nomatch ·) fun ⟨below, _⟩ => absurd live (Nat.not_le.mpr below)⟩
  · by_cases dead : m ≤ c.vDead.toNat <;> simp [live, dead, Nat.not_le.mp live]

theorem busClassOf_iff (x y z : VClass) :
    (busClassOf x y z = .live ↔ x = .live ∧ y = .live ∧ z = .live) ∧
      (busClassOf x y z = .dead ↔ x = .dead ∧ y = .dead ∧ z = .dead) := by
  cases x <;> cases y <;> cases z <;> decide

/-! ### Crossings, frequency and ROCOF (R14 to R17) -/

theorem crossingTime_eq (n : Count) (p new : Int) :
    crossingTime n p new = 256 * n - BitVec.ofInt 32 ((256 * new) / (new - p)) := by
  rw [crossingTime, BitVec.mul_comm]

theorem Crossings.add_first {x : Crossings} (t : Count) (h : x.times = []) : x.add t = { times := [t], since := 0 } := by
  rw [Crossings.add, h]
  rfl

/-- A crossing inside the interval joins the list, of which the last five stand. -/
theorem Crossings.add_inside {x : Crossings} {t last : Count} (h : x.times.getLast? = some last)
    (inside : 5120 ≤ (t - last).toNat ∧ (t - last).toNat ≤ 12288) :
    x.add t = { times := (if 5 ≤ x.times.length then x.times.drop 1 else x.times) ++ [t], since := 0 } := by
  simp only [Crossings.add, h, if_pos inside, List.length_append, List.length_singleton, gt_iff_lt,
    Nat.lt_add_one_iff, Crossings.mk.injEq, and_true]
  split
  · next full => exact List.drop_append_of_le_length (by omega)
  · rfl

theorem Crossings.add_outside {x : Crossings} {t last : Count} (h : x.times.getLast? = some last)
    (outside : ¬(5120 ≤ (t - last).toNat ∧ (t - last).toNat ≤ 12288)) :
    x.add t = { times := [t], since := 0 } := by
  simp only [Crossings.add, h, if_neg outside]

theorem period_invalid {x : Crossings} {cls : VClass} (h : cls ≠ .live ∨ x.times.length ≠ 5) : period x cls = 0 := by
  unfold period
  split
  · next times => exact if_neg fun live => h.elim (fun h => h live) fun h => h (by rw [times]; rfl)
  · rfl

theorem period_of_five {x : Crossings} {cls : VClass} {a b d e f : Count} (live : cls = .live)
    (times : x.times = [a, b, d, e, f]) : period x cls = (f - a).toNat / 4 := by
  simp only [period, times, live, if_true]

theorem Seven.get_ofFn {α : Type} (f : Channel → α) (ch : Channel) : (Seven.ofFn f).get ch = f ch := by
  cases ch <;> rfl

theorem appendHistory_eq {h : List Nat} (f : Nat) (len : h.length ≤ 9) :
    appendHistory h f = (if h.length = 9 then h.drop 1 else h) ++ [f] := by
  have full : (h ++ [f]).length > 9 ↔ h.length = 9 := by
    rw [List.length_append, List.length_singleton]
    omega
  simp only [appendHistory, full]
  split
  · exact List.drop_append_of_le_length (by omega)
  · rfl

theorem rocofOf_none {h : List Nat} (c : Settings) (bad : h.length < 9 ∨ 0 ∈ h) : rocofOf c h = none := by
  have missing : ¬(h.length = 9 ∧ h.all (· ≠ 0) = true) := by
    rintro ⟨len, all⟩
    rcases bad with short | zero
    · omega
    · exact absurd (List.all_eq_true.mp all 0 zero) (by decide)
  unfold rocofOf
  split
  · exact if_neg missing
  · rfl

theorem rocofOf_some {h : List Nat} {a z : Nat} (c : Settings) (len : h.length = 9) (nonzero : 0 ∉ h)
    (first : h.head? = some a) (last : h.getLast? = some z) :
    rocofOf c h = some ((((z : Int) - (a : Int)) * (c.fNom.toNat : Int)).tdiv 2) := by
  have all : h.all (· ≠ 0) = true := List.all_eq_true.mpr fun x hx => by
    simpa using fun e : x = 0 => nonzero (e ▸ hx)
  simp only [rocofOf, first, last, len, all, true_and, if_true]
  rfl

/-- Settles O24, clause by clause along the chain from a sample to the result set. -/
theorem measurementOfAWindow : Obligations.MeasurementOfAWindow := by
  refine ⟨fun x g => ⟨trim_value x g, trim_clamped_iff x g⟩, ⟨rfl, rfl, rfl, by decide, by decide, rfl, by decide,
    fun w => ⟨rawComponent_eq _, rawComponent_eq _⟩⟩, fun c p => ⟨fun ch h => ?_, ?_, fun ch h sign hsign => ?_⟩,
    classify_iff, busClassOf_iff, fun cls n p new => ⟨rfl, fun h => ?_, fun h => if_neg h⟩,
    fun x t => ⟨Crossings.add_first t, fun last h => Crossings.add_inside h, fun last h => Crossings.add_outside h, rfl⟩,
    fun c m meas label => ⟨fun x cls => ⟨period_invalid, fun a b d e f => period_of_five⟩, fun p => rfl, rfl, rfl,
      fun ch => ⟨Seven.get_ofFn .., ?_, ?_⟩, rfl, rfl, rfl, rfl⟩,
    fun c h f => ⟨appendHistory_eq f, rocofOf_none c, fun a z len nonzero => rocofOf_some c len nonzero⟩⟩
  · rw [matchPhasor_voltage c p h, ratioMatch_eq, ratioMatch_eq]
  · exact congr (congrArg Phasor.mk (ratioMatch_eq ..)) (ratioMatch_eq ..)
  · rw [matchPhasor_current c p h hsign, ratioMatch_eq, ratioMatch_eq]
  · exact (if_pos h).trans (congrArg some (crossingTime_eq ..))
  · exact Seven.get_ofFn ..
  · exact (Bool.eq_iff_iff.mp (Seven.get_ofFn ..)).trans List.any_eq_true

end Sys2Proof.Machine
end

section
/-! PROOFS. The differential (R85 to R97): what an evaluation comes from, and what DBU does with it at a cycle close. -/

namespace Sys2Proof.Machine

/-! ### The records of the image (R50, R53) -/

theorem State.freshRec_of_not_fresh {s : State} {k : Station} (h : s.status k ≠ .fresh) : s.freshRec k = none := by
  unfold State.freshRec
  split
  · next fresh => exact absurd fresh h
  · rfl

theorem State.freshRec_of_fresh {s : State} {k : Station} (h : s.status k = .fresh) : s.freshRec k = s.heldRec k := by
  rw [State.freshRec, h]

theorem State.freshRec_iff (s : State) (k : Station) (r : BayRecord) :
    s.freshRec k = some r ↔ s.status k = .fresh ∧ s.heldRec k = some r := by
  by_cases fresh : s.status k = .fresh
  · rw [State.freshRec_of_fresh fresh, and_iff_right fresh]
  · simp [State.freshRec_of_not_fresh fresh, fresh]

/-- An entry that is FRESH holds a record (R51). -/
theorem State.held_of_fresh {s : State} {k : Station} (h : s.status k = .fresh) : ∃ r, s.heldRec k = some r := by
  cases held : s.heldRec k
  case some r => exact ⟨r, rfl⟩
  case none =>
    have absent : s.status k = .absent := Entry.status_of_none held ..
    rw [h] at absent
    cases absent

/-! ### The lowest member that fails a test (R87) -/

theorem firstFailing_eq_none_iff (set : StationSet) (test : Station → Bool) :
    firstFailing set test = none ↔ ∀ k : Station, set.getLsbD k.val = true → test k = true := by
  simp [firstFailing, List.find?_eq_none, mem_allStations, StationSet.has]

/-- The first station in order that meets a test. -/
theorem find_allStations_eq_some {p : Station → Bool} {k : Station} (h : p k = true)
    (lower : ∀ j : Station, j < k → p j = false) : allStations.find? p = some k := by
  have ordered : allStations = List.finRange 16 := by decide
  rw [List.find?_eq_some_iff_getElem, ordered]
  refine ⟨h, k.val, by simp, by simp, fun j hj => ?_⟩
  rw [List.getElem_finRange]
  simpa using lower ⟨j, by omega⟩ hj

theorem firstFailing_of_lowest {set : StationSet} {test : Station → Bool} {k : Station} (member : set.getLsbD k.val = true)
    (fails : test k = false) (lower : ∀ j : Station, j < k → set.getLsbD j.val = true → test j = true) :
    firstFailing set test = some k := by
  refine find_allStations_eq_some ?_ fun j hj => ?_
  · rw [StationSet.has, member, fails]
    rfl
  · cases hm : set.getLsbD j.val
    · rw [StationSet.has, hm]
      rfl
    · rw [lower j hj hm, Bool.not_true, Bool.and_false]

/-! ### The evaluation of a section (R85, R87) -/

/-- The zone is complete exactly when its set is known and its members pass the four tests of R87. -/
theorem State.zoneBlock_eq_none_iff (s : State) (x : Sec) (own : BayRecord) :
    s.zoneBlock x own = none ↔ ∃ set, s.top.expected x = some set ∧
      (∀ k : Station, set.getLsbD k.val = true → (s.status k == .fresh) = true) ∧
      (∀ k : Station, set.getLsbD k.val = true → ((s.heldRec k).any fun r => r.alignment != .relocked) = true) ∧
      (∀ k : Station, set.getLsbD k.val = true → ((s.heldRec k).any fun r => r.meas == .valid) = true) ∧
      ∀ k : Station, set.getLsbD k.val = true → ((s.heldRec k).any fun r => r.faultGroup == own.faultGroup) = true := by
  cases known : s.top.expected x
  case none => simp [State.zoneBlock, State.zoneMissing, known]
  case some set =>
    simp only [← firstFailing_eq_none_iff, Option.some.injEq, exists_eq_left', State.zoneBlock, State.zoneMissing, known,
      Option.getD_some]
    cases firstFailing set fun k => s.status k == .fresh
    case some k => simp
    case none =>
      cases firstFailing set fun k => (s.heldRec k).any fun r => r.alignment != .relocked
      case some k => simp
      case none =>
        cases firstFailing set fun k => (s.heldRec k).any fun r => r.meas == .valid
        case some k => simp
        case none => cases firstFailing set fun k => (s.heldRec k).any fun r => r.faultGroup == own.faultGroup <;> simp

theorem State.evaluateSection_of_no_fresh {s : State} (x : Sec) (h : s.freshRec s.cfg.own = none) :
    s.evaluateSection x = .blocked ((s.zoneMissing x).getD (.notFresh, some s.cfg.own)).1
      ((s.zoneMissing x).getD (.notFresh, some s.cfg.own)).2 := by
  rw [State.evaluateSection, h]

theorem State.evaluateSection_of_off {s : State} {own : BayRecord} (x : Sec) (h : s.freshRec s.cfg.own = some own)
    (off : (s.cfg.fault own.faultGroup).diffAction ≠ some .trip) : s.evaluateSection x = .notEvaluated := by
  rw [State.evaluateSection, h]
  exact if_pos off

/-- The sum of a phase over the zone of section x, under the settings that a record names (R88). -/
def State.zoneSum (s : State) (x : Sec) (own : BayRecord) (ph : Fin 3) : PhaseSum :=
  phaseSum (s.diffSettings own).ipu.toNat (s.diffSettings own).slope.toNat
    (s.zonePhasors x ((s.top.expected x).getD 0) ph)

/-- What a complete evaluation comes from. -/
theorem State.evaluateSection_complete {s : State} {x : Sec} {a b c : PhaseSum} (h : s.evaluateSection x = .complete a b c) :
    ∃ own, s.freshRec s.cfg.own = some own ∧ (s.cfg.fault own.faultGroup).diffAction = some .trip ∧
      s.zoneBlock x own = none ∧ a = s.zoneSum x own 0 ∧ b = s.zoneSum x own 1 ∧ c = s.zoneSum x own 2 := by
  cases fresh : s.freshRec s.cfg.own
  case none => rw [State.evaluateSection_of_no_fresh x fresh] at h; cases h
  case some own =>
    by_cases off : (s.cfg.fault own.faultGroup).diffAction ≠ some .trip
    · rw [State.evaluateSection_of_off x fresh off] at h
      cases h
    · have trip := Classical.not_not.mp off
      cases block : s.zoneBlock x own
      case some k => simp [State.evaluateSection, fresh, State.diffSettings, trip, block] at h
      case none =>
        simp only [State.evaluateSection, fresh, State.diffSettings, trip, block, ne_eq, not_true, if_false,
          Evaluation.complete.injEq] at h
        obtain ⟨rfl, rfl, rfl⟩ := h
        exact ⟨own, rfl, trip, block, rfl, rfl, rfl⟩

theorem Evaluation.holds_iff (e : Evaluation) :
    e.holds = true ↔ ∃ a b c, e = .complete a b c ∧ (a.operates = true ∨ b.operates = true ∨ c.operates = true) := by
  cases e
  case complete a b c =>
    simp only [Evaluation.holds, Bool.or_eq_true, or_assoc]
    refine ⟨fun holds => ⟨a, b, c, rfl, holds⟩, ?_⟩
    rintro ⟨_, _, _, same, holds⟩
    cases same
    exact holds
  all_goals simp [Evaluation.holds]

theorem confirmAfter_eq (n : Nat) (e : Evaluation) : confirmAfter n e = if e.holds then min 4 (n + 1) else 0 := rfl

theorem State.sectionTrips_iff (s : State) (x : Sec) :
    s.sectionTrips x = true ↔ (s.evaluateSection x).holds = true ∧
      s.confirmSetting ≤ min 4 ((s.dbu.diff x).confirm + 1) := by
  rw [State.sectionTrips, Bool.and_eq_true, decide_eq_true_eq, confirmAfter_eq]
  exact and_congr_right fun holds => by rw [if_pos holds]

theorem phaseSum_operates_iff (ipu slope : Nat) (l : List (Int × Int)) :
    (phaseSum ipu slope l).operates = true ↔
      ipu ≤ (phaseSum ipu slope l).iop ∧ slope * (phaseSum ipu slope l).ires ≤ (phaseSum ipu slope l).iop * 64 :=
  decide_eq_true_iff

theorem State.zoneSum_operates_iff (s : State) (x : Sec) (own : BayRecord) (ph : Fin 3) :
    (s.zoneSum x own ph).operates = true ↔ (s.cfg.fault own.faultGroup).ipu.toNat ≤ (s.zoneSum x own ph).iop ∧
      (s.cfg.fault own.faultGroup).slope.toNat * (s.zoneSum x own ph).ires ≤ (s.zoneSum x own ph).iop * 64 :=
  phaseSum_operates_iff ..

theorem State.confirmSetting_of_fresh {s : State} {own : BayRecord} (h : s.freshRec s.cfg.own = some own) :
    s.confirmSetting = (s.cfg.fault own.faultGroup).confirm.toNat := by
  rw [State.confirmSetting, h]
  rfl

/-- Settles O27, from what a complete evaluation comes from, and by the status of the own entry. -/
theorem differentialNeedsACompleteZone : Obligations.DifferentialNeedsACompleteZone := by
  refine ⟨fun x s trips => ?_, fun x s => ⟨fun stale => ⟨fun unknown => ?_, fun set k known member late lower => ?_⟩,
    fun own fresh held off => State.evaluateSection_of_off x ((s.freshRec_iff _ own).mpr ⟨fresh, held⟩) off⟩⟩
  · obtain ⟨holds, confirmed⟩ := (s.sectionTrips_iff x).mp trips
    obtain ⟨a, b, c, complete, operates⟩ := (Evaluation.holds_iff _).mp holds
    obtain ⟨own, fresh, trip, zone, ha, hb, hc⟩ := State.evaluateSection_complete complete
    obtain ⟨set, known, allFresh, aligned, valid, group⟩ := (s.zoneBlock_eq_none_iff x own).mp zone
    refine ⟨set, own, known, ((s.freshRec_iff _ own).mp fresh).2, trip, fun k member => ?_,
      State.confirmSetting_of_fresh fresh ▸ confirmed, a, b, c, complete, ?_⟩
    · have status : s.status k = .fresh := beq_iff_eq.mp (allFresh k member)
      obtain ⟨r, held⟩ := State.held_of_fresh status
      have aligned := aligned k member
      have valid := valid k member
      have group := group k member
      rw [held, Option.any_some] at aligned valid group
      exact ⟨r, held, status, bne_iff_ne.mp aligned, beq_iff_eq.mp valid, beq_iff_eq.mp group⟩
    · subst ha hb hc
      rcases operates with operates | operates | operates
      · exact ⟨_, by simp, (s.zoneSum_operates_iff ..).mp operates⟩
      · exact ⟨_, by simp, (s.zoneSum_operates_iff ..).mp operates⟩
      · exact ⟨_, by simp, (s.zoneSum_operates_iff ..).mp operates⟩
  · rw [State.evaluateSection_of_no_fresh x (State.freshRec_of_not_fresh stale), State.zoneMissing, unknown]
    rfl
  · have missing : s.zoneMissing x = some (.notFresh, some k) := by
      rw [State.zoneMissing, known]
      exact congrArg (Option.map fun j => (BlockReason.notFresh, some j)) (firstFailing_of_lowest member (by simpa using late) fun j hj hm => beq_iff_eq.mpr (lower j hj hm))
    rw [State.evaluateSection_of_no_fresh x (State.freshRec_of_not_fresh stale), missing]
    rfl

/-! ### Operate and restraint (R86, R88) -/

theorem sumInt_eq_sum (l : List Int) : sumInt l = l.sum := List.sum_eq_foldl.symm

theorem sumNat_eq_sum (l : List Nat) : sumNat l = l.sum := List.sum_eq_foldl.symm

/-- A sum over the members is one over all stations in which the others count 0. -/
theorem sum_map_filter {α β : Type} [Add β] [Zero β] (zero_add : ∀ b : β, 0 + b = b) (p : α → Bool) (f : α → β) (l : List α) :
    ((l.filter p).map f).sum = (l.map fun k => if p k = true then f k else 0).sum := by
  induction l with
  | nil => rfl
  | cons x xs ih => cases h : p x <;> simp [h, ih, zero_add]

theorem magnitude_signed (re im : Int) {sign : Int} (h : sign = 1 ∨ sign = -1) :
    magnitude (sign * re) (sign * im) = magnitude re im := by
  rcases h with rfl | rfl
  · rw [Int.one_mul, Int.one_mul]
  · rw [Int.neg_one_mul, Int.neg_one_mul, magnitude, Int.neg_mul_neg, Int.neg_mul_neg, magnitude]

theorem signOf_cases (tie : TieId) (x : Sec) (k : Station) : signOf tie x k = 1 ∨ signOf tie x k = -1 := by
  unfold signOf
  split
  · exact .inr rfl
  · exact .inl rfl

/-- The phasor of a member in a phase, 0 where it holds no record. -/
def State.memberCurrent (s : State) (k : Station) (ph : Fin 3) : Int × Int :=
  ((s.heldRec k).map fun r => BayRecord.current r ph).getD (0, 0)

theorem State.memberCurrent_fst (s : State) (k : Station) (ph : Fin 3) :
    (s.memberCurrent k ph).1 = ((s.heldRec k).map fun r => (BayRecord.current r ph).1).getD 0 := by
  unfold State.memberCurrent
  cases s.heldRec k <;> rfl

theorem State.memberCurrent_snd (s : State) (k : Station) (ph : Fin 3) :
    (s.memberCurrent k ph).2 = ((s.heldRec k).map fun r => (BayRecord.current r ph).2).getD 0 := by
  unfold State.memberCurrent
  cases s.heldRec k <;> rfl

theorem State.zonePhasors_eq (s : State) (x : Sec) (set : StationSet) (ph : Fin 3) :
    s.zonePhasors x set ph = (allStations.filter fun k => StationSet.has set k).map fun k =>
      (signOf s.top.tie x k * (s.memberCurrent k ph).1, signOf s.top.tie x k * (s.memberCurrent k ph).2) := rfl

theorem State.zoneSum_iop {s : State} {x : Sec} {set : StationSet} (known : s.top.expected x = some set) (own : BayRecord)
    (ph : Fin 3) :
    (s.zoneSum x own ph).iop = magnitude
      (sumInt (allStations.map fun k => if set.getLsbD k.val then
        (if x = .two ∧ s.top.tie = .station k then -1 else 1) *
          (((s.heldRec k).map fun r => (BayRecord.current r ph).1).getD 0) else 0))
      (sumInt (allStations.map fun k => if set.getLsbD k.val then
        (if x = .two ∧ s.top.tie = .station k then -1 else 1) *
          (((s.heldRec k).map fun r => (BayRecord.current r ph).2).getD 0) else 0)) := by
  simp only [State.zoneSum, known, Option.getD_some, phaseSum, State.zonePhasors_eq, List.map_map, Function.comp_def,
    sumInt_eq_sum, sum_map_filter Int.zero_add, State.memberCurrent_fst, State.memberCurrent_snd, StationSet.has, signOf]

theorem State.zoneSum_ires {s : State} {x : Sec} {set : StationSet} (known : s.top.expected x = some set) (own : BayRecord)
    (ph : Fin 3) :
    (s.zoneSum x own ph).ires = sumNat (allStations.map fun k => if set.getLsbD k.val then
      magnitude (((s.heldRec k).map fun r => (BayRecord.current r ph).1).getD 0)
        (((s.heldRec k).map fun r => (BayRecord.current r ph).2).getD 0) else 0) := by
  simp only [State.zoneSum, known, Option.getD_some, phaseSum, State.zonePhasors_eq, List.map_map, Function.comp_def,
    sumNat_eq_sum, sum_map_filter Nat.zero_add, magnitude_signed _ _ (signOf_cases ..), State.memberCurrent_fst,
    State.memberCurrent_snd, StationSet.has]

/-! ### The differential of a section at a cycle close (R85 to R91, R97) -/

section DiffClose

variable (s : State) (x : Sec)

/-- The differential of a section at a cycle close before its trip: the counts, the DIFF trigger and ZONE_BLOCKED. -/
def State.diffCounted : State :=
  let t := s.withDbu fun d => d.setDiff x fun y =>
    { y with
      confirm := confirmAfter (s.dbu.diff x).confirm (s.evaluateSection x),
      blocked := blockedAfter (s.dbu.diff x).blocked (s.evaluateSection x) s.lkc.link,
      last := s.evaluateSection x, tripping := y.tripping && s.sectionTrips x }
  let u := if (s.dbu.diff x).confirm = 0 ∧ confirmAfter (s.dbu.diff x).confirm (s.evaluateSection x) = 1 then
    t.trigger .diff else t
  if blockedAfter (s.dbu.diff x).blocked (s.evaluateSection x) s.lkc.link = 3 ∧ (s.dbu.diff x).blocked ≠ 3 then
    u.raise .zoneBlocked
  else u

theorem State.diffClose_eq : s.diffClose x = if s.sectionTrips x then (s.diffCounted x).diffTrip x else s.diffCounted x :=
  rfl

theorem State.diffCounted_dbu : (s.diffCounted x).dbu = s.dbu.setDiff x fun y =>
    { y with
      confirm := confirmAfter (s.dbu.diff x).confirm (s.evaluateSection x),
      blocked := blockedAfter (s.dbu.diff x).blocked (s.evaluateSection x) s.lkc.link,
      last := s.evaluateSection x, tripping := y.tripping && s.sectionTrips x } := by
  unfold State.diffCounted
  dsimp only
  repeat' split
  all_goals first | exact State.trigger_dbu .. | rfl

theorem State.diffCounted_bcu : (s.diffCounted x).bcu = s.bcu := by
  unfold State.diffCounted
  dsimp only
  repeat' split
  all_goals first | exact State.trigger_bcu .. | rfl

theorem confirm_leaves_zero_iff (n : Nat) (e : Evaluation) :
    n = 0 ∧ confirmAfter n e = 1 ↔ e.holds = true ∧ n = 0 := by
  rw [confirmAfter_eq]
  cases e.holds
  · simp
  · simp only [if_true, true_and, and_iff_left_iff_imp]
    omega

theorem State.diffCounted_cap : (s.diffCounted x).cap =
    if (s.evaluateSection x).holds = true ∧ (s.dbu.diff x).confirm = 0 then (s.trigger .diff).cap else s.cap := by
  unfold State.diffCounted
  simp only [confirm_leaves_zero_iff]
  split <;> split
  · exact State.trigger_cap_congr .diff
  · rfl
  · exact State.trigger_cap_congr .diff
  · rfl

theorem State.diffCounted_zoneBlocked
    (third : blockedAfter (s.dbu.diff x).blocked (s.evaluateSection x) s.lkc.link = 3) (before : (s.dbu.diff x).blocked ≠ 3) :
    (s.diffCounted x).pendingBit .zoneBlocked = true := by
  unfold State.diffCounted
  rw [if_pos ⟨third, before⟩]
  exact State.raise_pendingBit ..

/-- What the trip of the section brings after its counts reaches no bank, and clears no pending bit. -/
theorem State.cons_diffClose : State.Consequence (s.diffCounted x) (s.diffClose x) := by
  rw [State.diffClose_eq]
  split
  · exact State.cons_diffTrip ..
  · exact .refl _

/-- The section after its cycle close, whether it trips or not. -/
theorem State.diffClose_diff (y : Sec) : (s.diffClose x).dbu.diff y = (s.dbu.setDiff x fun d =>
    { d with
      confirm := confirmAfter (s.dbu.diff x).confirm (s.evaluateSection x),
      blocked := blockedAfter (s.dbu.diff x).blocked (s.evaluateSection x) s.lkc.link,
      last := s.evaluateSection x, tripping := s.sectionTrips x }).diff y := by
  rw [State.diffClose_eq]
  cases trips : s.sectionTrips x
  · rw [if_neg Bool.false_ne_true, State.diffCounted_dbu, trips]
    simp only [Bool.and_false]
  · rw [if_pos rfl, State.diffTrip_dbu, State.diffCounted_dbu, Dbu.setDiff_setDiff]
    cases y <;> rfl

end DiffClose

/-! ### A peer's BF notice (R96) -/

theorem Settings.belongs_iff (c : Settings) (x : Sec) : c.belongs x = true ↔ c.role = some .tie ∨ c.sec = some x := by
  rw [Settings.belongs, Bool.or_eq_true, Settings.isRole_iff, beq_iff_eq]

theorem BayRecord.belongs_iff (r : BayRecord) (x : Sec) :
    r.belongs x = true ↔ r.role = .tie ∨ r.sect = none ∨ r.sect = some x := by
  simp only [BayRecord.belongs, BayRecord.tieCandidate, Bool.or_eq_true, beq_iff_eq, or_assoc]

theorem concerns_iff (c : Settings) (r : BayRecord) :
    concerns c r = true ↔ ∃ y : Sec, (c.role = some .tie ∨ c.sec = some y) ∧
      (r.role = .tie ∨ r.sect = none ∨ r.sect = some y) := by
  have every : ∀ y : Sec, y ∈ [Sec.one, Sec.two] := fun y => by cases y <;> decide
  simp only [concerns, List.any_eq_true, every, true_and, Bool.and_eq_true, Settings.belongs_iff, BayRecord.belongs_iff]

theorem State.noticeIn_iff (s : State) (x : Sec) :
    s.noticeIn x = true ↔ ∃ k r, s.usableRec k = some r ∧ r.bfNotice = true ∧
      (r.role = .tie ∨ r.sect = none ∨ r.sect = some x) := by
  simp only [State.noticeIn, State.anyUsable_iff, Bool.and_eq_true, BayRecord.belongs_iff]

/-- The answer to a peer's notice before its trip: its note, with BF and TRIP where it is new. -/
def State.peerNoted (s : State) : State :=
  (if !s.dbu.peerSeen then (s.raise .bf).raise .trip else s).withDbu fun d => { d with peerSeen := true }

theorem State.peerNoted_dbu (s : State) : s.peerNoted.dbu = { s.dbu with peerSeen := true } := by
  unfold State.peerNoted
  split <;> rfl

theorem State.peerNoted_bcu (s : State) : s.peerNoted.bcu = s.bcu := by
  unfold State.peerNoted
  split <;> rfl

theorem State.peerNoted_bits {s : State} (new : s.dbu.peerSeen = false) :
    s.peerNoted.pendingBit .bf = true ∧ s.peerNoted.pendingBit .trip = true := by
  have noted : s.peerNoted = ((s.raise .bf).raise .trip).withDbu fun d => { d with peerSeen := true } := by
    rw [State.peerNoted, new]
    rfl
  rw [noted]
  exact ⟨(State.Consequence.raise (s.raise .bf) .trip).pendingBit (State.raise_pendingBit ..), State.raise_pendingBit ..⟩

theorem State.peerBfClose_of_notice {s : State} (h : s.peerNotice = true) :
    s.peerBfClose = s.peerNoted.tripRequest.setLockout .peerBf := by
  simp only [State.peerBfClose, h, Bool.true_and, if_true]
  rfl

theorem State.peerBfClose_of_none {s : State} (h : s.peerNotice = false) :
    s.peerBfClose = { s with dbu := { s.dbu with peerSeen := false } } := by
  simp only [State.peerBfClose, h, Bool.false_and, Bool.false_eq_true, if_false]
  rfl

/-! ### The BF timer and the BF trigger (R93, R94, R96) -/

theorem State.bfTick_of_idle {s s0 : State} (h : s0.dbu.timer = .idle) : s.bfTick s0 = s := by
  rw [State.bfTick, h]

theorem State.bfTick_of_running {s s0 : State} {n m : Nat} (h0 : s0.dbu.timer = .running m) (h : s.dbu.timer = .running n) :
    s.bfTick s0 = if s.cfg.tBf.toNat ≤ n + 1 then (s.withDbu fun d => { d with timer := .running (n + 1) }).bfExpire
      else s.withDbu fun d => { d with timer := .running (n + 1) } := by
  rw [State.bfTick, h0, h]

theorem State.bfSeenClose_eq (s : State) (x : Sec) :
    s.bfSeenClose x = (if s.noticeIn x = true ∧ (s.dbu.diff x).bfSeen = false then s.trigger .bf else s).withDbu
      fun d => d.setDiff x fun y => { y with bfSeen := s.noticeIn x } := by
  have new : (s.noticeIn x && !(s.dbu.diff x).bfSeen) = true ↔ s.noticeIn x = true ∧ (s.dbu.diff x).bfSeen = false := by
    rw [Bool.and_eq_true, Bool.not_eq_true']
  simp only [State.bfSeenClose, new]

/-- Settles O28: the evaluation, the differential of a section, the answer to a peer, the timer and the trigger. -/
theorem differentialAtACycleClose : Obligations.DifferentialAtACycleClose := by
  refine ⟨fun s x a b c complete => ?_, fun s x => ?_, fun s => ⟨fun notice => ?_, fun none => ?_⟩,
    fun s s0 n m running => ⟨State.bfTick_of_idle, fun before below => ?_, fun before reached => ?_⟩, fun s x found h => ?_⟩
  · obtain ⟨own, fresh, -, zone, rfl, rfl, rfl⟩ := State.evaluateSection_complete complete
    obtain ⟨set, known, -⟩ := (s.zoneBlock_eq_none_iff x own).mp zone
    refine ⟨set, own, known, ((s.freshRec_iff _ own).mp fresh).2, fun p hp => ?_⟩
    simp only [List.mem_cons, List.not_mem_nil, or_false] at hp
    rcases hp with rfl | rfl | rfl
    all_goals exact ⟨State.zoneSum_iop known .., State.zoneSum_ires known .., State.zoneSum_operates_iff ..⟩
  · have diff := s.diffClose_diff x
    have this := (diff x).trans (Dbu.setDiff_diff ..)
    refine ⟨Evaluation.holds_iff _, ?_, ?_, ⟨?_, (diff x.other).trans (Dbu.setDiff_diff_other ..), ?_⟩,
      fun third before => ?_, (s.cons_diffClose x).cap.trans (s.diffCounted_cap x), s.sectionTrips_iff x,
      fun trips => ?_, fun quiet => ?_⟩
    · exact congrArg SectionDiff.confirm this
    · exact congrArg SectionDiff.blocked this
    · exact congrArg SectionDiff.last this
    · exact congrArg SectionDiff.tripping this
    · rw [this] at third
      exact (s.cons_diffClose x).pendingBit (s.diffCounted_zoneBlocked x third before)
    · rw [State.diffClose_eq, if_pos trips, State.diffTrip_dbu, State.diffCounted_dbu, Dbu.setDiff_lockout,
        Dbu.setDiff_lockoutSource]
      refine ⟨rfl, rfl, fun closed => ?_⟩
      rw [State.diffTrip_bcu_of_closed ((congrArg Bcu.state (s.diffCounted_bcu x)).trans closed)]
      exact ⟨rfl, rfl⟩
    · rw [State.diffClose_eq, if_neg (ne_true_of_eq_false quiet), State.diffCounted_dbu]
      exact ⟨s.diffCounted_bcu x, Dbu.setDiff_lockout .., Dbu.setDiff_timer ..⟩
  · obtain ⟨k, r, other, usable, carries, concern⟩ := notice
    rw [State.peerBfClose_of_notice (s.peerNotice_iff.mpr ⟨k, r, other, usable, carries, (concerns_iff ..).mpr concern⟩),
      State.setLockout_dbu_set, State.tripRequest_dbu_timer, State.peerNoted_dbu]
    refine ⟨rfl, rfl, rfl, fun closed => ?_, fun new => ?_⟩
    · have request : s.peerNoted.tripRequest.bcu = { s.bcu.assertTrip with trippedNow := true } := by
        rw [State.tripRequest_of_closed (by rw [State.peerNoted_bcu, closed]), State.peerNoted_bcu]
      rw [State.setLockout_bcu_of_not_closing (by rw [request]; exact nofun), request]
      exact ⟨rfl, rfl⟩
    · have cons := (State.cons_tripRequest s.peerNoted).trans (State.cons_setLockout _ .peerBf)
      exact ⟨cons.pendingBit (State.peerNoted_bits new).1, cons.pendingBit (State.peerNoted_bits new).2⟩
  · refine State.peerBfClose_of_none (Bool.eq_false_iff.mpr fun notice => ?_)
    obtain ⟨k, r, other, usable, carries, concern⟩ := s.peerNotice_iff.mp notice
    obtain ⟨y, own, belongs⟩ := (concerns_iff ..).mp concern
    exact none k r other usable carries y own belongs
  · rw [State.bfTick_of_running before running, if_neg (Nat.not_le.mpr below)]
    rfl
  · rw [State.bfTick_of_running before running, if_pos reached, State.bfExpire_dbu]
    exact ⟨rfl, rfl, rfl⟩
  · obtain rfl : s.noticeIn x = found := by rw [Bool.eq_iff_iff, s.noticeIn_iff, h]
    have dbu : (if s.noticeIn x = true ∧ (s.dbu.diff x).bfSeen = false then s.trigger .bf else s).dbu = s.dbu := by
      split
      · exact State.trigger_dbu ..
      · rfl
    rw [State.bfSeenClose_eq]
    refine ⟨⟨(Dbu.setDiff_diff ..).trans ?_, (Dbu.setDiff_diff_other ..).trans ?_⟩, apply_ite State.cap .., ?_,
      apply_ite State.cfp ..⟩
    · rw [dbu]
    · rw [dbu]
    · show State.bcu (ite _ _ _) = s.bcu
      split
      · exact State.trigger_bcu ..
      · rfl

end Sys2Proof.Machine
end

section
/-! PROOFS. The breaker: the judgement of the contact pair (R103 to R113), its counts and drops at a cycle close (R107 to
R113), and a close request (R106, R143). -/

namespace Sys2Proof.Machine

/-! ### What a pair event makes of each breaker state (R105, R107, R110, R112, R113) -/

section PairState

variable {s : State}

theorem State.pairState_closed_of_closing (h : s.bcu.state = .closing) :
    s.pairState .closed = s.becomeClosed (some (if s.bcu.close then .completed else .dropped)) := by
  unfold State.pairState; rw [h]

theorem State.pairState_closed_of_opened (h : s.bcu.state = .opened) :
    s.pairState .closed = ((s.breakerAlarm fun a => { a with uncommandedClose := some s.lkc.count }).becomeClosed
      none).syuEndChecking .breakerMoved := by
  unfold State.pairState; rw [h]

theorem State.pairState_closed_of_unsure (h : s.bcu.state = .unknown ∨ s.bcu.state = .discrepant) :
    s.pairState .closed = s.becomeClosed none := by
  unfold State.pairState
  rcases h with h | h <;> rw [h]

theorem State.pairState_opened_of_unsure (h : s.bcu.state = .unknown ∨ s.bcu.state = .discrepant) :
    s.pairState .opened = s.withBcu fun b => b.rest .opened := by
  unfold State.pairState
  rcases h with h | h <;> rw [h]

theorem State.pairState_of_tripping (h : s.bcu.state = .opening ∨ s.bcu.state = .failedOpen) (p : Pair) :
    s.pairState p = s.releaseTest := by
  unfold State.pairState
  rcases h with h | h <;> rw [h]

theorem State.pairState_undecided (h : s.bcu.state = .unknown ∨ s.bcu.state = .opened ∨ s.bcu.state = .closed) :
    s.pairState .undecided = s.withBcu fun b => b.discrepancyAt .undecided := by
  unfold State.pairState
  rcases h with h | h | h <;> rw [h]

theorem Bcu.ended_reconfirm (b : Bcu) (x : BreakerState) (o : Option CloseOutcome) (n : Count) :
    (b.ended x o n).reconfirm = b.reconfirm := by cases o <;> rfl

theorem Bcu.discrepancyAt_reconfirm (b : Bcu) (p : Pair) : (b.discrepancyAt p).reconfirm = b.reconfirm := by
  cases p <;> rfl

theorem State.releaseTest_reconfirm (s : State) : s.releaseTest.bcu.reconfirm = s.bcu.reconfirm := by
  unfold State.releaseTest
  split <;> rfl

/-- No judgement of the pair makes another re-confirmation pending. -/
theorem State.pairState_reconfirm (s : State) (p : Pair) : (s.pairState p).bcu.reconfirm = s.bcu.reconfirm := by
  have closing : (if s.bcu.close then s else s.becomeOpen .dropped).bcu.reconfirm = s.bcu.reconfirm := by
    split
    · rfl
    · rw [State.becomeOpen_bcu, Bcu.ended_reconfirm]
  unfold State.pairState
  split <;> simp only [State.becomeClosed_bcu, Bcu.ended_reconfirm, (State.told_syuEndChecking ..).bcu,
    (State.told_uncommandedOpen _).bcu, State.breakerAlarm_bcu, State.releaseTest_reconfirm, State.withBcu_bcu,
    Bcu.discrepancyAt_reconfirm, closing, Bcu.rest]

theorem State.pairEvent_of_judged (h : s.pair ≠ .unjudged) : s.pairEvent = (s.bfClear s.pair).pairState s.pair := by
  unfold State.pairEvent
  split
  · next unjudged => exact absurd unjudged h
  · rfl

end PairState

theorem State.releaseTest_of_passed {s : State}
    (h : (s.bcu.state = .opening ∨ s.bcu.state = .failedOpen) ∧ s.pair = .opened ∧ 2 ≤ s.bcu.hold) :
    s.releaseTest = { s with bcu := { s.bcu with
      state := .opened, trip := false, close := false, supervision := 0, discrepancy := none, hold := 0 } } := if_pos h

theorem State.releaseTest_of_failed {s : State}
    (h : ¬((s.bcu.state = .opening ∨ s.bcu.state = .failedOpen) ∧ s.pair = .opened ∧ 2 ≤ s.bcu.hold)) :
    s.releaseTest = s := if_neg h

/-- No re-confirmation pending any more, the pair to be judged (R103). -/
def State.reconfirmed (s : State) : State := s.withBcu fun b => { b with reconfirm := none }

theorem exec_reconfirmation_of_due {s : State} {n : Nat} (run : s.cfp.run = .run) (pending : s.bcu.reconfirm = some n)
    (due : s.cfg.debounce.toNat ≤ n + 1) : exec .reconfirmation s = .next s.reconfirmed.pairEvent := by
  show execReconfirmation s = _
  rw [execReconfirmation, pending]
  exact congrArg Host.Outcome.next (if_pos (by simp [State.running_of_run run, due]))

/-- BCU after its pair has been judged, in terms of the judgement. -/
theorem State.reconfirmed_pairEvent {s : State} (judged : s.pair ≠ .unjudged) :
    s.reconfirmed.pairEvent = (s.reconfirmed.bfClear s.pair).pairState s.pair :=
  State.pairEvent_of_judged (s := s.reconfirmed) judged

/-- Settles O30, by the breaker state and what the contacts show. -/
theorem reconfirmationJudgesThePair : Obligations.ReconfirmationJudgesThePair := by
  intro s n run pending due
  have cons : State.Consequence s s.reconfirmed.pairEvent :=
    (State.Consequence.withBcu ..).trans (State.cons_pairEvent _)
  have judged : ∀ p, s.pair = p → p ≠ .unjudged → s.reconfirmed.pairEvent = (s.reconfirmed.bfClear p).pairState p :=
    fun p shows ne => shows ▸ State.reconfirmed_pairEvent (shows ▸ ne)
  have bcu : ∀ p, (s.reconfirmed.bfClear p).bcu = { s.bcu with reconfirm := none } := fun p => State.bfClear_bcu ..
  have state : ∀ p x, s.bcu.state = x → (s.reconfirmed.bfClear p).bcu.state = x := fun p x h => by rw [bcu]; exact h
  refine ⟨_, exec_reconfirmation_of_due run pending due, cons, ?reconfirm,
    congrArg Prod.fst s.reconfirmed.pairEvent_linesAndDiffs, fun unjudged => ?unjudged, fun opened => ?opened,
    fun shut => ?dbu, fun closing shows => ?closing, fun opened shows => ?uncommandedClose,
    fun closed shows => ?uncommandedOpen, fun unsure => ⟨fun shows => ?unsureClosed, fun shows => ?unsureOpened⟩,
    fun tripping ne => ?tripping, fun counts shows => ?undecided⟩
  case reconfirm =>
    by_cases unjudged : s.pair = .unjudged
    · have stays : s.reconfirmed.pairEvent = s.reconfirmed := by
        rw [State.pairEvent, show s.reconfirmed.pair = .unjudged from unjudged]
      rw [stays]
      rfl
    · rw [State.reconfirmed_pairEvent unjudged, State.pairState_reconfirm, bcu]
  case unjudged =>
    rw [State.pairEvent, show s.reconfirmed.pair = .unjudged from unjudged]
    rfl
  case opened => exact State.pairEvent_dbu_of_opened (s := s.reconfirmed) opened
  case dbu =>
    by_cases unjudged : s.pair = .unjudged
    · rw [State.pairEvent, show s.reconfirmed.pair = .unjudged from unjudged]
      rfl
    · rw [State.reconfirmed_pairEvent unjudged, State.pairState_dbu, State.bfClear, if_neg shut]
      rfl
  case closing =>
    rw [judged .closed shows nofun, State.pairState_closed_of_closing (state _ _ closing), State.becomeClosed_bcu]
    exact ⟨rfl, rfl, rfl, rfl⟩
  case uncommandedClose =>
    rw [judged .closed shows nofun, State.pairState_closed_of_opened (state _ _ opened),
      (State.told_syuEndChecking ..).bcu, State.becomeClosed_bcu]
    exact ⟨rfl, rfl, ((State.cons_becomeClosed ..).trans (State.told_syuEndChecking ..).toConsequence).pendingBit
      (State.raise_pendingBit ..)⟩
  case uncommandedOpen =>
    rw [judged .opened shows nofun, State.pairState_opened_bcu_of_closed (state _ _ closed)]
    exact ⟨rfl, rfl, State.pairState_opened_alarm_of_closed (state _ _ closed)⟩
  case unsureClosed =>
    rw [judged .closed shows nofun, State.pairState_closed_of_unsure (unsure.imp (state _ _) (state _ _)),
      State.becomeClosed_bcu]
    rfl
  case unsureOpened =>
    rw [judged .opened shows nofun, State.pairState_opened_of_unsure (unsure.imp (state _ _) (state _ _))]
    rfl
  case tripping =>
    rw [State.reconfirmed_pairEvent ne, State.pairState_of_tripping (tripping.imp (state _ _) (state _ _))]
    have pair : (s.reconfirmed.bfClear s.pair).pair = s.pair :=
      State.pair_congr (State.cons_bfClear s.reconfirmed _).cfg (congrArg Bcu.lines (bcu s.pair) :)
    by_cases passes : s.pair = .opened ∧ 2 ≤ s.bcu.hold
    · rw [if_pos passes, State.releaseTest_of_passed ⟨tripping.imp (state _ _) (state _ _), pair.trans passes.1,
        by rw [bcu]; exact passes.2⟩, bcu]
    · rw [if_neg passes, State.releaseTest_of_failed (fun h => passes ⟨pair.symm.trans h.2.1, by
        have hold := h.2.2; rwa [bcu] at hold⟩), bcu]
  case undecided =>
    rw [judged .undecided shows nofun, State.pairState_undecided (counts.imp (state _ _) (Or.imp (state _ _) (state _ _)))]
    rfl

/-! ### The three counts of BCU (R107, R110, R113) -/

section Expiries

variable {s : State}

theorem State.supervisionExpire_of_opened (h : s.pair = .opened) : s.supervisionExpire =
    ((s.withBcu fun b => b.rest .opened).breakerAlarm fun a => { a with closeFail := some s.lkc.count }).closeOutcome
      .failed := by
  rw [State.supervisionExpire, h]

theorem State.supervisionExpire_of_closed (h : s.pair = .closed) :
    s.supervisionExpire = s.becomeClosed (some (if s.bcu.close then .completed else .dropped)) := by
  rw [State.supervisionExpire, h]

theorem State.supervisionExpire_of_neither (opened : s.pair ≠ .opened) (closed : s.pair ≠ .closed) : s.supervisionExpire =
    ((s.withBcu fun b => b.rest .discrepant).breakerAlarm fun a => { a with discrepant := some s.lkc.count }).closeOutcome
      .discrepant := by
  unfold State.supervisionExpire
  split
  · next h => exact absurd h opened
  · next h => exact absurd h closed
  · rfl

theorem State.cons_supervisionExpire (s : State) : State.Consequence s s.supervisionExpire := by
  unfold State.supervisionExpire
  split
  · exact ((State.Consequence.withBcu ..).trans (State.cons_breakerAlarm ..)).trans (State.cons_closeOutcome ..)
  · exact State.cons_becomeClosed ..
  · exact ((State.Consequence.withBcu ..).trans (State.cons_breakerAlarm ..)).trans (State.cons_closeOutcome ..)

theorem State.supervisionExpire_dbu (s : State) : s.supervisionExpire.dbu = s.dbu := by
  unfold State.supervisionExpire
  split
  · exact State.closeOutcome_dbu ..
  · exact State.becomeClosed_dbu ..
  · exact State.closeOutcome_dbu ..

/-- The count itself is not read once it has run out. -/
theorem State.supervisionExpire_counted (s : State) (n : Nat) :
    (s.withBcu fun b => { b with supervision := n }).supervisionExpire = s.supervisionExpire := by
  have pair : (s.withBcu fun b => { b with supervision := n }).pair = s.pair := rfl
  unfold State.supervisionExpire
  rw [pair]
  cases s.pair <;> rfl

theorem exec_closeSupervisionExpiry_of_due (run : s.cfp.run = .run) (closing : s.bcu.state = .closing)
    (due : s.cfg.tCloseMax.toNat ≤ s.bcu.supervision + 1) :
    exec .closeSupervisionExpiry s = .next s.supervisionExpire :=
  congrArg Host.Outcome.next (if_pos (by simp [State.running_of_run run, closing, due]))

theorem exec_tripRelease_of_due (run : s.cfp.run = .run) (tripping : s.bcu.state = .opening ∨ s.bcu.state = .failedOpen)
    (opened : s.pair = .opened) (hold : 1 ≤ s.bcu.hold) :
    exec .tripRelease s = .next (s.withBcu fun b => { b with hold := satInc 2 b.hold }).releaseTest :=
  congrArg Host.Outcome.next (if_pos (by
    have two : 2 ≤ s.bcu.hold + 1 := by omega
    rcases tripping with h | h <;> simp [State.running_of_run run, h, opened, two]))

theorem countsDiscrepancy_iff (b : BreakerState) :
    countsDiscrepancy b = true ↔ b = .opened ∨ b = .closed ∨ b = .unknown := by
  cases b <;> decide

theorem exec_discrepancyExpiry_of_due {n : Nat} (run : s.cfp.run = .run) (counting : s.bcu.discrepancy = some n)
    (due : s.cfg.tDisc.toNat ≤ n + 1) (counts : s.bcu.state = .opened ∨ s.bcu.state = .closed ∨ s.bcu.state = .unknown) :
    exec .discrepancyExpiry s = .next s.discrepancyExpire := by
  show execDiscrepancyExpiry s = _
  rw [execDiscrepancyExpiry, counting]
  exact congrArg Host.Outcome.next
    (if_pos (by simp [State.running_of_run run, (countsDiscrepancy_iff _).mpr counts, due]))

theorem State.discrepancyTick_of_counting {n : Nat} (counting : s.bcu.discrepancy = some n)
    (counts : s.bcu.state = .opened ∨ s.bcu.state = .closed ∨ s.bcu.state = .unknown) :
    s.discrepancyTick = if s.cfg.tDisc.toNat ≤ n + 1 then s.discrepancyExpire
      else s.withBcu fun b => { b with discrepancy := some (n + 1) } := by
  rw [State.discrepancyTick, counting]
  exact if_pos ((countsDiscrepancy_iff _).mpr counts)

end Expiries

/-! ### The close drop and EXT_TRIP at a cycle close (R108, R109) -/

theorem State.dbuWillTrip_iff (s : State) : s.dbuWillTrip = true ↔
    (∃ x : Sec, s.cfg.belongs x = true ∧ s.sectionTrips x = true) ∨
      ∃ (k : Station) (r : BayRecord), k ≠ s.cfg.own ∧ s.usableRec k = some r ∧ r.bfNotice = true ∧
        concerns s.cfg r = true := by
  rw [State.dbuWillTrip, Bool.or_eq_true, any_ownSections, State.peerNotice_iff]

/-- What asks for a close drop at a cycle close (R108). -/
theorem State.drops_iff (s : State) : (s.top.ownLocked s.cfg || (s.cfg.isRole .incomer && !s.tru.healthy)) = true ↔
    s.top.ownLocked s.cfg = true ∨ (s.cfg.role = some .incomer ∧ s.tru.healthy = false) := by
  rw [Bool.or_eq_true, Bool.and_eq_true, Settings.isRole_iff, Bool.not_eq_true']

theorem State.closeDrop_of_closing {s : State} (closing : s.bcu.state = .closing) (close : s.bcu.close = true)
    (opened : s.pair ≠ .opened) (closed : s.pair ≠ .closed) :
    s.closeDrop = { s with bcu := { s.bcu with close := false } } := by
  unfold State.closeDrop
  rw [if_pos ⟨closing, close⟩]
  dsimp only
  split
  · next h => exact absurd h opened
  · next h => exact absurd h closed
  · rfl

theorem State.closeDrop_bcu_of_closed {s : State} (closing : s.bcu.state = .closing) (close : s.bcu.close = true)
    (closed : s.pair = .closed) :
    s.closeDrop.bcu = { s.bcu with close := false }.ended .closed (some .dropped) s.lkc.count := by
  rw [State.closeDrop_bcu, if_pos ⟨closing, close⟩, closed]

/-- Settles O31: the rows of the three counts, the counts at a cycle close, the close drop and EXT_TRIP. -/
theorem breakerCountsExpire : Obligations.BreakerCountsExpire := by
  refine ⟨fun s run => ⟨fun closing due => ?supervision, fun tripping opened hold => ?release,
      fun n counting due counts => ?discrepancy⟩,
    fun s => ⟨fun idle => ?supervisionIdle, fun closing later => ⟨fun below => ?supervisionTick, fun due run => ?supervisionEnd⟩,
      fun idle => ?discrepancyIdle, fun n counting => ⟨fun other => ?discrepancyOther,
        fun counts => ⟨fun below => ?discrepancyTick, fun due run => ?discrepancyEnd⟩⟩⟩,
    fun s s0 h hold => ?hold,
    fun s s0 presents h => ⟨fun absent asks => ?drops, fun stands => ?dropStands⟩,
    fun s => ⟨fun idle => ?noClose, fun closing close => ⟨fun opened => ?dropOpened, fun closed => ?dropClosed,
      State.closeDrop_of_closing closing close⟩⟩,
    fun s => ⟨fun off => ?extOff, fun on => if_pos on, fun stays => ?tripStays, fun opens => ?tripOpens,
      fun closing => ?tripClosing, ?timer⟩⟩
  case supervision =>
    refine ⟨_, exec_closeSupervisionExpiry_of_due run closing due, s.cons_supervisionExpire, s.supervisionExpire_dbu, ?_⟩
    by_cases opened : s.pair = .opened
    · rw [State.supervisionExpire_of_opened opened, State.closeOutcome_bcu]
      exact ⟨⟨rfl, rfl, rfl, rfl⟩, fun _ => ⟨rfl, rfl, rfl, (State.cons_closeOutcome ..).pendingBit
        (State.raise_pendingBit ..)⟩, fun h => absurd (opened.symm.trans h) nofun, fun h => absurd opened h⟩
    · by_cases closed : s.pair = .closed
      · rw [State.supervisionExpire_of_closed closed, State.becomeClosed_bcu]
        exact ⟨⟨rfl, rfl, rfl, rfl⟩, fun h => absurd h opened, fun _ => ⟨rfl, rfl, rfl⟩, fun _ h => absurd closed h⟩
      · rw [State.supervisionExpire_of_neither opened closed, State.closeOutcome_bcu]
        exact ⟨⟨rfl, rfl, rfl, rfl⟩, fun h => absurd h opened, fun h => absurd h closed, fun _ _ => ⟨rfl, rfl, rfl,
          (State.cons_closeOutcome ..).pendingBit (State.raise_pendingBit ..)⟩⟩
  case release =>
    rw [exec_tripRelease_of_due run tripping opened hold]
    have two : 2 ≤ satInc 2 s.bcu.hold := Nat.le_min.mpr ⟨Nat.le_refl 2, Nat.succ_le_succ hold⟩
    exact congrArg Host.Outcome.next
      (State.releaseTest_of_passed (s := s.withBcu fun b => { b with hold := satInc 2 b.hold }) ⟨tripping, opened, two⟩)
  case discrepancy =>
    rw [exec_discrepancyExpiry_of_due run counting due counts]
    rfl
  case supervisionIdle => exact if_neg idle
  case supervisionTick =>
    rw [State.supervisionTick, if_pos ⟨closing, later⟩]
    exact if_neg (Nat.not_le.mpr below)
  case supervisionEnd =>
    have tick : s.supervisionTick = (s.withBcu fun b => { b with supervision := s.bcu.supervision + 1 }).supervisionExpire := by
      rw [State.supervisionTick, if_pos ⟨closing, later⟩]
      exact if_pos due
    rw [exec_closeSupervisionExpiry_of_due run closing due, tick, State.supervisionExpire_counted]
  case discrepancyIdle => rw [State.discrepancyTick, idle]
  case discrepancyOther =>
    rw [State.discrepancyTick, counting]
    exact if_neg fun h => other ((countsDiscrepancy_iff _).mp h)
  case discrepancyTick =>
    rw [State.discrepancyTick_of_counting counting counts, if_neg (Nat.not_le.mpr below)]
    rfl
  case discrepancyEnd =>
    rw [exec_discrepancyExpiry_of_due run counting due counts, State.discrepancyTick_of_counting counting counts, if_pos due]
  case hold =>
    have tick : s.holdTick s0 = (s.withBcu fun b => { b with hold := h }).releaseTest := by
      rw [State.holdTick, hold]
      by_cases trips : s0.bcu.trip = true ∧ s.bcu.trip = true
      · simp only [trips, Bool.and_self, and_self, if_true]
        rfl
      · rw [if_neg (by rwa [Bool.and_eq_true]), if_neg trips]
        rfl
    rw [tick]
    exact ⟨State.releaseTest_of_passed (s := s.withBcu fun b => { b with hold := h }),
      State.releaseTest_of_failed (s := s.withBcu fun b => { b with hold := h })⟩
  case drops =>
    have quiet : s0.dbuWillTrip = false := by
      rw [← absent, Bool.eq_iff_iff, s0.dbuWillTrip_iff, h]
    rw [State.bcuDrop, quiet]
    exact if_pos (s.drops_iff.mpr asks)
  case dropStands =>
    have same : s0.dbuWillTrip = presents := by rw [Bool.eq_iff_iff, s0.dbuWillTrip_iff, h]
    rw [State.bcuDrop, same]
    rcases stands with trips | ⟨unlocked, healthy⟩
    · rw [trips]
      rfl
    · refine if_neg fun asks => ?_
      rcases s.drops_iff.mp (Bool.and_eq_true_iff.mp asks).2 with locked | ⟨incomer, unhealthy⟩
      · rw [unlocked] at locked
        cases locked
      · exact healthy.elim (fun other => other incomer) fun h => by rw [unhealthy] at h; cases h
  case noClose =>
    exact if_neg fun h => idle.elim (fun ne => ne h.1) fun off => by rw [h.2] at off; cases off
  case dropOpened =>
    rw [State.closeDrop_bcu_of_opened closing close opened]
    exact ⟨rfl, rfl, rfl, rfl⟩
  case dropClosed =>
    rw [State.closeDrop_bcu_of_closed closing close closed]
    exact ⟨rfl, rfl, rfl, rfl⟩
  case extOff => exact if_neg (ne_true_of_eq_false off)
  case tripStays =>
    rw [State.tripRequest_bcu]
    rcases stays with h | h | h <;> rw [h]
  case tripOpens =>
    rw [State.tripRequest_bcu]
    rcases opens with h | h | h <;> rw [h] <;> rfl
  case tripClosing =>
    rw [State.tripRequest_bcu, closing]
    exact ⟨rfl, rfl, rfl, rfl, rfl, rfl, rfl⟩
  case timer => rw [State.tripRequest_dbu_timer]

/-! ### A close request (R106, R143) -/

/-- BCU's judgement, condition by condition (R106). -/
theorem State.judgeClose_eq_some_iff (s : State) (r : CloseRefusal) : s.judgeClose = some r ↔
    (r = .notOpen ∧ s.bcu.state ≠ .opened) ∨
    (s.bcu.state = .opened ∧
      ((r = .lockout ∧ (s.dbu.lockout = true ∨ s.top.ownLocked s.cfg = true)) ∨
      (s.dbu.lockout = false ∧ s.top.ownLocked s.cfg = false ∧
        ((r = .tripStanding ∧ (s.pruStands = true ∨ s.fnActive .extTrip = true ∨ s.bcu.trippedNow = true)) ∨
        (s.pruStands = false ∧ s.fnActive .extTrip = false ∧ s.bcu.trippedNow = false ∧
          ((r = .blocked ∧ s.fnActive .extBlockClose = true) ∨
          (r = .unhealthy ∧ s.fnActive .extBlockClose = false ∧ s.cfg.role = some .incomer ∧
            s.tru.healthy = false))))))) := by
  unfold State.judgeClose
  by_cases opened : s.bcu.state = .opened
  case neg => cases r <;> simp [opened]
  by_cases locked : (s.dbu.lockout || s.top.ownLocked s.cfg) = true
  case pos =>
    have locked' := (Bool.or_eq_true ..).mp locked
    simp only [opened, locked]
    rcases locked' with h | h <;> cases r <;> simp [h]
  obtain ⟨own, view⟩ := (Bool.or_eq_false_iff ..).mp (Bool.eq_false_iff.mpr locked)
  by_cases trips : (s.pruStands || s.fnActive .extTrip || s.bcu.trippedNow) = true
  case pos =>
    simp only [Bool.or_eq_true, or_assoc] at trips
    rcases trips with h | h | h <;> cases r <;> simp [opened, own, view, h]
  obtain ⟨⟨stands, ext⟩, now⟩ : (s.pruStands = false ∧ s.fnActive .extTrip = false) ∧ s.bcu.trippedNow = false := by
    simpa only [Bool.not_eq_true, Bool.or_eq_false_iff] using trips
  by_cases blocked : s.fnActive .extBlockClose = true
  case pos => cases r <;> simp [opened, own, view, stands, ext, now, blocked]
  cases r <;> simp [opened, own, view, stands, ext, now, blocked, Settings.isRole]

theorem State.judgeClose_eq_none_iff (s : State) : s.judgeClose = none ↔
    s.bcu.state = .opened ∧ s.dbu.lockout = false ∧ s.top.ownLocked s.cfg = false ∧ s.pruStands = false ∧
      s.fnActive .extTrip = false ∧ s.bcu.trippedNow = false ∧ s.fnActive .extBlockClose = false ∧
      (s.cfg.role = some .incomer → s.tru.healthy = true) := by
  rw [← Settings.isRole_iff]
  refine ⟨State.judgeClose_none, fun ⟨opened, own, view, stands, ext, now, block, healthy⟩ => ?_⟩
  unfold State.judgeClose
  cases role : s.cfg.isRole .incomer
  · simp [opened, own, view, stands, ext, now, block]
  · simp [opened, own, view, stands, ext, now, block, healthy role]

theorem State.closeRequest_eq {s : State} {u : CloseUnit}
    (h : ¬(u ≠ .syu ∧ s.currentSet.busClass = .live ∧ s.currentSet.clsL = .live)) :
    (∀ r, s.judgeClose = some r →
      s.closeRequest u = ({ s with bcu := { s.bcu with lastRefusal := some (r, u, s.lkc.count) } }, some r)) ∧
    (s.judgeClose = none → s.closeRequest u = ({ s with bcu := s.bcu.accept u }, none)) := by
  rw [State.closeRequest, if_neg h]
  exact ⟨fun r judged => by rw [judged]; rfl, fun judged => by rw [judged]; rfl⟩

/-- Settles O32: the interlock, and else BCU's judgement. -/
theorem closeRequestIsJudgedInOrder : Obligations.CloseRequestIsJudgedInOrder := by
  intro u s
  refine ⟨fun live => if_pos live, fun clear => ?_⟩
  obtain ⟨refuses, accepts⟩ := State.closeRequest_eq (s := s) (u := u) clear
  refine ⟨fun r => ?_, ?_⟩
  · rw [← s.judgeClose_eq_some_iff r]
    refine ⟨fun h => ?_, refuses r⟩
    cases judged : s.judgeClose with
    | none => rw [accepts judged] at h; cases (Prod.mk.inj h).2
    | some q => rw [refuses q judged] at h; exact (Prod.mk.inj h).2
  · rw [← s.judgeClose_eq_none_iff]
    refine ⟨fun h => ?_, accepts⟩
    cases judged : s.judgeClose with
    | none => rfl
    | some q => rw [refuses q judged] at h; cases (Prod.mk.inj h).2

end Sys2Proof.Machine
end

section
/-! PROOFS. What the outside reads: the output lines and their sources (R104), the words at the port's addresses (R84, R92,
R191) and the bytes of a transfer (R54, R190). -/

namespace Sys2Proof.Machine

/-! ### Output lines (R104) -/

theorem State.outputPin_of_config {s : State} (config : s.cfp.run = .config) (i : Fin 8) :
    s.outputPin i = (s.cfg.outputs.get i).low := by
  rw [State.outputPin, State.lineLevel, State.running_eq_false config, Bool.false_and]
  exact Bool.false_bne _

theorem State.outputPin_of_run {s : State} {i : Fin 8} {src : OutSrc} (run : s.cfp.run = .run)
    (source : (s.cfg.outputs.get i).src = some src) :
    s.outputPin i = true ↔ (s.sourceLevel src = true ↔ (s.cfg.outputs.get i).low = false) := by
  rw [State.outputPin, State.lineLevel, State.running_of_run run, source, Bool.true_and, Option.map_some,
    Option.getD_some]
  cases s.sourceLevel src <;> cases (s.cfg.outputs.get i).low <;> decide

theorem engineRun_iff (u : UnitState) : engineRun u = true ↔ u ≠ .idle ∧ u ≠ .fail := by
  cases u <;> decide

theorem State.sourceLevel_alarm_iff (s : State) : s.sourceLevel .alarm = true ↔
    (∃ e : Element, (s.pru.elements.get e).state = .operate ∧ elementAction s.cfg s.pru e = some .alarm) ∨
      s.dbu.s1.blocked = 3 ∨ s.dbu.s2.blocked = 3 ∨ s.bcu.state = .discrepant ∨ s.gcu.unit = .fail := by
  have every : ∀ e : Element, e ∈ allElements := fun e => by cases e <;> decide
  show s.alarmSource = true ↔ _
  simp only [State.alarmSource, State.pruAlarm, State.dbuAlarm, State.bcuAlarm, State.gcuAlarm, Bool.or_eq_true,
    List.any_eq_true, every, true_and, Bool.and_eq_true, beq_iff_eq, or_assoc]

/-! ### The words at an address (R84, R92, R191) -/

theorem toWord_natCast (n : Nat) : toWord (n : Int) = BitVec.ofNat 16 n := BitVec.ofInt_natCast ..

/-- A half of a quantity of two words. -/
theorem halfOfNat_word (n : Nat) (h : Bool) (a : Word) :
    (halfOfNat n h).word a = BitVec.ofNat 16 (if h then n / 65536 else n % 65536) := by
  cases h <;> exact toWord_natCast _

theorem State.portRead_status (s : State) (a : Word) (low : 0x800 ≤ a.toNat) (high : a.toNat < 0x1000) :
    s.portRead a = ((placedAt Config.statusAt StatusItem.twin 0x0800 0x0FFF a).map fun it =>
      (s.statusValue it).word a).getD 0 := by
  unfold State.portRead
  dsimp only
  rw [if_neg (by omega), if_neg (by omega), if_neg (by omega), if_neg (by omega), if_neg (by omega), if_neg (by omega),
    if_neg (by omega), if_neg (by omega), if_neg (by omega), if_neg (by omega), if_neg (by omega), if_pos ⟨low, high⟩]
  rfl

theorem State.portRead_store (s : State) (a : Word) (low : 0x100 ≤ a.toNat) (high : a.toNat < 0x500) :
    s.portRead a = ((storeItemAt a).map (s.cfg.read s.cfp.groupAccess)).getD 0 := by
  unfold State.portRead
  dsimp only
  rw [if_neg (by omega), if_neg (by omega), if_neg (by omega), if_neg (by omega), if_neg (by omega), if_neg (by omega),
    if_neg (by omega), if_neg (by omega), if_pos ⟨low, high⟩]

/-- Where a word of the store may lie, inside the store's range. -/
theorem StoreItem.fits_eq (i : StoreItem) {a : Word} (low : 0x100 ≤ a.toNat) (high : a.toNat < 0x500) :
    i.fits a = (match i.half with
      | none => decide (a.toNat < 0x400)
      | some .fault => decide (0x400 ≤ a.toNat ∧ a.toNat < Config.sourceHalf.toNat)
      | some .source => decide (0x400 ≤ a.toNat ∧ Config.sourceHalf.toNat ≤ a.toNat)) := by
  unfold StoreItem.fits
  rcases i.half with _ | half | half
  · exact decide_eq_decide.mpr (by omega)
  · exact decide_eq_decide.mpr (by omega)
  · exact decide_eq_decide.mpr (by omega)

theorem State.statusValue_sums (s : State) (x : Sec) (p : Fin 3) (h : Bool) :
    s.statusValue (.iop x p h) = halfOfNat ((s.dbu.diff x).last.sum p).iop h ∧
      s.statusValue (.ires x p h) = halfOfNat ((s.dbu.diff x).last.sum p).ires h := ⟨rfl, rfl⟩

theorem Evaluation.sum_complete (a b c d : PhaseSum) (p : Fin 3) (h : d = match p with | 0 => a | 1 => b | 2 => c) :
    (Evaluation.complete a b c).sum p = d := h.symm

theorem halves_of_count (c : Count) (a : Word) :
    (halfOfCount c true).word a ++ (halfOfCount c false).word a = c := by
  rw [halfOfCount, halfOfCount, halfOfNat_word, halfOfNat_word]
  apply BitVec.eq_of_toNat_eq
  have bound : c.toNat < 2 ^ 32 := c.isLt
  simp only [if_true, Bool.false_eq_true, if_false, BitVec.toNat_append, BitVec.toNat_ofNat]
  rw [← Nat.shiftLeft_add_eq_or_of_lt (Nat.mod_lt _ (by decide)), Nat.shiftLeft_eq]
  omega

/-! ### The bytes of a transfer (R54, R190, R191) -/

/-- Beside the Peer Image blocks a word of a READ is the word at its address, at its own moment. -/
theorem readWords_getElem? : ∀ (moments : List State) (inBlock : Bool) (a : Word) (n : Nat),
    ¬(0x1100 ≤ (a + BitVec.ofNat 16 n).toNat ∧ (a + BitVec.ofNat 16 n).toNat < 0x1300) →
      (readWords inBlock a moments)[n]? = moments[n]?.map fun s => s.portRead (a + BitVec.ofNat 16 n)
  | [], _, _, _, _ => rfl
  | s :: later, inBlock, a, 0, outside => by
    have here : a + BitVec.ofNat 16 0 = a := BitVec.add_zero a
    rw [here] at outside ⊢
    simp [readWords, outside]
  | s :: later, inBlock, a, n + 1, outside => by
    have next : a + BitVec.ofNat 16 (n + 1) = a + 1 + BitVec.ofNat 16 n := by
      rw [BitVec.add_assoc, Nat.add_comm n 1, BitVec.ofNat_add]
      rfl
    rw [next] at outside ⊢
    exact readWords_getElem? later _ (a + 1) n outside

theorem length_readWords : ∀ (moments : List State) (inBlock : Bool) (a : Word),
    (readWords inBlock a moments).length = moments.length
  | [], _, _ => rfl
  | _ :: later, _, a => congrArg (· + 1) (length_readWords later _ (a + 1))

theorem length_wordBytes : ∀ ws : List Word, (ws.flatMap wordBytes).length = 2 * ws.length
  | [] => rfl
  | w :: ws => by
    rw [List.flatMap_cons, List.length_append, length_wordBytes ws, List.length_cons]
    simp only [wordBytes, List.length_cons, List.length_nil]
    omega

theorem wordBytes_getElem? {k : Nat} (hk : k ∈ [0, 1]) : ∀ (ws : List Word) (n : Nat),
    (ws.flatMap wordBytes)[2 * n + k]? = ws[n]?.map fun w => w.extractLsb' (8 - 8 * k) 8
  | [], _ => by simp
  | w :: ws, 0 => by
    simp only [List.mem_cons, List.not_mem_nil, or_false] at hk
    rcases hk with rfl | rfl <;> rfl
  | w :: ws, n + 1 => by
    have step : 2 * (n + 1) + k = 2 * n + k + 1 + 1 := by omega
    rw [step, List.getElem?_cons_succ]
    exact wordBytes_getElem? hk ws n

/-- The bytes that a READ puts out after the command and the address. -/
def readBytes (bytes : List Byte) (moments : List State) : List Byte :=
  match bytes with
  | b :: hi :: lo :: _ =>
    if portKind b = PortKind.read then (readWords false (portWord hi lo) (takeCounted (portCount b) moments)).flatMap wordBytes
    else []
  | _ => []

theorem transferOut_eq (bytes : List Byte) (moments : List State) :
    transferOut bytes moments =
      (List.replicate 3 0 ++ readBytes bytes moments ++ List.replicate bytes.length 0).take bytes.length := rfl

theorem length_transferOut (bytes : List Byte) (moments : List State) :
    (transferOut bytes moments).length = bytes.length := by
  rw [transferOut_eq, List.length_take, List.length_append, List.length_replicate]
  omega

theorem transferOut_head (bytes : List Byte) (moments : List State) {n : Nat} (three : n < 3) (inside : n < bytes.length) :
    (transferOut bytes moments)[n]? = some 0 := by
  rw [transferOut_eq, List.getElem?_take_of_lt inside, List.append_assoc,
    List.getElem?_append_left (by rwa [List.length_replicate]), List.getElem?_replicate_of_lt three]

theorem readBytes_of_not_read {bytes rest : List Byte} {b : Byte} (moments : List State) (cons : bytes = b :: rest)
    (kind : portKind b ≠ .read) : readBytes bytes moments = [] := by
  subst cons
  rcases rest with _ | ⟨hi, _ | ⟨lo, rest⟩⟩
  · rfl
  · rfl
  · exact if_neg kind

theorem readBytes_of_read {bytes rest : List Byte} {b hi lo : Byte} (moments : List State)
    (cons : bytes = b :: hi :: lo :: rest) (kind : portKind b = .read) :
    readBytes bytes moments =
      (readWords false (portWord hi lo) (takeCounted (portCount b) moments)).flatMap wordBytes := by
  subst cons
  exact if_pos kind

/-- A byte after the three is a byte of the words read, or 0. -/
theorem transferOut_tail {bytes : List Byte} {moments : List State} {j : Nat} {y : Byte}
    (out : (transferOut bytes moments)[3 + j]? = some y) : (readBytes bytes moments)[j]? = some y ∨
      ((readBytes bytes moments).length ≤ j ∧ y = 0) := by
  rw [transferOut_eq, List.getElem?_take] at out
  split at out
  case isFalse => cases out
  rw [List.append_assoc, List.getElem?_append_right (by simp), List.length_replicate, Nat.add_sub_cancel_left] at out
  rcases Nat.lt_or_ge j (readBytes bytes moments).length with inside | beyond
  · rw [List.getElem?_append_left inside] at out
    exact .inl out
  · rw [List.getElem?_append_right beyond] at out
    exact .inr ⟨beyond, (List.mem_replicate.mp (List.mem_of_getElem? out)).2⟩

theorem takeCounted_getElem? {α : Type} {count n : Nat} (ws : List α) (h : count = 0 ∨ n < count) :
    (takeCounted count ws)[n]? = ws[n]? := by
  unfold takeCounted
  split
  · rfl
  · exact List.getElem?_take_of_lt (h.resolve_left ‹_›)

theorem length_takeCounted_le {α : Type} {count : Nat} (ws : List α) (h : count ≠ 0) :
    (takeCounted count ws).length ≤ count := by
  rw [takeCounted, if_neg h]
  exact List.length_take_le ..

/-- Settles O33, surface by surface: lines and sources, status and store words, and the bytes of a transfer. -/
theorem whatTheOutsideReads : Obligations.WhatTheOutsideReads := by
  refine ⟨fun s i => ⟨fun config => State.outputPin_of_config config i, fun run src => State.outputPin_of_run run⟩,
    fun s => ⟨⟨rfl, rfl, rfl, rfl, ?lockout, rfl, beq_iff_eq, ?startDemand, ?engineRun⟩, s.sourceLevel_alarm_iff⟩,
    fun i high s config => ⟨_, exec_contactEvent_of_pin (.inl config), ?raw, rfl, fun j ne => ?others, ?level⟩,
    ⟨State.portRead_status, fun place a it placed other => placedAt_beside StatusItem.twin_twin placed other,
      fun x p => ⟨rfl, rfl⟩, fun s a x p h => ⟨fun none => ?noSum, fun c0 c1 c2 c complete hc => ?sum⟩⟩,
    fun s a => ⟨?direction, ?discrepancy, fun r rocof => ?rocof⟩, fun s a low high => ?store,
    fun bytes m => ⟨length_transferOut bytes m, fun n three inside => transferOut_head bytes m three inside,
      fun b rest cons kind y hy => ?notRead, fun b hi lo rest cons kind n => ⟨fun counted beyond k hk y out => ?beyond,
        fun s moment within outside k hk y out => ?word⟩⟩,
    fun a k s later first => ⟨?first, fun b u l inside low high => ?buffered⟩, fun s i => rfl⟩
  case lockout => exact Bool.and_eq_true_iff.trans (and_congr_left fun _ => s.running_iff)
  case startDemand => exact Bool.and_eq_true_iff.trans (and_congr_left fun _ => Settings.isRole_iff ..)
  case engineRun => exact Bool.and_eq_true_iff.trans (and_congr (Settings.isRole_iff ..) (engineRun_iff _))
  case raw => exact congrArg LineState.high (s.withLine_get_self i _)
  case others => exact s.withLine_get_of_ne ne _
  case level =>
    exact (congrArg LineState.level (s.withLine_get_self i { s.bcu.lines.get i with high := high }) :)
  case noSum =>
    obtain ⟨iop, ires⟩ := s.statusValue_sums x p h
    rw [iop, ires, none, halfOfNat_word, halfOfNat_word]
    simp only [Evaluation.sum, Nat.zero_div, Nat.zero_mod, ite_self]
    exact ⟨rfl, rfl⟩
  case sum =>
    obtain ⟨iop, ires⟩ := s.statusValue_sums x p h
    rw [iop, ires, complete, Evaluation.sum_complete c0 c1 c2 c p hc]
    exact ⟨halfOfNat_word .., halfOfNat_word ..⟩
  case direction =>
    show toWord (directionNumber s.tru.direction) = _
    rcases s.tru.direction with _ | _ | _ <;> rfl
  case discrepancy =>
    show toWord ((s.bcu.discrepancy.getD 0 : Nat) : Int) = _
    rw [toWord_natCast]
    cases s.bcu.discrepancy <;> rfl
  case rocof =>
    have value : ∀ h, s.snapshotValue (.rocof h) = halfOfInt r h := fun h => by
      show optValue s.msu.rocof (halfOfInt · h) = _
      rw [rocof]
      rfl
    rw [value, value, halfOfInt, halfOfInt, halves_of_count]
  case store =>
    rw [s.portRead_store a low high, storeItemAt]
    congr 3
    funext i
    rw [StoreItem.fits_eq i low high] <;> rfl
  case notRead =>
    rw [transferOut_eq, readBytes_of_not_read m cons kind, List.append_nil] at hy
    exact (List.mem_append.mp (List.mem_of_mem_take hy)).elim (fun h => (List.mem_replicate.mp h).2)
      fun h => (List.mem_replicate.mp h).2
  case beyond =>
    have short : (readBytes bytes m).length ≤ 2 * n := by
      rw [readBytes_of_read m cons kind, length_wordBytes, length_readWords]
      have := length_takeCounted_le m counted
      omega
    simp only [List.mem_cons, List.not_mem_nil, or_false] at hk
    obtain ⟨j, rfl, hj⟩ : ∃ j, k = 3 + j ∧ 2 * n ≤ j := by
      rcases hk with rfl | rfl
      · exact ⟨2 * n, rfl, Nat.le_refl _⟩
      · exact ⟨2 * n + 1, by omega, by omega⟩
    rcases transferOut_tail out with inside | ⟨-, zero⟩
    · have := (List.getElem?_eq_some_iff.mp inside).1
      omega
    · exact zero
  case word =>
    have read : (readBytes bytes m)[2 * n + k]? =
        some ((s.portRead (portWord hi lo + BitVec.ofNat 16 n)).extractLsb' (8 - 8 * k) 8) := by
      rw [readBytes_of_read m cons kind, wordBytes_getElem? hk, readWords_getElem? _ _ _ _ (outside n (Nat.le_refl n)),
        takeCounted_getElem? m within, moment]
      rfl
    rw [Nat.add_assoc] at out
    rcases transferOut_tail out with inside | ⟨beyond, -⟩
    · rw [read] at inside
      exact (Option.some.inj inside).symm
    · have := (List.getElem?_eq_some_iff.mp read).1
      omega
  case first =>
    rw [readWords, first]
    rfl
  case buffered =>
    have range : decide (0x1100 ≤ b.toNat ∧ b.toNat < 0x1300) = true := decide_eq_true ⟨low, high⟩
    simp only [readWords, range, inside, Bool.true_and, Option.isNone_none, if_true, Bool.true_or]

end Sys2Proof.Machine
end

section
/-! PROOFS. The Claim Unit: the own claim, its window and the routes of an operator close (O34), the contests with what they
bring (O35), and the two timer rows (O36). -/
namespace Sys2Proof.Machine

/-! ### A raise (R119) -/

/-- The claim a raise would set. -/
def State.claimFor (s : State) (o : Origin) (restore : Bool) (x : Sec) (deadDead : Bool) : Claim :=
  { restore := restore, target := x, rank := claimRankOf s.cfg restore, origin := o, deadDead := deadDead }

theorem State.judgeRaise_of_lockout {s : State} {x : Sec} (held : s.top.locked x = true ∨ s.dbu.lockout = true)
    (o : Origin) (restore : Bool) : s.judgeRaise o restore x = .refusedLockout :=
  if_pos (by simpa using held)

theorem State.judgeRaise_of_clear {s : State} {x : Sec} (view : s.top.locked x = false) (own : s.dbu.lockout = false)
    (o : Origin) (restore : Bool) :
    s.judgeRaise o restore x =
      if restore = false ∧ targetSide s.cfg s.currentSet x = .live then .refusedLive
      else match s.clu.claim with
        | none => .raised
        | some c => if c.origin = o then .raised else .taken := by
  unfold State.judgeRaise
  rw [if_neg (by simp [view, own])]
  refine ite_of_iff (by simp) rfl ?_
  cases s.clu.claim <;> rfl

theorem State.judgeRaise_of_open {s : State} {x : Sec} (view : s.top.locked x = false) (own : s.dbu.lockout = false)
    (o : Origin) {restore : Bool} (target : restore = true ∨ targetSide s.cfg s.currentSet x ≠ .live) :
    (s.judgeRaise o restore x = .raised ↔ ∀ c, s.clu.claim = some c → c.origin = o) ∧
      (s.judgeRaise o restore x = .taken ↔ ∃ c, s.clu.claim = some c ∧ c.origin ≠ o) := by
  rw [State.judgeRaise_of_clear view own, if_neg (by
    rintro ⟨dead, live⟩
    cases target with
    | inl restores => cases dead.symm.trans restores
    | inr other => exact other live)]
  cases s.clu.claim with
  | none => simp
  | some c => by_cases same : c.origin = o <;> simp [same]

theorem State.cluRaise_clu (s : State) (o : Origin) (restore : Bool) (x : Sec) (dd : Bool) :
    (s.cluRaise o restore x dd).1.clu =
      if s.judgeRaise o restore x = .raised then s.clu.setClaim (s.claimFor o restore x dd) else s.clu := by
  unfold State.cluRaise
  dsimp only
  split <;> split <;> rfl

theorem State.cluRaise_only {o : Origin} (other : o ≠ .tru) (s : State) (restore : Bool) (x : Sec) (dd : Bool) :
    (s.cluRaise o restore x dd).1 = { s with clu := (s.cluRaise o restore x dd).1.clu } := by
  unfold State.cluRaise
  dsimp only
  rw [if_neg other]
  split <;> rfl

theorem Clu.setClaim_of_none {u : Clu} (free : u.claim = none) (n : Claim) : u.setClaim n = { u with claim := some n } := by
  unfold Clu.setClaim
  rw [free]

theorem Clu.setClaim_of_same {u : Clu} {c n : Claim} (held : u.claim = some c)
    (same : c.restore = n.restore ∧ c.target = n.target) : u.setClaim n = u := by
  unfold Clu.setClaim
  rw [held]
  exact if_pos same

theorem Clu.setClaim_of_replaced {u : Clu} {c n : Claim} (held : u.claim = some c)
    (other : ¬(c.restore = n.restore ∧ c.target = n.target)) :
    u.setClaim n = { u with claim := some n, won1 := false, won2 := false } := by
  unfold Clu.setClaim
  rw [held]
  exact if_neg other

/-! ### Cancels and withdrawals (R119, R120) -/

theorem State.cancelClaim_of_own {s : State} {o : Origin} (own : ∃ c, s.clu.claim = some c ∧ c.origin = o) :
    s.cancelClaim o = { s with clu := { s.clu with claim := none } } := by
  obtain ⟨c, held, origin⟩ := own
  exact if_pos (by simp [held, origin])

theorem State.cancelClaim_of_other {s : State} {o : Origin} (other : ∀ c, s.clu.claim = some c → c.origin ≠ o) :
    s.cancelClaim o = s := by
  refine if_neg ?_
  cases held : s.clu.claim with
  | none => simp
  | some c => simpa using other c held

/-- The own claim gone, and what was published of it spent. -/
def State.claimDropped (s : State) : State := { s with clu := { s.clu with claim := none, spent := true } }

theorem State.cluWithdraw_of_claim {s : State} {c : Claim} (held : s.clu.claim = some c) (w : WithdrawReason) :
    s.cluWithdraw w = s.claimDropped.tellClaimant c.origin (.withdrawn w) := by
  unfold State.cluWithdraw
  rw [held]
  rfl

theorem State.cluWithdrawals_of_none {s : State} (free : s.clu.claim = none) : s.cluWithdrawals = s := by
  unfold State.cluWithdrawals
  rw [free]

theorem State.cluWithdrawals_of_claim {s : State} {c : Claim} (held : s.clu.claim = some c) :
    s.cluWithdrawals =
      if s.top.locked c.target = true ∨ s.dbu.lockout = true then s.cluWithdraw .lockout
      else if c.restore = false ∧ targetSide s.cfg s.currentSet c.target = .live ∧ s.clu.inFlight = none then
        s.cluWithdraw .targetLive
      else s := by
  unfold State.cluWithdrawals
  rw [held]
  exact ite_of_iff (by simp) rfl (ite_of_iff (by simp [and_assoc]) rfl rfl)

/-! ### The operator claim's window (R126) -/

/-- An operator claim past its window: gone, its age at 4. -/
def State.windowClosed (s : State) : State := { s with clu := { s.clu with age := 4, claim := none, spent := true } }

theorem State.operatorClaim_iff (s : State) :
    s.operatorClaim = true ↔ ∃ c, s.clu.claim = some c ∧ c.origin = .operator := by
  simp [State.operatorClaim, Option.any_eq_true]

theorem State.cluWindow_of_rest {s : State} (rest : ¬(s.operatorClaim = true ∧ s.clu.raisedNow = false)) :
    s.cluWindow = s := if_neg (by simpa using rest)

theorem State.cluWindow_of_aging {s : State} (aging : s.operatorClaim = true ∧ s.clu.raisedNow = false) :
    s.cluWindow =
      if 3 ≤ s.clu.age ∧ s.clu.inFlight = none then s.windowClosed
      else { s with clu := { s.clu with age := min 4 (s.clu.age + 1) } } := by
  obtain ⟨c, held, origin⟩ := s.operatorClaim_iff.mp aging.1
  unfold State.cluWindow
  rw [if_pos (by simpa using aging)]
  by_cases due : 3 ≤ s.clu.age ∧ s.clu.inFlight = none
  · rw [if_pos due, if_pos ⟨by omega, due.2⟩,
      State.cluWithdraw_of_claim (show (s.withClu fun u => { u with age := min 4 (u.age + 1) }).clu.claim = some c from held),
      origin, show s.windowClosed = { s with clu := { s.clu with age := min 4 (s.clu.age + 1), claim := none, spent := true } }
        by rw [show min 4 (s.clu.age + 1) = 4 by omega]; rfl]
    rfl
  · rw [if_neg due, if_neg fun past => due ⟨by omega, past.2⟩]
    rfl

/-! ### The routes of an operator close (R126) -/

theorem operatorTarget_of_tie {c : Settings} (tie : c.role = some .tie) (r : ResultSet) :
    operatorTarget c r = if r.busClass ≠ .dead ∧ r.clsL = .dead then .two else .one :=
  if_pos ((Settings.isRole_iff ..).mpr tie)

theorem operatorTarget_of_other {c : Settings} (other : c.role ≠ some .tie) (r : ResultSet) :
    operatorTarget c r = c.ownSec :=
  if_neg fun tie => other ((Settings.isRole_iff ..).mp tie)

theorem State.cluOperator_of_pending {s : State} (pending : s.clu.pendingClose = true) :
    s.cluOperator = (s.closeForgotten).routeOperator := if_pos pending

/-- The last operator close result written as the pending close is taken. -/
theorem State.closeForgotten_operatorResult (s : State) (r : OperatorResult) :
    s.closeForgotten.operatorResult r =
      { s with clu := { s.clu with pendingClose := false, operatorResult := some (r, s.lkc.count) } } := rfl

theorem sourceLive_iff (c : Settings) (r : ResultSet) (x : Sec) :
    sourceLive c r x = true ↔ sourceSide c r x = .live ∧ sourceFrequency c r x ≠ 0 := by
  simp [sourceLive]

theorem State.routeOperator_of_sync {s : State} {x : Sec} (at_ : x = operatorTarget s.cfg s.currentSet)
    (target : targetSide s.cfg s.currentSet x = .live) (source : sourceLive s.cfg s.currentSet x = true) :
    s.routeOperator = (s.operatorResult .toSync).syuStart .operator := by
  subst at_
  unfold State.routeOperator
  simp only [target, (sourceLive_iff ..).mp source |>.1, source, if_true]

theorem State.routeOperator_of_claim {s : State} {x : Sec} (at_ : x = operatorTarget s.cfg s.currentSet)
    (target : targetSide s.cfg s.currentSet x = .dead)
    (source : sourceLive s.cfg s.currentSet x = true ∨
      (sourceSide s.cfg s.currentSet x = .dead ∧ s.cfg.deadDead = true)) :
    s.routeOperator = s.operatorRaise x (decide (sourceSide s.cfg s.currentSet x = .dead)) := by
  subst at_
  unfold State.routeOperator
  cases source with
  | inl live => simp only [target, (sourceLive_iff ..).mp live |>.1, live, if_true]; rfl
  | inr dead => simp only [target, dead.1, dead.2, if_true]; rfl

theorem State.routeOperator_of_deadDeadOff {s : State} {x : Sec} (at_ : x = operatorTarget s.cfg s.currentSet)
    (target : targetSide s.cfg s.currentSet x = .dead) (source : sourceSide s.cfg s.currentSet x = .dead)
    (off : s.cfg.deadDead = false) : s.routeOperator = s.operatorResult .deadDeadOff := by
  subst at_
  unfold State.routeOperator
  simp only [target, source, off]
  rfl

theorem State.routeOperator_of_undecided {s : State} {x : Sec} (at_ : x = operatorTarget s.cfg s.currentSet)
    (sides : targetSide s.cfg s.currentSet x = .indeterminate ∨
      (targetSide s.cfg s.currentSet x = .live ∧ sourceLive s.cfg s.currentSet x = false) ∨
      (targetSide s.cfg s.currentSet x = .dead ∧ sourceSide s.cfg s.currentSet x ≠ .dead ∧
        sourceLive s.cfg s.currentSet x = false)) : s.routeOperator = s.operatorResult .sidesUndecided := by
  subst at_
  unfold State.routeOperator
  dsimp only
  split
  case h_1 target source => rw [if_neg (by simp_all)]
  case h_2 target source => rw [if_neg (by simp_all)]
  case h_3 target source => simp_all
  case h_4 => rfl

/-- A raise that finds the pending close taken judges and sets what it would before. -/
theorem State.operatorRaise_closeForgotten (s : State) (x : Sec) (dd : Bool) :
    s.closeForgotten.operatorRaise x dd = { s with clu := { (s.cluRaise .operator false x dd).1.clu with
      pendingClose := false, age := 0, raisedNow := true,
      operatorResult := some
        (if (s.cluRaise .operator false x dd).2 = .raised then (if dd then .claimedDeadDead else .claimed)
          else .answer (s.cluRaise .operator false x dd).2, s.lkc.count) } } := by
  have judged : s.closeForgotten.judgeRaise .operator false x = s.judgeRaise .operator false x := rfl
  have answer : (s.cluRaise .operator false x dd).2 = s.judgeRaise .operator false x := rfl
  have answer' : (s.closeForgotten.cluRaise .operator false x dd).2 = s.judgeRaise .operator false x := rfl
  have set : (s.clu.setClaim (s.claimFor .operator false x dd)).pendingClose = s.clu.pendingClose ∧
      s.closeForgotten.clu.setClaim (s.claimFor .operator false x dd) =
        { s.clu.setClaim (s.claimFor .operator false x dd) with pendingClose := false } := by
    unfold Clu.setClaim
    rw [show s.closeForgotten.clu.claim = s.clu.claim from rfl]
    cases s.clu.claim with
    | none => exact ⟨rfl, rfl⟩
    | some c => dsimp only; split <;> exact ⟨rfl, rfl⟩
  have clu : (s.closeForgotten.cluRaise .operator false x dd).1 =
      { s with clu := { (s.cluRaise .operator false x dd).1.clu with pendingClose := false } } := by
    rw [State.cluRaise_only (by decide), State.cluRaise_clu, State.cluRaise_clu, judged]
    split
    · exact congrArg (fun u => { s with clu := u }) set.2
    · rfl
  unfold State.operatorRaise
  dsimp only
  rw [answer', answer, clu]
  split <;> rfl

/-- Settles O34: the answers to a raise, the withdrawals, the window and the routes, each by its cases. -/
theorem claimsAreRaisedWithdrawnAndRouted : Obligations.ClaimsAreRaisedWithdrawnAndRouted := by
  refine ⟨fun s o restore x dd => ⟨fun held => s.judgeRaise_of_lockout held o restore, fun view own => ⟨?live, ?openTarget⟩, ?other,
      ?raised, fun notTru => State.cluRaise_only notTru ..⟩, fun c => ?ranks, fun s o =>
      ⟨State.cancelClaim_of_own, State.cancelClaim_of_other⟩,
    fun s => ⟨State.cluWithdrawals_of_none, fun c held => ⟨fun lockout => ?lockout, fun view own => ?targetLive⟩, fun o => ?closed⟩,
    fun s c held origin => ?window, fun c r => ⟨fun other => operatorTarget_of_other other r, fun tie => ?tie⟩,
    fun s => ⟨fun none => if_neg (by simp [none]), fun pending x target => ?routes⟩⟩
  case live =>
    intro dead live
    exact (State.judgeRaise_of_clear view own o restore).trans (if_pos ⟨dead, live⟩)
  case openTarget => exact State.judgeRaise_of_open view own o
  case other => exact fun refused => (State.cluRaise_clu ..).trans (if_neg refused)
  case raised =>
    intro raised
    have set := (State.cluRaise_clu s o restore x dd).trans (if_pos raised)
    rw [set]
    exact ⟨fun free => Clu.setClaim_of_none free _,
      fun c held => ⟨fun same => Clu.setClaim_of_same held same, fun other => Clu.setClaim_of_replaced held other⟩⟩
  case ranks =>
    refine ⟨rfl, fun role => ?_, fun role => ?_, fun role => ?_, fun role => ?_⟩ <;> simp [claimRankOf, role]
  case lockout =>
    rw [State.cluWithdrawals_of_claim held, if_pos lockout]
    exact State.cluWithdraw_of_claim held .lockout
  case targetLive =>
    rw [State.cluWithdrawals_of_claim held, if_neg (by simp [view, own])]
    exact ⟨fun live => (if_pos live).trans (State.cluWithdraw_of_claim held .targetLive), fun other => if_neg other⟩
  case closed => exact State.cluWithdraw_claim ..
  case window =>
    have operator : s.operatorClaim = true := s.operatorClaim_iff.mpr ⟨c, held, origin⟩
    refine ⟨fun now => State.cluWindow_of_rest (by simp [now]), fun later young => ?_, fun later old free => ?_⟩
    · rw [State.cluWindow_of_aging ⟨operator, later⟩, if_neg]
      rintro ⟨due, free⟩
      exact young.elim (by omega) (· free)
    · rw [State.cluWindow_of_aging ⟨operator, later⟩, if_pos ⟨old, free⟩]
      rfl
  case tie =>
    rw [operatorTarget_of_tie tie]
    split
    case isTrue both => exact ⟨fun _ => ⟨both.2, both.1⟩, fun _ => rfl⟩
    case isFalse other => exact ⟨(nomatch ·), fun both => absurd both.symm other⟩
  case routes =>
    rw [State.cluOperator_of_pending pending]
    refine ⟨fun target' source => ?_, fun target' source dd isDead => ?_, fun target' source off => ?_, fun undecided => ?_⟩
    · exact State.routeOperator_of_sync (s := s.closeForgotten) target target' source
    · rw [isDead, ← s.operatorRaise_closeForgotten]
      exact State.routeOperator_of_claim (s := s.closeForgotten) target target' source
    · exact State.routeOperator_of_deadDeadOff (s := s.closeForgotten) target target' source off
    · exact State.routeOperator_of_undecided (s := s.closeForgotten) target undecided

/-! ### The lowest key (R121, R127) -/

/-- The pair (key, station number) of x undercuts that of y. -/
def Undercuts (x y : Nat × Station) : Prop := x.1 < y.1 ∨ (x.1 = y.1 ∧ x.2 < y.2)

theorem undercuts_iff (x y : Nat × Station) : Undercuts x y ↔ x.1 < y.1 ∨ (x.1 = y.1 ∧ x.2.val < y.2.val) := Iff.rfl

theorem Undercuts.irrefl (x : Nat × Station) : ¬Undercuts x x := by
  rw [undercuts_iff]
  omega

theorem Undercuts.trans {x y z : Nat × Station} (h : Undercuts x y) (k : Undercuts y z) : Undercuts x z := by
  rw [undercuts_iff] at *
  omega

/-- Of two different pairs one undercuts the other. -/
theorem Undercuts.total {x y : Nat × Station} (above : ¬Undercuts x y) : y = x ∨ Undercuts y x := by
  rw [undercuts_iff] at *
  by_cases same : y.1 = x.1 ∧ y.2.val = x.2.val
  · exact .inl (Prod.ext same.1 (Fin.ext same.2))
  · exact .inr (by omega)

/-- A search that has met a candidate ends on one of those met that none of them undercuts. -/
theorem foldl_lowest (l : List (Nat × Station)) (best : Nat × Station) :
    ∃ low, l.foldl (init := some best)
        (fun best x =>
          match best with
          | none => some x
          | some b => if x.1 < b.1 ∨ (x.1 = b.1 ∧ x.2 < b.2) then some x else some b) = some low ∧
      low ∈ best :: l ∧ ∀ y ∈ best :: l, ¬Undercuts y low := by
  induction l generalizing best with
  | nil => exact ⟨best, rfl, List.mem_cons_self .., fun y here => by
      obtain rfl := List.mem_singleton.mp here
      exact Undercuts.irrefl _⟩
  | cons x l ih =>
    by_cases lower : Undercuts x best
    · obtain ⟨low, found, among, lowest⟩ := ih x
      refine ⟨low, (congrArg (l.foldl _ ·) (if_pos lower)).trans found, List.mem_cons_of_mem _ among, fun y here => ?_⟩
      cases List.mem_cons.mp here with
      | inl isBest =>
        subst isBest
        exact fun under => lowest x (List.mem_cons_self ..) (lower.trans under)
      | inr later => exact lowest y later
    · obtain ⟨low, found, among, lowest⟩ := ih best
      refine ⟨low, (congrArg (l.foldl _ ·) (if_neg lower)).trans found, ?_, fun y here => ?_⟩
      · cases List.mem_cons.mp among with
        | inl isBest => exact isBest ▸ List.mem_cons_self ..
        | inr later => exact List.mem_cons_of_mem _ (List.mem_cons_of_mem _ later)
      · cases List.mem_cons.mp here with
        | inl isBest => exact isBest ▸ lowest best (List.mem_cons_self ..)
        | inr rest =>
          cases List.mem_cons.mp rest with
          | inl isX =>
            subst isX
            have floor := lowest best (List.mem_cons_self ..)
            obtain isBest | under := Undercuts.total lower
            · exact isBest ▸ floor
            · exact fun below => floor (under.trans below)
          | inr later => exact lowest y (List.mem_cons_of_mem _ later)

theorem lowestKey_spec {l : List (Nat × Station)} {k : Station} (found : lowestKey l = some k) :
    ∃ n, (n, k) ∈ l ∧ ∀ y ∈ l, ¬Undercuts y (n, k) := by
  cases l with
  | nil => cases found
  | cons x l =>
    obtain ⟨⟨n, j⟩, low, among, lowest⟩ := foldl_lowest l x
    have same : some j = some k := (congrArg (Option.map Prod.snd) low).symm.trans found
    cases same
    exact ⟨n, among, lowest⟩

theorem lowestKey_of_mem {l : List (Nat × Station)} {x : Nat × Station} (mem : x ∈ l) : ∃ k, lowestKey l = some k := by
  cases l with
  | nil => cases mem
  | cons y l =>
    obtain ⟨low, found, -⟩ := foldl_lowest l y
    exact ⟨low.2, congrArg (Option.map Prod.snd) found⟩

/-- Among stations with at most one key each, the one found has the lowest pair (key, station number). -/
theorem lowestKey_eq_some_iff (f : Station → Option Nat) (k : Station) :
    lowestKey (allStations.filterMap fun j => (f j).map (·, j)) = some k ↔
      ∃ n, f k = some n ∧ ∀ (j : Station) (m : Nat), j ≠ k → f j = some m → n < m ∨ (n = m ∧ k < j) := by
  have mem (n : Nat) (j : Station) : (n, j) ∈ allStations.filterMap (fun j => (f j).map (·, j)) ↔ f j = some n := by
    simp only [List.mem_filterMap, mem_allStations, true_and, Option.map_eq_some_iff, Prod.mk.injEq]
    constructor
    · rintro ⟨_, _, key, rfl, rfl⟩
      exact key
    · exact fun key => ⟨j, n, key, rfl, rfl⟩
  constructor
  · intro found
    obtain ⟨n, here, lowest⟩ := lowestKey_spec found
    refine ⟨n, (mem n k).mp here, fun j m other key => ?_⟩
    have floor := lowest (m, j) ((mem m j).mpr key)
    exact (Undercuts.total floor).resolve_left fun same => other (Prod.mk.inj same).2.symm
  · rintro ⟨n, key, lowest⟩
    obtain ⟨j, found⟩ := lowestKey_of_mem ((mem n k).mpr key)
    obtain ⟨m, here, floor⟩ := lowestKey_spec found
    by_cases same : j = k
    · exact same ▸ found
    · exact absurd (lowest j m same ((mem m j).mp here)) (floor (n, k) ((mem n k).mpr key))

/-! ### The contests (R121, R127) -/

/-- The key of a station in the dead-bus contest of a section: the rank its FRESH record's claim shows. -/
def State.deadBusKey (s : State) (x : Sec) (k : Station) : Option Nat :=
  (s.freshRec k).bind fun r => if r.claim = .deadBus ∧ r.claimTarget = x then some r.claimRank.val else none

theorem State.deadBusWinner_eq (s : State) (x : Sec) :
    s.deadBusWinner x = lowestKey (allStations.filterMap fun k => (s.deadBusKey x k).map (·, k)) := by
  unfold State.deadBusWinner
  refine congrArg (fun key => lowestKey (allStations.filterMap key)) (funext fun k => ?_)
  unfold State.deadBusKey
  cases s.freshRec k with
  | none => rfl
  | some r => dsimp only [Option.bind_some]; split <;> rfl

theorem State.deadBusKey_iff (s : State) (x : Sec) (k : Station) (n : Nat) :
    s.deadBusKey x k = some n ↔
      ∃ r, s.freshRec k = some r ∧ r.claim = .deadBus ∧ r.claimTarget = x ∧ r.claimRank.val = n := by
  simp [State.deadBusKey, Option.bind_eq_some_iff, and_assoc]

theorem State.deadBusWinner_iff (s : State) (x : Sec) (k : Station) :
    s.deadBusWinner x = some k ↔
      ∃ r, s.freshRec k = some r ∧ r.claim = .deadBus ∧ r.claimTarget = x ∧
        ∀ (j : Station) (q : BayRecord), j ≠ k → s.freshRec j = some q → q.claim = .deadBus → q.claimTarget = x →
          r.claimRank < q.claimRank ∨ (r.claimRank = q.claimRank ∧ k < j) := by
  rw [State.deadBusWinner_eq, lowestKey_eq_some_iff]
  simp only [State.deadBusKey_iff, Fin.lt_def, Fin.ext_iff]
  constructor
  · rintro ⟨_, ⟨r, fresh, claims, target, rfl⟩, lowest⟩
    exact ⟨r, fresh, claims, target, fun j q other fresh' claims' target' =>
      lowest j q.claimRank.val other ⟨q, fresh', claims', target', rfl⟩⟩
  · rintro ⟨r, fresh, claims, target, lowest⟩
    refine ⟨r.claimRank.val, ⟨r, fresh, claims, target, rfl⟩, ?_⟩
    rintro j _ other ⟨q, fresh', claims', target', rfl⟩
    exact lowest j q other fresh' claims' target'

/-- The key of a station in the restore contest of an island: the shed priority of a feeder that claims in it. -/
def State.restoreKey (s : State) (x : Sec) (k : Station) : Option Nat :=
  (s.freshRec k).bind fun r =>
    if r.role = .feeder ∧ r.claim = .restore ∧ inIsland s.top.map x r.claimTarget = true then some (priorityOf r) else none

theorem inIsland_iff (m : IslandMap) (x y : Sec) : inIsland m x y = true ↔ y = x ∨ m = .joined := by
  simp only [inIsland, Bool.or_eq_true, beq_iff_eq]
  exact or_congr_left ⟨Eq.symm, Eq.symm⟩

theorem State.restoreKey_iff (s : State) (x : Sec) (k : Station) (n : Nat) :
    s.restoreKey x k = some n ↔
      ∃ r, s.freshRec k = some r ∧ r.role = .feeder ∧ r.claim = .restore ∧ (r.claimTarget = x ∨ s.top.map = .joined) ∧
        priorityOf r = n := by
  simp [State.restoreKey, Option.bind_eq_some_iff, inIsland_iff, and_assoc]

theorem State.restoreWinner_eq {s : State} (known : s.top.map ≠ .unknown) (x : Sec) :
    s.restoreWinner x = lowestKey (allStations.filterMap fun k => (s.restoreKey x k).map (·, k)) := by
  unfold State.restoreWinner
  refine (if_neg known).trans (congrArg (fun key => lowestKey (allStations.filterMap key)) (funext fun k => ?_))
  unfold State.restoreKey
  cases s.freshRec k with
  | none => rfl
  | some r => dsimp only [Option.bind_some]; split <;> rfl

theorem State.restoreWinner_iff {s : State} (known : s.top.map ≠ .unknown) (x : Sec) (k : Station) :
    s.restoreWinner x = some k ↔
      ∃ r, s.freshRec k = some r ∧ r.role = .feeder ∧ r.claim = .restore ∧
        (r.claimTarget = x ∨ s.top.map = .joined) ∧
        ∀ (j : Station) (q : BayRecord), j ≠ k → s.freshRec j = some q → q.role = .feeder → q.claim = .restore →
          (q.claimTarget = x ∨ s.top.map = .joined) →
          priorityOf r < priorityOf q ∨ (priorityOf r = priorityOf q ∧ k < j) := by
  rw [State.restoreWinner_eq known, lowestKey_eq_some_iff]
  simp only [State.restoreKey_iff]
  constructor
  · rintro ⟨_, ⟨r, fresh, role, claims, target, rfl⟩, lowest⟩
    exact ⟨r, fresh, role, claims, target, fun j q other fresh' role' claims' target' =>
      lowest j (priorityOf q) other ⟨q, fresh', role', claims', target', rfl⟩⟩
  · rintro ⟨r, fresh, role, claims, target, lowest⟩
    refine ⟨priorityOf r, ⟨r, fresh, role, claims, target, rfl⟩, ?_⟩
    rintro j _ other ⟨q, fresh', role', claims', target', rfl⟩
    exact lowest j q other fresh' role' claims' target'

/-! ### The conditions of a close, and its request (R122, R123, R129) -/

theorem State.allFresh_iff (s : State) (m : Option StationSet) :
    s.allFresh m = true ↔ ∃ set, m = some set ∧ ∀ k : Station, set.getLsbD k.val = true → s.status k = .fresh := by
  cases m with
  | none => simp [State.allFresh]
  | some set =>
    simp only [State.allFresh, StationSet.has, List.all_eq_true, mem_allStations, forall_const, Bool.or_eq_true,
      Bool.not_eq_true', beq_iff_eq, Option.some.injEq, exists_eq_left']
    exact forall_congr' fun k => by cases set.getLsbD k.val <;> simp

theorem State.othersOpen_iff (s : State) (x : Sec) :
    s.othersOpen x = true ↔ ∃ set, s.top.expected x = some set ∧
      ∀ (k : Station) (r : BayRecord), set.getLsbD k.val = true → k ≠ s.cfg.own → s.heldRec k = some r →
        r.role = .incomer → r.summary = .opened := by
  unfold State.othersOpen
  cases s.top.expected x with
  | none => simp
  | some set =>
    simp only [StationSet.has, List.all_eq_true, mem_allStations, forall_const, Bool.or_eq_true, Bool.not_eq_true',
      beq_iff_eq, bne_iff_ne, Option.all_eq_true, Option.some.injEq, exists_eq_left']
    refine forall_congr' fun k => ?_
    constructor
    · rintro passes r member other held incomer
      rcases passes with (out | own) | peers
      · exact absurd (member.symm.trans out) (by decide)
      · exact absurd own other
      · exact (peers r held).resolve_left fun ne => ne incomer
    · intro passes
      by_cases own : k = s.cfg.own
      · exact .inl (.inr own)
      · cases member : set.getLsbD k.val with
        | false => exact .inl (.inl rfl)
        | true => exact .inr fun r held => (Decidable.em (r.role = .incomer)).symm.imp id (passes r member own held)

theorem State.sourceReady_iff (s : State) (x : Sec) (dd : Bool) :
    s.sourceReady x dd = true ↔
      if dd then sourceSide s.cfg s.currentSet x = .dead
      else sourceSide s.cfg s.currentSet x = .live ∧ sourceFrequency s.cfg s.currentSet x ≠ 0 := by
  cases dd <;> simp [State.sourceReady, sourceLive]

theorem State.deadBusReady_iff (s : State) (x : Sec) (dd : Bool) :
    s.deadBusReady x dd = true ↔
      s.clu.inFlight = none ∧
      (∃ set, s.top.expected x = some set ∧
        (∀ k : Station, set.getLsbD k.val = true → s.status k = .fresh) ∧
        ∀ (k : Station) (r : BayRecord), set.getLsbD k.val = true → k ≠ s.cfg.own → s.heldRec k = some r →
          r.role = .incomer → r.summary = .opened) ∧
      s.top.locked x = false ∧ s.dbu.lockout = false ∧ s.currentSet.meas = .valid ∧
      targetSide s.cfg s.currentSet x = .dead ∧
      (if dd then sourceSide s.cfg s.currentSet x = .dead
        else sourceSide s.cfg s.currentSet x = .live ∧ sourceFrequency s.cfg s.currentSet x ≠ 0) := by
  have members : (s.allFresh (s.top.expected x) = true ∧ s.othersOpen x = true) ↔
      ∃ set, s.top.expected x = some set ∧
        (∀ k : Station, set.getLsbD k.val = true → s.status k = .fresh) ∧
        ∀ (k : Station) (r : BayRecord), set.getLsbD k.val = true → k ≠ s.cfg.own → s.heldRec k = some r →
          r.role = .incomer → r.summary = .opened := by
    rw [State.allFresh_iff, State.othersOpen_iff]
    constructor
    · rintro ⟨⟨set, known, fresh⟩, other, known', opened⟩
      cases known.symm.trans known'
      exact ⟨set, known, fresh, opened⟩
    · rintro ⟨set, known, fresh, opened⟩
      exact ⟨⟨set, known, fresh⟩, set, known, opened⟩
  rw [← members, ← State.sourceReady_iff]
  simp only [State.deadBusReady, Bool.and_eq_true, Option.isNone_iff_eq_none, Bool.not_eq_true', beq_iff_eq, and_assoc]

theorem State.cluMayRequest_iff (s : State) : s.cluMayRequest = true ↔ s.clu.spent = false ∧ s.bcu.endedNow = false := by
  simp [State.cluMayRequest]

theorem State.restoreReady_iff (s : State) (x : Sec) :
    s.restoreReady x = true ↔ s.clu.inFlight = none ∧ s.restoreDelayOut x = true ∧ s.top.locked x = false ∧
      s.dbu.lockout = false ∧ s.currentSet.meas = .valid ∧ s.currentSet.busClass = .live := by
  simp [State.restoreReady, and_assoc]

theorem State.restoreWon_iff (s : State) :
    s.restoreWon = true ↔ s.restoreWinner s.cfg.ownSec = some s.cfg.own ∧
      ∃ r, s.freshRec s.cfg.own = some r ∧ r.claim = .restore := by
  simp [State.restoreWon, Option.any_eq_true]

theorem Clu.won_eq (u : Clu) (x : Sec) : u.won x = if x = .one then u.won1 else u.won2 := by cases x <;> rfl

/-- What one published claim has to meet for a request onto a dead section (R121 to R123). -/
def State.DeadBusDue (s : State) (x : Sec) (c : Claim) : Prop :=
  s.clu.published = some c ∧ c.restore = false ∧ c.target = x ∧ s.clu.spent = false ∧ s.bcu.endedNow = false ∧
    s.deadBusWinner x = some s.cfg.own ∧ (if x = .one then s.clu.won1 else s.clu.won2) = true ∧
    s.deadBusReady x c.deadDead = true

theorem State.cluDeadBus_of_due {s : State} {x : Sec} {c : Claim} (due : s.DeadBusDue x c) :
    s.cluDeadBus x = s.cluRequest (if c.deadDead then .deadDead else .deadBus) x c.origin := by
  obtain ⟨published, dead, target, kept, none, winner, won, ready⟩ := due
  unfold State.cluDeadBus
  rw [published]
  exact if_pos ⟨s.cluMayRequest_iff.mpr ⟨kept, none⟩, winner, (Clu.won_eq ..).trans won, dead, target, ready⟩

theorem State.cluDeadBus_of_not_due {s : State} {x : Sec} (rest : ¬∃ c, s.DeadBusDue x c) : s.cluDeadBus x = s := by
  unfold State.cluDeadBus
  cases published : s.clu.published with
  | none => rfl
  | some c =>
    refine if_neg ?_
    rintro ⟨may, winner, won, dead, target, ready⟩
    obtain ⟨kept, none⟩ := s.cluMayRequest_iff.mp may
    exact rest ⟨c, published, dead, target, kept, none, winner, (Clu.won_eq ..).symm.trans won, ready⟩

theorem State.closeRequest_clu (s : State) (u : CloseUnit) : (s.closeRequest u).1.clu = s.clu := by
  unfold State.closeRequest
  split
  · rfl
  · cases s.judgeClose <;> rfl

theorem State.cluRequest_of_accepted {s : State} (accepted : (s.closeRequest .clu).2 = none) (k : CloseKind) (x : Sec)
    (o : Origin) :
    s.cluRequest k x o =
      (s.closeRequest .clu).1.withClu fun u => { u with inFlight := some { kind := k, target := x, origin := o } } := by
  unfold State.cluRequest
  cases request : s.closeRequest .clu with
  | mk t r =>
    rw [request] at accepted
    cases accepted
    rfl

theorem State.cluRequest_of_refused {s : State} {why : CloseRefusal} (refused : (s.closeRequest .clu).2 = some why)
    (k : CloseKind) (x : Sec) (o : Origin) :
    s.cluRequest k x o = (s.closeRequest .clu).1.cluEnd o (.refusal why) := by
  unfold State.cluRequest
  cases request : s.closeRequest .clu with
  | mk t r =>
    rw [request] at refused
    cases refused
    rfl

/-- A refusal handed to the origin of a claim changes of CLU the last operator close result alone, and nothing of BCU. -/
theorem State.tellClaimant_refusal (s : State) (o : Origin) (why : CloseRefusal) :
    (s.tellClaimant o (.refusal why)).clu =
        { s.clu with operatorResult := (s.tellClaimant o (.refusal why)).clu.operatorResult } ∧
      (s.tellClaimant o (.refusal why)).bcu = s.bcu := by
  refine ⟨?_, (s.told_tellClaimant o _).bcu⟩
  cases o with
  | tru =>
    unfold State.tellClaimant
    rw [s.truHear_noted rfl]
    dsimp only
    split <;> rfl
  | gcu =>
    unfold State.tellClaimant
    dsimp only
    rw [s.gcuHear_noted rfl]
    split <;> rfl
  | fcu =>
    unfold State.tellClaimant State.fcuHear
    dsimp only
    split
    · rfl
    · cases why <;> rfl
  | operator => rfl

theorem State.cluDrop_refusal (s : State) (o : Origin) (why : CloseRefusal) :
    (s.cluDrop o (.refusal why)).clu = { s.clu with
      claim := none, spent := (s.cluDrop o (.refusal why)).clu.spent,
      operatorResult := (s.cluDrop o (.refusal why)).clu.operatorResult } := by
  unfold State.cluDrop
  split
  case h_1 free => exact congrArg (fun c => { s.clu with claim := c }) free
  case h_2 c held =>
    dsimp only
    split
    · rfl
    · rw [(State.tellClaimant_refusal ..).1]
      rfl

theorem State.cluEnd_refusal (s : State) (o : Origin) (why : CloseRefusal) :
    (s.cluEnd o (.refusal why)).clu = { s.clu with
      claim := none, lastOutcome := some (.refusal why), won1 := false, won2 := false, failed := true,
      spent := (s.cluEnd o (.refusal why)).clu.spent,
      operatorResult := (s.cluEnd o (.refusal why)).clu.operatorResult } := by
  unfold State.cluEnd
  rw [State.cluDrop_refusal, (State.tellClaimant_refusal ..).1]
  rfl

theorem State.cluRestore_of_ready {s : State} (may : s.cluMayRequest = true) (won : s.restoreWon = true)
    (ready : s.restoreReady s.cfg.ownSec = true) : s.cluRestore = s.cluRequest .restore s.cfg.ownSec .fcu :=
  if_pos (by simp [may, won, ready])

theorem State.cluRestore_of_rest {s : State}
    (rest : ¬(s.cluMayRequest = true ∧ s.restoreWon = true ∧ s.restoreReady s.cfg.ownSec = true)) : s.cluRestore = s :=
  if_neg fun due => rest (by simpa only [Bool.and_eq_true, and_assoc] using due)

/-! ### The abort and restore tracking (R124, R128) -/

theorem deadTarget_iff (f : InFlight) : deadTarget f = true ↔ f.kind ≠ .restore := by
  unfold deadTarget
  cases f.kind <;> decide

theorem State.cluAbort_of_rest {s : State} (rest : ∀ f, s.clu.inFlight = some f → f.kind = .restore ∨ s.bcu.state ≠ .closing ∨
    targetSide s.cfg s.currentSet f.target ≠ .live) : s.cluAbort = s := by
  unfold State.cluAbort
  cases inFlight : s.clu.inFlight with
  | none => rfl
  | some f =>
    refine if_neg ?_
    rintro ⟨dead, closing, live⟩
    rcases rest f inFlight with restore | away | dark
    · exact (deadTarget_iff f).mp dead restore
    · exact away closing
    · exact dark live

theorem State.cluAbort_of_free {s : State} (free : s.clu.inFlight = none) : s.cluAbort = s := by
  unfold State.cluAbort
  rw [free]

theorem State.feederClosed_iff (s : State) (x : Sec) :
    s.feederClosed x = true ↔ ∃ (k : Station) (r : BayRecord), s.usableRec k = some r ∧ r.role = .feeder ∧
      r.summary = .closed ∧ r.sect = some x ∧ s.clu.lastSeen.get k ≠ some .closed := by
  simp only [State.feederClosed, List.any_eq_true, mem_allStations, true_and, Bool.and_eq_true, State.usable,
    Option.any_eq_true, beq_iff_eq, bne_iff_ne, ← exists_and_right, and_assoc]

theorem State.lastClose_of_joined {s : State} (joined : s.top.map = .joined) (x : Sec) :
    s.lastClose x = laterClose s.lkc.count s.clu.lastClose1 s.clu.lastClose2 := if_pos joined

theorem laterClose_eq_or (now a b : Count) : laterClose now a b = a ∨ laterClose now a b = b := by
  unfold laterClose
  split
  · exact .inl rfl
  · exact .inr rfl

theorem toNat_sub_laterClose (now a b : Count) :
    (now - laterClose now a b).toNat = min (now - a).toNat (now - b).toNat := by
  unfold laterClose
  split
  case isTrue later => exact (Nat.min_eq_left later).symm
  case isFalse earlier => exact (Nat.min_eq_right (Nat.le_of_not_le earlier)).symm

/-- Settles O35: the contests by the lowest key, the requests by their conditions, and the tracking by its definitions. -/
theorem contestsDecideTheCloses : Obligations.ContestsDecideTheCloses := by
  refine ⟨State.deadBusWinner_iff, fun s x => ⟨fun unknown => if_pos unknown, fun known => State.restoreWinner_iff known x⟩,
    fun s => ⟨rfl, ?won1, ?won2⟩, State.deadBusReady_iff, fun c r x => ?sides, fun s x =>
      ⟨fun c published dead target kept none winner won ready =>
          State.cluDeadBus_of_due ⟨published, dead, target, kept, none, winner, won, ready⟩,
        State.cluDeadBus_of_not_due⟩,
    fun s k x o => ⟨fun accepted => ?accepted, fun why refused => ?refused⟩, fun s => ?abort, fun s => ⟨?restores, ?stands⟩,
    fun s => ⟨rfl, fun k => Vector.getElem_ofFn .., s.feederClosed_iff, fun x => decide_eq_true_iff,
      fun apart => ⟨if_neg apart, if_neg apart⟩, fun joined x => ?later⟩⟩
  case won1 => simp [State.cluWon]
  case won2 => simp [State.cluWon]
  case sides =>
    refine ⟨fun other => ?_, fun tie => ?_⟩
    · have no : ¬(c.isRole .tie ∧ x = .two) := fun tie => other ⟨(Settings.isRole_iff ..).mp tie.1, tie.2⟩
      exact ⟨if_neg no, if_neg no, if_neg no⟩
    · have yes : c.isRole .tie ∧ x = .two := ⟨(Settings.isRole_iff ..).mpr tie.1, tie.2⟩
      exact ⟨if_pos yes, if_pos yes, if_pos yes⟩
  case accepted =>
    rw [State.cluRequest_of_accepted accepted]
    unfold State.withClu
    rw [State.closeRequest_clu]
  case refused =>
    rw [State.cluRequest_of_refused refused]
    refine ⟨?_, ?_, ?_, ?_, ?_, (State.told_cluEnd ..).bcu⟩ <;> rw [State.cluEnd_refusal]
    exact (congrArg Clu.inFlight (s.closeRequest_clu .clu) :)
  case abort =>
    refine ⟨fun f inFlight dead closing live => ?_, State.cluAbort_of_rest⟩
    unfold State.cluAbort
    rw [inFlight]
    exact if_pos ⟨(deadTarget_iff f).mpr dead, closing, live⟩
  case restores =>
    intro kept none winner published free out view own valid live
    exact State.cluRestore_of_ready (s.cluMayRequest_iff.mpr ⟨kept, none⟩) (s.restoreWon_iff.mpr ⟨winner, published⟩)
      ((s.restoreReady_iff _).mpr ⟨free, out, view, own, valid, live⟩)
  case stands =>
    refine fun missing => if_neg fun due => missing ?_
    simp only [Bool.and_eq_true, State.cluMayRequest_iff, State.restoreWon_iff, State.restoreReady_iff] at due
    obtain ⟨⟨⟨kept, none⟩, winner, -⟩, ready⟩ := due
    exact ⟨kept, none, winner, ready⟩
  case later =>
    rw [State.lastClose_of_joined joined]
    exact ⟨laterClose_eq_or .., toNat_sub_laterClose ..⟩

/-! ### What a timer row reads and what stands again (log 11) -/

/-- The health of a cycle close reaches four items of TRU (R174). -/
theorem State.truHealth_eq (s : State) : s.truHealth = { s with tru := { s.tru with
    healthy := s.truHealth.tru.healthy, judged := s.truHealth.tru.judged, healthLine := s.truHealth.tru.healthLine,
    run := s.truHealth.tru.run } } := by
  unfold State.truHealth
  split <;> rfl

theorem State.truHealth_top (s : State) : s.truHealth.top = s.top := by rw [s.truHealth_eq]
theorem State.truHealth_clu (s : State) : s.truHealth.clu = s.clu := by rw [s.truHealth_eq]
theorem State.truHealth_syu (s : State) : s.truHealth.syu = s.syu := by rw [s.truHealth_eq]
theorem State.truHealth_gcu (s : State) : s.truHealth.gcu = s.gcu := by rw [s.truHealth_eq]
theorem State.truHealth_fcu (s : State) : s.truHealth.fcu = s.fcu := by rw [s.truHealth_eq]
theorem State.truHealth_tru (s : State) : s.truHealth.tru = { s.tru with
    healthy := s.truHealth.tru.healthy, judged := s.truHealth.tru.judged, healthLine := s.truHealth.tru.healthLine,
    run := s.truHealth.tru.run } := congrArg State.tru s.truHealth_eq

/-- The health as the cycle close of a row forms it stands in TRU. -/
theorem State.foretell_tru (s : State) : s.foretell.tru = s.tru := rfl

@[simp] theorem State.atClose_clu (s : State) : s.atClose.clu = { s.clu with raisedNow := false } := by
  rw [State.atClose, show ∀ t : State, t.foretell.clu = t.clu from fun _ => rfl, State.truHealth_clu]
  rfl

theorem State.atClose_syu (s : State) :
    s.atClose.syu = { s.syu with check := s.atClose.syu.check, startedNow := false } := by
  rw [State.atClose, show ∀ t : State, t.foretell.syu = t.syu from fun _ => rfl, State.truHealth_syu]
  rfl

@[simp] theorem State.atClose_gcu (s : State) : s.atClose.gcu = { s.gcu with enteredNow := false, heardNow := false } := by
  rw [State.atClose, show ∀ t : State, t.foretell.gcu = t.gcu from fun _ => rfl, State.truHealth_gcu]
  rfl

@[simp] theorem State.atClose_fcu (s : State) : s.atClose.fcu = { s.fcu with heardNow := false } := by
  rw [State.atClose, show ∀ t : State, t.foretell.fcu = t.fcu from fun _ => rfl, State.truHealth_fcu]
  rfl

theorem State.atClose_tru (s : State) : s.atClose.tru = { s.tru with
    enteredNow := false, heardNow := false, healthy := s.atClose.tru.healthy, judged := s.atClose.tru.judged,
    healthLine := s.atClose.tru.healthLine, run := s.atClose.tru.run } := by
  rw [State.atClose, State.foretell_tru]
  exact State.truHealth_tru _

theorem State.currentSet_of_kept {s t : State} (msu : t.msu = s.msu) (lkc : t.lkc = s.lkc) :
    t.currentSet = s.currentSet := by
  unfold State.currentSet
  rw [msu, lkc]

@[simp] theorem State.atClose_currentSet (s : State) : s.atClose.currentSet = s.currentSet :=
  State.currentSet_of_kept s.atClose_msu s.atClose_lkc

/-- A block's consequence at the cycle close of a row, with the results of the last CYCLE_CLOSE standing again. -/
theorem State.standing_of_cons {s t : State} (made : State.Consequence s.atClose t) : t.standing s = { s with
    bcu := { t.bcu with
      acceptedNow := s.bcu.acceptedNow, trippedNow := s.bcu.trippedNow, endedNow := s.bcu.endedNow },
    dbu := t.dbu,
    clu := { t.clu with raisedNow := s.clu.raisedNow },
    syu := { t.syu with check := s.syu.check, startedNow := s.syu.startedNow },
    gcu := { t.gcu with enteredNow := s.gcu.enteredNow, heardNow := s.gcu.heardNow },
    fcu := { t.fcu with heardNow := s.fcu.heardNow },
    tru := { t.tru with
      enteredNow := s.tru.enteredNow, heardNow := s.tru.heardNow, healthy := s.tru.healthy, judged := s.tru.judged,
      healthLine := s.tru.healthLine, run := s.tru.run },
    cfp := { s.cfp with attention := t.cfp.attention } } := by
  obtain ⟨rest, -⟩ := made
  rw [rest]
  unfold State.standing
  simp only [State.atClose_cfg, State.atClose_cvp, State.atClose_msu, State.atClose_cap, State.atClose_lkc,
    State.atClose_pim, State.atClose_pru, State.atClose_cfp, State.atClose_pending]

theorem State.cons_standing {s t : State} (made : State.Consequence s.atClose t) : State.Consequence s (t.standing s) := by
  refine ⟨State.standing_of_cons made, ?_⟩
  rw [← s.atClose_cfp]
  exact made.bits

theorem State.topClose_flag (s : State) :
    ∃ f, s.topClose.top = s.formTopology f ∧ (s.dbu.lockout = true → f = true) := by
  refine ⟨({ s with top := s.formTopology s.dbu.lockout } : State).lockoutAfter, rfl, fun own => ?_⟩
  rw [State.lockoutAfter_iff]
  exact .inl own

/-- TOP of a row is formed from the image, with the own lockout flag after its settings (R60). -/
theorem State.atClose_top (s : State) : ∃ f, s.atClose.top = s.formTopology f ∧ (s.dbu.lockout = true → f = true) := by
  obtain ⟨f, formed, own⟩ := s.clearMarks.topClose_flag
  have closed : s.atClose.top = s.clearMarks.topClose.top := by
    rw [State.atClose, show ∀ t : State, t.foretell.top = t.top from fun _ => rfl, State.truHealth_top]
    rfl
  refine ⟨f, (closed.trans formed).trans (State.formTopology_congr s.clearMarks_pim ?_ ?_ s.clearMarks_cfg f), ?_⟩
  · rw [State.clearMarks_lkc]
  · rw [State.clearMarks_lkc]
  · rwa [← s.clearMarks_dbu]

/-! ### The operator claim's expiry (R126) -/

/-- The operator claim's window ends at the cycle close whose acts leave this state. -/
def State.WindowDue (t : State) : Prop :=
  (∃ c, t.clu.claim = some c ∧ c.origin = .operator) ∧ t.clu.raisedNow = false ∧ t.clu.inFlight = none ∧ 3 ≤ t.clu.age

theorem exec_operatorClaimExpiry_of_due {s : State} (run : s.cfp.run = .run) (due : s.atClose.cluActs.WindowDue) {c : Claim}
    (held : s.clu.claim = some c) (origin : c.origin = .operator) :
    exec .operatorClaimExpiry s = .next s.windowClosed := by
  obtain ⟨operator, later, free, age⟩ := due
  show execOperatorClaimExpiry s = _
  refine congrArg Host.Outcome.next ((if_pos ?_).trans ?_)
  · simp only [Bool.and_eq_true, Bool.not_eq_true', Option.isNone_iff_eq_none, decide_eq_true_iff]
    exact ⟨⟨⟨⟨State.running_of_run run, (State.operatorClaim_iff _).mpr operator⟩, later⟩, free⟩, Nat.succ_le_succ age⟩
  · rw [State.cluWithdraw_of_claim (show (s.withClu fun u => { u with age := 4 }).clu.claim = some c from held), origin]
    rfl

theorem exec_operatorClaimExpiry_of_not_due {s : State} (rest : ¬s.atClose.cluActs.WindowDue) :
    exec .operatorClaimExpiry s = .next s := by
  refine congrArg Host.Outcome.next (if_neg fun due => rest ?_)
  simp only [Bool.and_eq_true, Bool.not_eq_true', Option.isNone_iff_eq_none, decide_eq_true_iff] at due
  obtain ⟨⟨⟨⟨-, operator⟩, later⟩, free⟩, age⟩ := due
  exact ⟨(State.operatorClaim_iff _).mp operator, later, free, Nat.le_of_succ_le_succ age⟩

theorem State.cluOperator_of_none {s : State} (none : s.clu.pendingClose = false) : s.cluOperator = s :=
  if_neg (by simp [none])

/-- CLU's tracking and winners, and the won-before flags: what its acts come to where none makes a request or aborts. -/
def State.cluQuiet (s : State) : State := s.cluTrack.cluWinners.cluWon

theorem State.withClu_freshRec (s : State) (f : Clu → Clu) (k : Station) : (s.withClu f).freshRec k = s.freshRec k := rfl
theorem State.withClu_deadBusWinner (s : State) (f : Clu → Clu) (x : Sec) :
    (s.withClu f).deadBusWinner x = s.deadBusWinner x := by
  unfold State.deadBusWinner
  rfl
theorem State.withClu_restoreWinner (s : State) (f : Clu → Clu) (x : Sec) :
    (s.withClu f).restoreWinner x = s.restoreWinner x := by
  unfold State.restoreWinner
  rfl
theorem State.withClu_restoreWon (s : State) (f : Clu → Clu) : (s.withClu f).restoreWon = s.restoreWon := by
  unfold State.restoreWon
  simp only [State.withClu_restoreWinner, State.withClu_freshRec, State.withClu_cfg]

theorem State.cluQuiet_clu (s : State) : s.cluQuiet.clu = { s.clu with
    lastClose1 := s.cluTrack.clu.lastClose1, lastClose2 := s.cluTrack.clu.lastClose2, lastSeen := s.cluTrack.clu.lastSeen,
    winner1 := s.cluQuiet.clu.winner1, winner2 := s.cluQuiet.clu.winner2,
    restoreWinner1 := s.cluQuiet.clu.restoreWinner1, restoreWinner2 := s.cluQuiet.clu.restoreWinner2,
    won1 := s.cluQuiet.clu.won1, won2 := s.cluQuiet.clu.won2 } := by
  unfold State.cluQuiet State.cluWon State.cluWinners State.cluTrack
  simp only [State.withClu_clu]

theorem State.cluQuiet_cfg (s : State) : s.cluQuiet.cfg = s.cfg := by
  simp only [State.cluQuiet, State.cluWon, State.cluWinners, State.cluTrack, State.withClu_cfg]

theorem State.cluQuiet_bcu (s : State) : s.cluQuiet.bcu = s.bcu := by
  simp only [State.cluQuiet, State.cluWon, State.cluWinners, State.cluTrack, State.withClu_bcu]

/-- A change of CLU that keeps the published claim with its marks and the close in flight keeps what is due. -/
theorem State.withClu_deadBusDue {s : State} {f : Clu → Clu}
    (kept : f s.clu = { f s.clu with
      published := s.clu.published, spent := s.clu.spent, won1 := s.clu.won1, won2 := s.clu.won2,
      inFlight := s.clu.inFlight }) (x : Sec) (c : Claim) :
    (s.withClu f).DeadBusDue x c ↔ s.DeadBusDue x c := by
  unfold State.DeadBusDue State.deadBusReady
  rw [State.withClu_deadBusWinner, show (s.withClu f).clu = f s.clu from rfl, kept]
  rfl

theorem State.withClu_restoreReady {s : State} {f : Clu → Clu}
    (kept : f s.clu = { f s.clu with
      inFlight := s.clu.inFlight, lastClose1 := s.clu.lastClose1, lastClose2 := s.clu.lastClose2 }) (x : Sec) :
    (s.withClu f).restoreReady x = s.restoreReady x := by
  unfold State.restoreReady State.restoreDelayOut State.lastClose
  rw [show (s.withClu f).clu = f s.clu from rfl, kept]
  rfl

theorem State.tracked_clu (s : State) : s.cluTrack.cluWinners.clu = { s.clu with
    lastClose1 := s.cluTrack.clu.lastClose1, lastClose2 := s.cluTrack.clu.lastClose2, lastSeen := s.cluTrack.clu.lastSeen,
    winner1 := s.cluTrack.cluWinners.clu.winner1, winner2 := s.cluTrack.cluWinners.clu.winner2,
    restoreWinner1 := s.cluTrack.cluWinners.clu.restoreWinner1,
    restoreWinner2 := s.cluTrack.cluWinners.clu.restoreWinner2 } := by
  unfold State.cluWinners State.cluTrack
  simp only [State.withClu_clu]

theorem State.tracked_pendingClose {s : State} (none : s.clu.pendingClose = false) :
    s.cluTrack.cluWinners.clu.pendingClose = false := by
  rw [State.tracked_clu]
  exact none

theorem State.tracked_deadBusDue (s : State) (x : Sec) (c : Claim) :
    s.cluTrack.cluWinners.DeadBusDue x c ↔ s.DeadBusDue x c :=
  (State.withClu_deadBusDue rfl x c).trans (State.withClu_deadBusDue rfl x c)

theorem State.cluActs_of_quiet {s : State} (pending : s.clu.pendingClose = false) (free : s.clu.inFlight = none)
    (deadBus : ∀ x, ¬∃ c, s.DeadBusDue x c)
    (restore : ¬(s.cluMayRequest = true ∧ s.restoreWon = true ∧ s.cluTrack.restoreReady s.cfg.ownSec = true)) :
    s.cluActs = s.cluQuiet.cluWithdrawals := by
  have none (x : Sec) : s.cluTrack.cluWinners.cluDeadBus x = s.cluTrack.cluWinners :=
    State.cluDeadBus_of_not_due (by simpa only [State.tracked_deadBusDue] using deadBus x)
  have abort : s.cluQuiet.cluAbort = s.cluQuiet := State.cluAbort_of_free (by rw [State.cluQuiet_clu]; exact free)
  have restores : s.cluQuiet.cluRestore = s.cluQuiet := by
    have won : s.cluQuiet.restoreWon = s.restoreWon := by
      rw [State.cluQuiet, State.cluWon, State.withClu_restoreWon, State.cluWinners, State.withClu_restoreWon, State.cluTrack,
        State.withClu_restoreWon]
    have ready : s.cluQuiet.restoreReady s.cfg.ownSec = s.cluTrack.restoreReady s.cfg.ownSec :=
      (State.withClu_restoreReady rfl _).trans (State.withClu_restoreReady rfl _)
    have may : s.cluQuiet.cluMayRequest = s.cluMayRequest := by
      rw [State.cluMayRequest, State.cluQuiet_clu, State.cluQuiet_bcu]
      exact rfl
    refine State.cluRestore_of_rest ?_
    rw [won, may, State.cluQuiet_cfg, ready]
    exact restore
  unfold State.cluActs
  rw [State.cluOperator_of_none (State.tracked_pendingClose pending), none, none]
  exact congrArg State.cluWithdrawals ((congrArg State.cluRestore abort).trans restores)

/-- Neither a claim without a close in flight, nor then an expiry of its window. -/
def State.Answered (t : State) : Prop := t.clu.claim = none ∨ t.clu.inFlight ≠ none

theorem State.Answered.not_due {t : State} (answered : t.Answered) : ¬t.WindowDue := by
  rintro ⟨⟨c, held, -⟩, -, free, -⟩
  rcases answered with none | inFlight
  · cases none.symm.trans held
  · exact inFlight free

theorem State.answered_cluRequest (s : State) (k : CloseKind) (x : Sec) (o : Origin) : (s.cluRequest k x o).Answered := by
  cases request : (s.closeRequest .clu).2 with
  | none =>
    rw [State.cluRequest_of_accepted request]
    exact .inr (Option.some_ne_none _)
  | some why =>
    refine .inl ?_
    rw [State.cluRequest_of_refused request, State.cluEnd_refusal]

theorem State.Answered.cluRestore {s : State} (answered : s.Answered) : s.cluRestore.Answered := by
  unfold State.cluRestore
  split
  · exact State.answered_cluRequest ..
  · exact answered

theorem State.Answered.cluWithdrawals {s : State} (answered : s.Answered) : s.cluWithdrawals.Answered := by
  cases held : s.clu.claim with
  | none => rw [State.cluWithdrawals_of_none held]; exact answered
  | some c =>
    rw [State.cluWithdrawals_of_claim held]
    split
    · exact .inl (State.cluWithdraw_claim ..)
    · split
      · exact .inl (State.cluWithdraw_claim ..)
      · exact answered

theorem State.cluDeadBus_of_other {s : State} {c : Claim} (published : s.clu.published = some c) {x : Sec}
    (ne : c.target ≠ x) : s.cluDeadBus x = s :=
  State.cluDeadBus_of_not_due fun ⟨_, published', _, target, _⟩ =>
    ne (Option.some.inj (published.symm.trans published') ▸ target)

/-- The dead-bus request of a cycle close: answered, and not aborted at once, its target side being DEAD (R122, R124). -/
theorem State.deadBusRequest_answered {s : State} {c : Claim} (due : s.DeadBusDue c.target c) :
    (s.cluDeadBus c.target).Answered ∧ (s.cluDeadBus c.target).clu.published = some c ∧
      (s.cluDeadBus c.target).cluWon.cluAbort = (s.cluDeadBus c.target).cluWon := by
  have ⟨published, _, _, _, _, _, _, ready⟩ := due
  obtain ⟨free, -, -, -, -, dead, -⟩ := (s.deadBusReady_iff c.target c.deadDead).mp ready
  rw [State.cluDeadBus_of_due due]
  refine ⟨State.answered_cluRequest .., ?_⟩
  have clu := s.closeRequest_clu .clu
  cases request : (s.closeRequest .clu).2 with
  | none =>
    rw [State.cluRequest_of_accepted request]
    refine ⟨(congrArg Clu.published clu).trans published, State.cluAbort_of_rest fun f inFlight => .inr (.inr ?_)⟩
    cases inFlight
    rw [(State.closeRequest_accepted request).2]
    show targetSide s.cfg s.currentSet c.target ≠ .live
    rw [dead]
    decide
  | some why =>
    rw [State.cluRequest_of_refused request]
    have ended := (s.closeRequest .clu).1.cluEnd_refusal c.origin why
    rw [clu] at ended
    refine ⟨by rw [ended]; exact published, State.cluAbort_of_free ?_⟩
    show ((s.closeRequest .clu).1.cluEnd c.origin (.refusal why)).clu.inFlight = none
    rw [ended]
    exact free

/-- A cycle close that makes the dead-bus request of the own claim leaves its window without an end. -/
theorem State.answered_cluActs {s : State} {c : Claim} (pending : s.clu.pendingClose = false)
    (due : s.DeadBusDue c.target c) : s.cluActs.Answered := by
  have published : s.cluTrack.cluWinners.clu.published = some c := by
    rw [State.tracked_clu]
    exact due.1
  have made := State.deadBusRequest_answered ((s.tracked_deadBusDue c.target c).mpr due)
  have both : (s.cluTrack.cluWinners.cluDeadBus .one).cluDeadBus .two = s.cluTrack.cluWinners.cluDeadBus c.target := by
    cases target : c.target with
    | one =>
      rw [target] at made
      exact State.cluDeadBus_of_other made.2.1 (by rw [target]; decide)
    | two => rw [State.cluDeadBus_of_other published (x := .one) (by rw [target]; decide)]
  unfold State.cluActs
  rw [State.cluOperator_of_none (State.tracked_pendingClose pending), both, made.2.2]
  have won : (s.cluTrack.cluWinners.cluDeadBus c.target).cluWon.Answered := made.1
  exact won.cluRestore.cluWithdrawals

theorem State.cluQuiet_withdrawals {s : State} {c : Claim} (held : s.clu.claim = some c) :
    ((s.top.locked c.target = true ∨ s.dbu.lockout = true ∨
        (c.restore = false ∧ targetSide s.cfg s.currentSet c.target = .live ∧ s.clu.inFlight = none)) →
      s.cluQuiet.cluWithdrawals.clu.claim = none) ∧
    (s.top.locked c.target = false → s.dbu.lockout = false →
      ¬(c.restore = false ∧ targetSide s.cfg s.currentSet c.target = .live ∧ s.clu.inFlight = none) →
      s.cluQuiet.cluWithdrawals = s.cluQuiet) := by
  have quiet : s.cluQuiet.clu.claim = some c := by rw [State.cluQuiet_clu]; exact held
  have top : s.cluQuiet.top = s.top := by
    simp only [State.cluQuiet, State.cluWon, State.cluWinners, State.cluTrack, State.withClu_top]
  have dbu : s.cluQuiet.dbu = s.dbu := by
    simp only [State.cluQuiet, State.cluWon, State.cluWinners, State.cluTrack, State.withClu_dbu]
  have set : s.cluQuiet.currentSet = s.currentSet := by
    refine State.currentSet_of_kept ?_ ?_ <;>
      simp only [State.cluQuiet, State.cluWon, State.cluWinners, State.cluTrack, State.withClu_msu, State.withClu_lkc]
  have inFlight : s.cluQuiet.clu.inFlight = s.clu.inFlight := by rw [State.cluQuiet_clu]
  rw [State.cluWithdrawals_of_claim quiet, top, dbu, set, inFlight, State.cluQuiet_cfg]
  refine ⟨fun due => ?_, fun view own other => ?_⟩
  · split
    · exact State.cluWithdraw_claim ..
    · rw [if_pos (by grind)]
      exact State.cluWithdraw_claim ..
  · rw [if_neg (by simp [view, own]), if_neg other]

/-! ### The expiry of the restore delay (R128, R129) -/

theorem State.standing_bcu_of_kept {s t : State} (kept : t.bcu = s.atClose.bcu) : (t.standing s).bcu = s.bcu := by
  rw [State.standing_bcu, kept, State.atClose_bcu]

theorem State.standing_syu_of_kept {s t : State} (kept : t.syu = s.atClose.syu) : (t.standing s).syu = s.syu := by
  rw [show (t.standing s).syu = { t.syu with check := s.syu.check, startedNow := s.syu.startedNow } from rfl, kept,
    State.atClose_syu]

theorem State.standing_gcu_of_kept {s t : State} (kept : t.gcu = s.atClose.gcu) : (t.standing s).gcu = s.gcu := by
  rw [show (t.standing s).gcu = { t.gcu with enteredNow := s.gcu.enteredNow, heardNow := s.gcu.heardNow } from rfl, kept,
    State.atClose_gcu]

theorem State.standing_fcu_of_kept {s t : State} (kept : t.fcu = s.atClose.fcu) : (t.standing s).fcu = s.fcu := by
  rw [show (t.standing s).fcu = { t.fcu with heardNow := s.fcu.heardNow } from rfl, kept, State.atClose_fcu]

theorem State.standing_tru_of_kept {s t : State} (kept : t.tru = s.atClose.tru) : (t.standing s).tru = s.tru := by
  rw [show (t.standing s).tru = { t.tru with
      enteredNow := s.tru.enteredNow, heardNow := s.tru.heardNow, healthy := s.tru.healthy, judged := s.tru.judged,
      healthLine := s.tru.healthLine, run := s.tru.run } from rfl, kept, State.atClose_tru]

@[simp] theorem State.atClose_pruStands (s : State) : s.atClose.pruStands = s.pruStands := by
  simp only [State.pruStands, State.atClose_pru, State.atClose_cfg]

@[simp] theorem State.atClose_fnActive (s : State) (f : InFn) : s.atClose.fnActive f = s.fnActive f := by
  rw [State.fnActive, State.fnLevel, State.atClose_cfg, State.atClose_bcu]
  rfl

/-- A refusal reaches FCU from a claim of FCU alone. -/
theorem State.tellClaimant_refusal_fcu {o : Origin} (other : o ≠ .fcu) (s : State) (why : CloseRefusal) :
    (s.tellClaimant o (.refusal why)).fcu = s.fcu := by
  cases o with
  | tru =>
    unfold State.tellClaimant
    rw [s.truHear_noted rfl]
    dsimp only
    split <;> rfl
  | gcu =>
    unfold State.tellClaimant
    dsimp only
    rw [s.gcuHear_noted rfl]
    split <;> rfl
  | fcu => exact absurd rfl other
  | operator => rfl

/-- A restore close that finds both sides LIVE leaves the feeder in MANUAL_OPEN (R143, R171). -/
theorem State.cluEnd_liveLive_fcu {s : State} (away : s.fcu.state ≠ .manualOpen) :
    (s.cluEnd .fcu (.refusal .liveLive)).fcu = s.fcu.toManual .feederLive := by
  have heard : ((s.withClu (Clu.fail · (.refusal .liveLive))).tellClaimant .fcu (.refusal .liveLive)).fcu =
      s.fcu.toManual .feederLive := congrArg State.fcu (if_neg away)
  unfold State.cluEnd State.cluDrop
  split
  · exact heard
  · dsimp only
    split
    · exact heard
    · rename_i other
      rw [State.tellClaimant_refusal_fcu other]
      exact heard

theorem exec_restoreDelayExpiry_of_standing {s : State} (standing : s.atClose.cluTrack.restoreDelayOut s.cfg.ownSec = false) :
    exec .restoreDelayExpiry s = .next s := congrArg Host.Outcome.next (if_neg (by simp [standing]))

theorem exec_restoreDelayExpiry_of_out {s : State} (run : s.cfp.run = .run)
    (out : s.atClose.cluTrack.restoreDelayOut s.cfg.ownSec = true) :
    exec .restoreDelayExpiry s = .next (s.atClose.cluTrack.cluRestore.standing s) :=
  congrArg Host.Outcome.next (if_pos (by rw [State.running_of_run run, out]; rfl))

theorem State.cluTrack_currentSet (s : State) : s.cluTrack.currentSet = s.currentSet := rfl
theorem State.cluTrack_fnActive (s : State) (f : InFn) : s.cluTrack.fnActive f = s.fnActive f := rfl
theorem State.cluTrack_pruStands (s : State) : s.cluTrack.pruStands = s.pruStands := rfl

theorem State.trackedClose_currentSet (s : State) : s.atClose.cluTrack.currentSet = s.currentSet := by
  rw [State.cluTrack_currentSet, State.atClose_currentSet]

/-- What the restore close of a row has met, but for what BCU judges (R129). -/
theorem State.cluRestore_of_out {s : State} (out : s.atClose.cluTrack.restoreDelayOut s.cfg.ownSec = true)
    (won : s.atClose.cluTrack.restoreWon = true) (kept : s.clu.spent = false) (free : s.clu.inFlight = none)
    (view : s.atClose.cluTrack.top.locked s.cfg.ownSec = false) (own : s.dbu.lockout = false)
    (valid : s.currentSet.meas = .valid) (live : s.currentSet.busClass = .live) :
    s.atClose.cluTrack.cluRestore = s.atClose.cluTrack.cluRequest .restore s.cfg.ownSec .fcu := by
  have cfg : s.atClose.cluTrack.cfg = s.cfg := s.atClose_cfg
  have set := s.trackedClose_currentSet
  rw [← cfg]
  refine State.cluRestore_of_ready ((State.cluMayRequest_iff _).mpr ⟨?_, ?_⟩) won
    ((State.restoreReady_iff ..).mpr ⟨?_, by rwa [cfg], by rwa [cfg], ?_, by rwa [set], by rwa [set]⟩)
  · rw [State.cluTrack, State.withClu_clu, State.atClose_clu]; exact kept
  · rw [State.cluTrack, State.withClu_bcu, State.atClose_bcu]
  · rw [State.cluTrack, State.withClu_clu, State.atClose_clu]; exact free
  · rw [State.cluTrack, State.withClu_dbu, State.atClose_dbu]; exact own

@[simp] theorem State.atClose_usableRec (s : State) (k : Station) : s.atClose.usableRec k = s.usableRec k :=
  State.usableRec_congr s.atClose_pim (congrArg Lkc.number s.atClose_lkc) (congrArg Lkc.count s.atClose_lkc) k

theorem State.atClose_feederClosed (s : State) (x : Sec) : s.atClose.feederClosed x = s.feederClosed x := by
  simp only [State.feederClosed, State.usable, State.atClose_usableRec, State.atClose_clu]

/-- The feeder's restore close of a row, accepted. -/
theorem State.restoreRequest_accepted {s : State} (request : (s.atClose.cluTrack.closeRequest .clu).2 = none) (x : Sec)
    (o : Origin) :
    (s.atClose.cluTrack.cluRequest .restore x o).standing s = { s with
      bcu := { s.bcu with
        state := .closing, close := true, owner := some .clu, supervision := 0, reconfirm := some 0,
        discrepancy := none },
      clu := { s.clu with
        lastSeen := s.atClose.cluTrack.clu.lastSeen,
        lastClose1 := if s.feederClosed .one then s.lkc.count else s.clu.lastClose1,
        lastClose2 := if s.feederClosed .two then s.lkc.count else s.clu.lastClose2,
        inFlight := some { kind := .restore, target := x, origin := o } } } := by
  have made : State.Consequence s.atClose (s.atClose.cluTrack.cluRequest .restore x o) := by
    rw [State.cluRequest_of_accepted request]
    exact (s.atClose.told_cluTrack.toConsequence.trans (State.cons_closeRequest ..)).trans (.withClu ..)
  rw [State.standing_of_cons made, State.cluRequest_of_accepted request, (State.closeRequest_accepted request).2]
  simp only [State.withClu_bcu, State.withClu_dbu, State.withClu_clu, State.withClu_syu, State.withClu_gcu, State.withClu_fcu,
    State.withClu_tru, State.withClu_cfp, State.withBcu_bcu, State.withBcu_dbu, State.withBcu_clu, State.withBcu_syu,
    State.withBcu_gcu, State.withBcu_fcu, State.withBcu_tru, State.withBcu_cfp, State.cluTrack, State.atClose_dbu,
    State.atClose_clu, State.atClose_gcu, State.atClose_fcu, State.atClose_cfp, State.atClose_lkc,
    State.atClose_feederClosed]
  rw [State.atClose_bcu, State.atClose_syu, State.atClose_tru]
  rfl

/-- BCU accepts the restore request of a feeder's row where its conditions hold (R106). -/
theorem State.restoreRequest_answer {s : State} (dark : s.currentSet.clsL ≠ .live) (own : s.dbu.lockout = false)
    (ownView : s.atClose.cluTrack.top.ownLocked s.cfg = false) (feeder : s.cfg.role = some .feeder)
    (opened : s.bcu.state = .opened) (noTrip : s.pruStands = false) (noExt : s.fnActive .extTrip = false)
    (now : s.atClose.cluTrack.bcu.trippedNow = false) (noBlock : s.fnActive .extBlockClose = false) :
    (s.atClose.cluTrack.closeRequest .clu).2 = none := by
  have cfg : s.atClose.cluTrack.cfg = s.cfg := by rw [State.cluTrack, State.withClu_cfg, State.atClose_cfg]
  have judged : s.atClose.cluTrack.judgeClose = none := by
    rw [State.judgeClose_eq_none_iff, cfg, State.cluTrack_pruStands, State.cluTrack_fnActive, State.cluTrack_fnActive,
      State.atClose_pruStands, State.atClose_fnActive, State.atClose_fnActive]
    refine ⟨?_, ?_, ownView, noTrip, noExt, now, noBlock, fun incomer => ?_⟩
    · rw [State.cluTrack, State.withClu_bcu, State.atClose_bcu]; exact opened
    · rw [State.cluTrack, State.withClu_dbu, State.atClose_dbu]; exact own
    · cases feeder.symm.trans incomer
  have free : ¬(CloseUnit.clu ≠ .syu ∧ s.atClose.cluTrack.currentSet.busClass = .live ∧
      s.atClose.cluTrack.currentSet.clsL = .live) := by
    rw [State.trackedClose_currentSet]
    exact fun both => dark both.2.2
  rw [(State.closeRequest_eq free).2 judged]

/-- With both sides LIVE the interlock answers the restore request of a row (R143, R171). -/
theorem State.restoreRequest_interlocked {s : State} (busLive : s.currentSet.busClass = .live)
    (lineLive : s.currentSet.clsL = .live) (x : Sec) :
    ∃ t, Host.Outcome.next ((s.atClose.cluTrack.cluRequest .restore x .fcu).standing s) =
        (.next t : Host.Outcome State Fault Refusal) ∧
      State.Consequence s t ∧ t.bcu = s.bcu ∧ t.clu.claim = none ∧
      (s.fcu.state ≠ .manualOpen → t.fcu =
        { s.fcu with state := .manualOpen, cause := .feederLive, held := 0 }) := by
  have request : s.atClose.cluTrack.closeRequest .clu = (s.atClose.cluTrack, some .liveLive) := by
    unfold State.closeRequest
    rw [State.trackedClose_currentSet]
    exact if_pos ⟨by decide, busLive, lineLive⟩
  rw [State.cluRequest_of_refused (congrArg Prod.snd request), request]
  have told := (s.atClose.told_cluTrack).trans (s.atClose.cluTrack.told_cluEnd .fcu (.refusal .liveLive))
  refine ⟨_, rfl, State.cons_standing told.toConsequence, State.standing_bcu_of_kept told.bcu, ?_, fun away => ?_⟩
  · rw [State.standing_claim, State.cluEnd_refusal]
  · have found : s.atClose.cluTrack.fcu = { s.fcu with heardNow := false } := by
      rw [State.cluTrack, State.withClu_fcu, State.atClose_fcu]
    have manual : (s.atClose.cluTrack.cluEnd .fcu (.refusal .liveLive)).fcu =
        s.atClose.cluTrack.fcu.toManual .feederLive := State.cluEnd_liveLive_fcu (by rw [found]; exact away)
    rw [State.standing_of_cons told.toConsequence, manual, found]
    rfl

/-- Settles O36: the operator claim by what CLU's acts leave of it, the restore delay by the request it makes. -/
theorem claimTimersExpire : Obligations.ClaimTimersExpire := by
  refine fun s run => ⟨fun c held origin free age pending => ⟨fun deadBus restore => ?quiet, ?requests⟩,
    fun t acts => ⟨?due, ?notDue⟩, s.atClose_top, exec_restoreDelayExpiry_of_standing,
    fun out won kept free view ownView own valid live feeder => ⟨?accepted, ?interlocked⟩⟩
  case due =>
    rintro due c held origin
    exact exec_operatorClaimExpiry_of_due run (acts ▸ due) held origin
  case notDue => exact fun rest => exec_operatorClaimExpiry_of_not_due (acts ▸ rest)
  case requests =>
    intro published kept dead winner won ready
    refine exec_operatorClaimExpiry_of_not_due (State.answered_cluActs (c := c) ?_ ?_).not_due
    · rw [State.atClose_clu]; exact pending
    · exact ⟨(congrArg Clu.published s.atClose_clu).trans published, dead, rfl,
        (congrArg Clu.spent s.atClose_clu).trans kept, congrArg Bcu.endedNow s.atClose_bcu,
        by rwa [State.atClose_cfg], by rwa [State.atClose_clu], ready⟩
  case quiet =>
    have acts : s.atClose.cluActs = s.atClose.cluQuiet.cluWithdrawals := by
      refine State.cluActs_of_quiet ?_ ?_ ?_ ?_
      · rw [State.atClose_clu]; exact pending
      · rw [State.atClose_clu]; exact free
      · rintro x ⟨p, published, notRestore, target, kept, -, winner, won, ready⟩
        subst target
        rw [State.atClose_clu] at published kept won
        rw [State.atClose_cfg] at winner
        exact absurd (deadBus p published kept notRestore winner won) (by rw [ready]; decide)
      · rintro ⟨may, won, ready⟩
        have kept := ((State.cluMayRequest_iff _).mp may).1
        rw [State.atClose_clu] at kept
        rw [State.atClose_cfg] at ready
        exact absurd (restore kept won) (by rw [ready]; decide)
    have claim : s.atClose.clu.claim = some c := by rw [State.atClose_clu]; exact held
    obtain ⟨withdrawn, stands⟩ := State.cluQuiet_withdrawals claim
    rw [State.atClose_dbu, State.atClose_cfg, State.atClose_currentSet, State.atClose_clu] at withdrawn stands
    refine ⟨fun view own notLive => ?_, fun ends => ?_⟩
    · refine exec_operatorClaimExpiry_of_due run ?_ held origin
      rw [acts, stands view own fun live => notLive live.1 live.2.1]
      unfold State.WindowDue
      rw [State.cluQuiet_clu, State.atClose_clu]
      exact ⟨⟨c, held, origin⟩, rfl, free, age⟩
    · refine exec_operatorClaimExpiry_of_not_due (State.Answered.not_due (.inl ?_))
      rw [acts]
      exact withdrawn (ends.imp id (Or.imp id fun live => ⟨live.1, live.2, free⟩))
  case accepted =>
    intro dark opened noTrip noExt now noBlock
    rw [exec_restoreDelayExpiry_of_out run out, State.cluRestore_of_out out won kept free view own valid live]
    exact congrArg Host.Outcome.next (State.restoreRequest_accepted
      (State.restoreRequest_answer dark own ownView feeder opened noTrip noExt now noBlock) ..)
  case interlocked =>
    intro lineLive
    rw [exec_restoreDelayExpiry_of_out run out, State.cluRestore_of_out out won kept free view own valid live]
    exact State.restoreRequest_interlocked live lineLive _

end Sys2Proof.Machine
end

section
/-! PROOFS. The Synchronising Unit: the quantities of the check (O37), its conditions, the start and the cycle close of an
attempt, and its supervision (O38). -/
namespace Sys2Proof.Machine

/-! ### The quantities (R133 to R135) -/

theorem slipOf_of_invalid {r : ResultSet} (invalid : r.fBus = 0 ∨ r.fLine = 0) : slipOf r = none :=
  if_neg (by simpa [bothFrequencies] using fun bus => invalid.resolve_left bus)

theorem slipOf_of_valid {r : ResultSet} (bus : r.fBus ≠ 0) (line : r.fLine ≠ 0) :
    slipOf r = some ((r.fLine : Int) - (r.fBus : Int)) :=
  if_pos (by simp [bothFrequencies, bus, line])

theorem angleOf_of_invalid {r : ResultSet} (invalid : r.fBus = 0 ∨ r.fLine = 0) : angleOf r = none :=
  if_neg (by simpa [bothFrequencies] using fun bus => invalid.resolve_left bus)

theorem angleOf_of_valid {r : ResultSet} (bus : r.fBus ≠ 0) (line : r.fLine ≠ 0) {b l : Count} (tBus : r.tBus = some b)
    (tLine : r.tLine = some l) : angleOf r = some (angleFrom (b - l).toInt r.periodBus) := by
  unfold angleOf
  rw [if_pos (by simp [bothFrequencies, bus, line]), tBus, tLine]

/-- An angle wrapped lies in its range and differs by whole turns. -/
theorem wrapAngle_spec (x : Int) : (-1800 ≤ wrapAngle x ∧ wrapAngle x ≤ 1799) ∧ ∃ n : Int, wrapAngle x = x + 3600 * n := by
  have low := Int.emod_nonneg (x + 1800) (show (3600 : Int) ≠ 0 by decide)
  have high := Int.emod_lt_of_pos (x + 1800) (show (0 : Int) < 3600 by decide)
  refine ⟨by unfold wrapAngle; omega, -((x + 1800) / 3600), ?_⟩
  unfold wrapAngle
  omega

/-- The prediction of a check record, by its angle and its advance. -/
theorem State.formCheck_predicted (s : State) {d a : Int} (angle : s.formCheck.angle = some d)
    (advance : s.formCheck.advance = some a) : s.formCheck.predicted = some (predictedAngle d a) := by
  have angle' : angleOf s.currentSet = some d := angle
  have advance' : (slipOf s.currentSet).map (advanceAngle s.cfg) = some a := advance
  unfold State.formCheck
  simp only [angle', advance']

theorem State.formCheck_predicted_of_none (s : State) (angle : s.formCheck.angle = none) : s.formCheck.predicted = none := by
  have angle' : angleOf s.currentSet = none := angle
  unfold State.formCheck
  simp only [angle']

/-- Settles O37, by the quantities of a check record on invalid and on valid frequencies. -/
theorem slipAngleAndAdvance : Obligations.SlipAngleAndAdvance := by
  refine fun s => ⟨⟨rfl, rfl⟩, fun invalid => ?_, fun bus line => ?_⟩
  · have angle : s.formCheck.angle = none := angleOf_of_invalid invalid
    have slip : s.formCheck.slip = none := slipOf_of_invalid invalid
    exact ⟨slip, angle, (congrArg (Option.map (advanceAngle s.cfg)) slip :), s.formCheck_predicted_of_none angle⟩
  · have slip := slipOf_of_valid bus line
    have advance : s.formCheck.advance = some (advanceAngle s.cfg ((s.currentSet.fLine : Int) - (s.currentSet.fBus : Int))) :=
      congrArg (Option.map (advanceAngle s.cfg)) slip
    refine ⟨slip, advance, fun b l tBus tLine => ?_⟩
    have angle : s.formCheck.angle = some _ := angleOf_of_valid bus line tBus tLine
    obtain ⟨⟨low, high⟩, turns⟩ := wrapAngle_spec (divide ((b - l).toInt * 3600) s.currentSet.periodBus)
    obtain ⟨range, m, whole⟩ := wrapAngle_spec
      (angleFrom (b - l).toInt s.currentSet.periodBus + advanceAngle s.cfg ((s.currentSet.fLine : Int) - (s.currentSet.fBus : Int)))
    exact ⟨_, _, angle, ⟨low, high, turns⟩, s.formCheck_predicted angle advance, range, m, _, advance, whole⟩

/-! ### The conditions of the check (R136) -/

/-- The first failing condition of a list of results, by position. -/
theorem failing_eq_some_iff : ∀ (xs : List SyncCondition) (bs : List Bool), xs.length = bs.length → xs.Nodup →
    ∀ (n : Nat) (x : SyncCondition), xs[n]? = some x →
      ((((xs.zip bs).find? fun y => !y.2).map Prod.fst = some x) ↔
        bs[n]? = some false ∧ ∀ m < n, bs[m]? = some true)
  | [], _, _, _, n, x, here => by simp at here
  | y :: xs, [], same, _, _, _, _ => by simp at same
  | y :: xs, b :: bs, same, distinct, n, x, here => by
    obtain ⟨fresh, distinct⟩ := List.nodup_cons.mp distinct
    have ih := failing_eq_some_iff xs bs (Nat.succ.inj same) distinct
    cases n with
    | zero =>
      cases here
      cases b with
      | false => simp
      | true =>
        simp only [List.zip_cons_cons, List.find?_cons, Bool.not_true]
        refine ⟨fun found => ?_, fun wrong => by simp at wrong⟩
        obtain ⟨z, among, rfl⟩ := Option.map_eq_some_iff.mp found
        exact absurd (List.of_mem_zip (List.mem_of_find?_eq_some among)).1 fresh
    | succ n =>
      have later : xs[n]? = some x := here
      cases b with
      | false =>
        simp only [List.zip_cons_cons, List.find?_cons, Bool.not_false]
        refine ⟨fun found => ?_, fun right => by simpa using right.2 0 (Nat.succ_pos n)⟩
        cases found
        exact absurd (List.mem_of_getElem? later) fresh
      | true =>
        simp only [List.zip_cons_cons, List.find?_cons, Bool.not_true]
        refine (ih n x later).trans (and_congr Iff.rfl ⟨fun before m below => ?_, fun before m below => ?_⟩)
        · cases m with
          | zero => rfl
          | succ m => exact before m (Nat.lt_of_succ_lt_succ below)
        · exact before (m + 1) (Nat.succ_lt_succ below)

theorem find_zip_eq_none_iff : ∀ (xs : List SyncCondition) (bs : List Bool), xs.length = bs.length →
    (((xs.zip bs).find? fun y => !y.2).map Prod.fst = none ↔ bs = List.replicate xs.length true)
  | [], [], _ => by simp
  | [], _ :: _, same => by simp at same
  | _ :: _, [], same => by simp at same
  | x :: xs, b :: bs, same => by
    have ih := find_zip_eq_none_iff xs bs (Nat.succ.inj same)
    cases b with
    | false => simp [List.replicate_succ]
    | true => simpa [List.replicate_succ] using ih

theorem State.formCheck_results_length (s : State) : s.formCheck.results.length = 7 := rfl

theorem State.formCheck_passes_iff (s : State) :
    s.formCheck.passes = true ↔ ∀ n < 7, s.formCheck.results[n]? = some true := by
  rw [CheckRecord.passes, beq_iff_eq, List.ext_getElem?_iff]
  refine ⟨fun all n below => ?_, fun all n => ?_⟩
  · rw [all n, List.getElem?_replicate, if_pos below]
  · by_cases below : n < 7
    · rw [all n below, List.getElem?_replicate, if_pos below]
    · rw [List.getElem?_eq_none (by rw [s.formCheck_results_length]; omega), List.getElem?_eq_none (by simp; omega)]

theorem directionHolds_iff (d : Option Direction) (slip : Option Int) :
    directionHolds d slip = true ↔ ∃ x, slip = some x ∧
      (d = some .any ∨ (d = some .positive ∧ 0 < x) ∨ (d = some .negative ∧ x < 0)) := by
  cases slip with
  | none => rcases d with _ | (_ | _ | _) <;> simp [directionHolds]
  | some x => rcases d with _ | (_ | _ | _) <;> simp [directionHolds]

theorem sidesLive_iff (r : ResultSet) :
    sidesLive r = true ↔ r.busClass = .live ∧ r.clsL = .live ∧ r.fBus ≠ 0 ∧ r.fLine ≠ 0 := by
  simp [sidesLive, bothFrequencies, and_assoc]

theorem any_within_iff (v : Option Int) (w : Nat) :
    (v.any fun x => decide (absInt x ≤ w)) = true ↔ ∃ x, v = some x ∧ x.natAbs ≤ w := by
  rw [Option.any_eq_true]
  exact exists_congr fun x => and_congr_right fun _ => decide_eq_true_iff

/-- The check record of a row is that of the state before it. -/
theorem State.atClose_check (s : State) : s.atClose.syu.check = s.formCheck := by
  have formed : s.atClose.syu.check = s.clearMarks.topClose.formCheck := by
    rw [State.atClose, show ∀ t : State, t.foretell.syu = t.syu from fun _ => rfl, State.truHealth_syu]
    rfl
  rw [formed]
  refine State.formCheck_congr ?_ ?_ ?_ ?_ ?_
  · rw [State.topClose_cfg, State.clearMarks_cfg]
  · rw [State.topClose_msu, State.clearMarks_msu]
  · rw [State.topClose_msu, State.clearMarks_msu]
  · rw [State.topClose_lkc, State.clearMarks_lkc]
  · rfl

/-! ### The start of an attempt (R137) -/

/-- The answer to a start as TRU notes it of its own (R137). -/
def State.startNoted (s : State) (o : SyncOwner) (a : Answer) : Tru :=
  if o = .tru then { s.tru with lastAnswer := some (a, s.lkc.count) } else s.tru

theorem State.syuStart_of_started {s : State} {o : SyncOwner} (judged : s.judgeStart o = .started) :
    s.syuStart o = { s with
      syu := { s.syu with state := .checking, owner := some o, supervision := 0, startedNow := true },
      tru := s.startNoted o .started } := by
  unfold State.syuStart State.startNoted
  rw [judged]
  cases o <;> rfl

theorem State.syuStart_of_standing {s : State} {o : SyncOwner} (judged : s.judgeStart o = .standing) :
    s.syuStart o = { s with tru := s.startNoted o .standing } := by
  unfold State.syuStart State.startNoted
  rw [judged]
  cases o <;> rfl

theorem State.syuStart_of_refused {s : State} {o : SyncOwner} {a : Answer} (judged : s.judgeStart o = a)
    (refusal : a = .startLockout ∨ a = .startNotOpen ∨ a = .busy) :
    s.syuStart o = { s with
      syu := { s.syu with lastEnding := some (a, some o, s.lkc.count) }, tru := s.startNoted o a } := by
  unfold State.syuStart State.startNoted
  rw [judged]
  rcases refusal with rfl | rfl | rfl <;> cases o <;> rfl

theorem State.judgeStart_of_lockout {s : State} (held : s.dbu.lockout = true ∨ s.top.ownLocked s.cfg = true) (o : SyncOwner) :
    s.judgeStart o = .startLockout := if_pos (by simpa using held)

theorem State.judgeStart_of_clear {s : State} (own : s.dbu.lockout = false) (view : s.top.ownLocked s.cfg = false)
    (o : SyncOwner) : s.judgeStart o =
      if s.bcu.state ≠ .opened then .startNotOpen
      else if s.syu.state = .idle then .started
      else if s.syu.owner = some o then .standing
      else .busy := if_neg (by simp [own, view])

/-- A start by each line of its table, as the owner's unit then stands (R137). -/
theorem State.syuStart_cases (s : State) (o : SyncOwner) :
    ((s.dbu.lockout = true ∨ s.top.ownLocked s.cfg = true) → s.syuStart o = { s with
      syu := { s.syu with lastEnding := some (.startLockout, some o, s.lkc.count) }, tru := s.startNoted o .startLockout }) ∧
    (s.dbu.lockout = false → s.top.ownLocked s.cfg = false →
      (s.bcu.state ≠ .opened → s.syuStart o = { s with
        syu := { s.syu with lastEnding := some (.startNotOpen, some o, s.lkc.count) }, tru := s.startNoted o .startNotOpen }) ∧
      (s.bcu.state = .opened →
        (s.syu.state = .idle → s.syuStart o = { s with
          syu := { s.syu with state := .checking, owner := some o, supervision := 0, startedNow := true },
          tru := s.startNoted o .started }) ∧
        (s.syu.state ≠ .idle → s.syu.owner = some o → s.syuStart o = { s with tru := s.startNoted o .standing }) ∧
        (s.syu.state ≠ .idle → s.syu.owner ≠ some o → s.syuStart o = { s with
          syu := { s.syu with lastEnding := some (.busy, some o, s.lkc.count) }, tru := s.startNoted o .busy }))) := by
  refine ⟨fun held => State.syuStart_of_refused (State.judgeStart_of_lockout held o) (.inl rfl), fun own view => ?_⟩
  have judged := State.judgeStart_of_clear own view o
  refine ⟨fun shut => State.syuStart_of_refused (judged.trans (if_pos shut)) (.inr (.inl rfl)), fun opened => ?_⟩
  replace judged := judged.trans (if_neg (not_not_intro opened))
  refine ⟨fun idle => State.syuStart_of_started (judged.trans (if_pos idle)), fun busy owned => ?_, fun busy other => ?_⟩
  · exact State.syuStart_of_standing ((judged.trans (if_neg busy)).trans (if_pos owned))
  · exact State.syuStart_of_refused ((judged.trans (if_neg busy)).trans (if_neg other)) (.inr (.inr rfl))

/-! ### The ending of an attempt (R140 to R142) -/

theorem State.gcuHear_expired (s : State) :
    s.gcuHear .expired = if s.gcu.unit = .sync then s.gcuSet .syncWait else s := by
  unfold State.gcuHear
  by_cases sync : s.gcu.unit = .sync
  · rw [if_pos (.inr sync)]
  · rw [if_neg sync]
    dsimp only
    rw [ite_self]

theorem State.truHear_expired (s : State) : s.truHear .expired = s.truNote .expired := rfl

theorem State.gcuSet_fcu (s : State) (u : UnitState) : (s.gcuSet u).fcu = s.fcu := by
  unfold State.gcuSet
  split <;> rfl

theorem State.tellOwner_expired (s : State) (o : Option SyncOwner) :
    (s.tellOwner o .expired).syu = s.syu ∧ (s.tellOwner o .expired).fcu = s.fcu := by
  unfold State.tellOwner
  split
  · exact ⟨rfl, rfl⟩
  · rw [State.gcuHear_expired]
    split
    · exact ⟨(State.gcuSet_others ..).2.1, State.gcuSet_fcu ..⟩
    · exact ⟨rfl, rfl⟩
  · exact ⟨rfl, rfl⟩
  · exact ⟨rfl, rfl⟩

theorem State.syuEnd_of_checking {s : State} (checking : s.syu.state = .checking) (a : Answer) :
    s.syuEnd a = (s.endAttempt a).tellOwner s.syu.owner a := if_neg (by rw [checking]; decide)

/-- SYU after the expiry of a supervision (R140). -/
theorem State.syncExpire_syu {s : State} (checking : s.syu.state = .checking) :
    s.syncExpire.syu = { s.syu with
      state := .idle, owner := none, permit := false, lastEnding := some (.expired, s.syu.owner, s.lkc.count) } ∧
    s.syncExpire.fcu = s.fcu := by
  have ended : s.syncExpire = ((s.raise .syncFail).endAttempt .expired).tellOwner s.syu.owner .expired :=
    State.syuEnd_of_checking (s := s.raise .syncFail) checking .expired
  rw [ended]
  exact State.tellOwner_expired ..

theorem State.told_syncExpire (s : State) : State.Told s s.syncExpire :=
  (State.Told.raise ..).trans (State.told_syuEnd ..)

theorem State.syncExpire_pendingBit (s : State) : s.syncExpire.pendingBit .syncFail = true :=
  (State.told_syuEnd ..).toConsequence.pendingBit (State.raise_pendingBit ..)

/-- An expiry takes a generator in SYNC to SYNC_WAIT (R152). -/
theorem State.syncExpire_gcu {s : State} (checking : s.syu.state = .checking) (owner : s.syu.owner = some .gcu)
    (sync : s.gcu.unit = .sync) : s.syncExpire.gcu.unit = .syncWait ∧ s.syncExpire.gcu.retryCount = 0 := by
  have ended : s.syncExpire = ((s.raise .syncFail).endAttempt .expired).gcuHear .expired := by
    refine (State.syuEnd_of_checking (s := s.raise .syncFail) checking .expired).trans ?_
    rw [show (s.raise .syncFail).syu.owner = some .gcu from owner]
    rfl
  have unit : ((s.raise .syncFail).endAttempt .expired).gcu.unit = .sync := sync
  rw [ended, State.gcuHear_expired, if_pos unit, State.gcuSet, if_neg (by rw [unit]; decide)]
  exact ⟨rfl, rfl⟩

/-- TRU notes an expiry alone (R181). -/
theorem State.syncExpire_tru {s : State} (checking : s.syu.state = .checking) (owner : s.syu.owner = some .tru) :
    s.syncExpire.tru = { s.tru with lastAnswer := some (.expired, s.lkc.count), heardNow := true } := by
  have ended : s.syncExpire = ((s.raise .syncFail).endAttempt .expired).tellOwner (some .tru) .expired := by
    refine (State.syuEnd_of_checking (s := s.raise .syncFail) checking .expired).trans ?_
    rw [show (s.raise .syncFail).syu.owner = some .tru from owner]
  rw [ended]
  rfl

/-! ### SYU at a cycle close (R138 to R141) -/

/-- The permit fallen, as at every cycle close. -/
def State.permitFallen (s : State) : State := { s with syu := { s.syu with permit := false } }

theorem State.syuClose_of_rest {s : State} (rest : s.syu.state ≠ .checking ∨ s.syu.startedNow = true) :
    s.syuClose = s.permitFallen := if_neg fun checking => by
  rcases rest with other | now
  · exact other checking.1
  · cases now.symm.trans checking.2

theorem State.syuClose_of_checking {s : State} (checking : s.syu.state = .checking) (later : s.syu.startedNow = false) :
    s.syuClose =
      if s.dbu.lockout = true ∨ s.top.ownLocked s.cfg = true then s.permitFallen.syuEnd .endLockout
      else if s.currentSet.busClass = .dead ∨ s.currentSet.clsL = .dead then s.permitFallen.syuEnd .sideDead
      else if s.syu.check.passes = true then (if s.bcu.endedNow = true then s.permitFallen else s.permitFallen.syncPass)
      else s.permitFallen.syncTick := by
  unfold State.syuClose
  refine (if_pos ⟨checking, later⟩).trans (ite_of_iff ?_ rfl (ite_of_iff ?_ rfl rfl))
  · exact (Bool.or_eq_true ..).to_iff
  · show sideDead s.currentSet = true ↔ _
    simp only [sideDead, Bool.or_eq_true, beq_iff_eq]

theorem State.syncTick_of_young {s : State} (young : s.syu.supervision + 1 < s.cfg.tSyncMax.toNat) :
    s.syncTick = { s with syu := { s.syu with supervision := s.syu.supervision + 1 } } := if_neg (by omega)

theorem State.syncTick_of_due {s : State} (due : s.cfg.tSyncMax.toNat ≤ s.syu.supervision + 1) :
    s.syncTick = (s.withSyu fun y => { y with supervision := y.supervision + 1 }).syncExpire := if_pos due

/-- SYU's request passes the interlock (R143): BCU alone judges it. -/
theorem State.syncRequest_eq (s : State) :
    (s.judgeClose = none → s.closeRequest .syu = ({ s with bcu := s.bcu.accept .syu }, none)) ∧
    ∀ r, s.judgeClose = some r →
      s.closeRequest .syu = ({ s with bcu := { s.bcu with lastRefusal := some (r, .syu, s.lkc.count) } }, some r) :=
  (State.closeRequest_eq fun both => both.1 rfl).symm

theorem State.syncPass_of_accepted {s : State} (judged : s.judgeClose = none) :
    s.syncPass = { s with bcu := s.bcu.accept .syu, syu := { s.syu with state := .closing, permit := true } } := by
  unfold State.syncPass
  rw [s.syncRequest_eq.1 judged]
  rfl

/-- BCU with a refusal of SYU's request noted. -/
def State.syncRefused (s : State) (r : CloseRefusal) : State :=
  { s with bcu := { s.bcu with lastRefusal := some (r, .syu, s.lkc.count) } }

theorem State.syncPass_of_refused {s : State} {r : CloseRefusal} (judged : s.judgeClose = some r) :
    s.syncPass = (s.syncRefused r).syuEnd (.refusal r) := by
  unfold State.syncPass
  rw [s.syncRequest_eq.2 r judged]
  rfl

/-! ### The expiry as a row (R140) -/

theorem exec_syncSupervisionExpiry_of_passes {s : State} (passes : s.formCheck.passes = true) :
    exec .syncSupervisionExpiry s = .next s := by
  refine congrArg Host.Outcome.next (if_neg ?_)
  rw [Bool.and_eq_true, State.syncTicks, Bool.and_eq_true, s.atClose_check, passes]
  rintro ⟨⟨-, fails⟩, -⟩
  cases fails

/-- The last tick of the supervision, before its expiry. -/
def State.lastTick (s : State) : State := s.atClose.withSyu fun y => { y with supervision := s.cfg.tSyncMax.toNat }

theorem State.syncTicks_iff (s : State) :
    s.syncTicks = true ↔ s.running = true ∧ s.syu.state = .checking ∧ s.dbu.lockout = false ∧ s.top.ownLocked s.cfg = false ∧
      s.currentSet.busClass ≠ .dead ∧ s.currentSet.clsL ≠ .dead ∧ s.syu.check.passes = false := by
  simp [State.syncTicks, sideDead, and_assoc]

theorem exec_syncSupervisionExpiry_of_due {s : State} (run : s.cfp.run = .run) (checking : s.syu.state = .checking)
    (own : s.dbu.lockout = false) (view : s.atClose.top.ownLocked s.cfg = false) (bus : s.currentSet.busClass ≠ .dead)
    (line : s.currentSet.clsL ≠ .dead) (fails : s.formCheck.passes = false)
    (due : s.cfg.tSyncMax.toNat ≤ s.syu.supervision + 1) :
    exec .syncSupervisionExpiry s = .next (s.lastTick.syncExpire.standing s) := by
  refine congrArg Host.Outcome.next (if_pos ?_)
  rw [Bool.and_eq_true, State.syncTicks_iff, State.atClose_running, State.running_of_run run, State.atClose_dbu,
    State.atClose_cfg, State.atClose_currentSet, s.atClose_check]
  refine ⟨⟨rfl, ?_, own, view, bus, line, fails⟩, decide_eq_true due⟩
  rw [State.atClose_syu]
  exact checking

/-- What the row's expiry makes of an attempt in CHECKING (R140). -/
theorem State.lastTick_expires {s : State} (checking : s.syu.state = .checking) :
    ∃ t, Host.Outcome.next (s.lastTick.syncExpire.standing s) = (.next t : Host.Outcome State Fault Refusal) ∧
      State.Consequence s t ∧ t.bcu = s.bcu ∧ t.dbu = s.dbu ∧ t.fcu = s.fcu ∧
      t.syu.state = .idle ∧ t.syu.owner = none ∧ t.syu.permit = false ∧
      t.syu.lastEnding = some (.expired, s.syu.owner, s.lkc.count) ∧ t.pendingBit .syncFail = true ∧
      (s.syu.owner = some .gcu → s.gcu.unit = .sync → t.gcu.unit = .syncWait ∧ t.gcu.retryCount = 0) ∧
      (s.syu.owner = some .tru → t.tru.state = s.tru.state ∧ t.tru.lastAnswer = some (.expired, s.lkc.count)) := by
  have found : s.lastTick.syu = { s.atClose.syu with supervision := s.cfg.tSyncMax.toNat } := rfl
  rw [State.atClose_syu] at found
  have checks : s.lastTick.syu.state = .checking := by rw [found]; exact checking
  have owned : s.lastTick.syu.owner = s.syu.owner := by rw [found]
  have count : s.lastTick.lkc.count = s.lkc.count := congrArg Lkc.count s.atClose_lkc
  have told : State.Told s.atClose s.lastTick.syncExpire := State.Told.trans (.withSyu _ _ id) s.lastTick.told_syncExpire
  obtain ⟨syu, fcu⟩ := State.syncExpire_syu checks
  have made := State.cons_standing told.toConsequence
  refine ⟨_, rfl, made, State.standing_bcu_of_kept told.bcu, ?_, State.standing_fcu_of_kept fcu, ?_, ?_, ?_, ?_,
    s.lastTick.syncExpire_pendingBit, fun owner sync => ?_, fun owner => ?_⟩
  · rw [State.standing_dbu, told.dbu, State.atClose_dbu]
  · exact congrArg Syu.state syu
  · exact congrArg Syu.owner syu
  · exact congrArg Syu.permit syu
  · exact (congrArg Syu.lastEnding syu).trans (by rw [owned, count])
  · refine State.syncExpire_gcu checks (owned.trans owner) ?_
    show s.atClose.gcu.unit = .sync
    rw [State.atClose_gcu]
    exact sync
  · have tru := State.syncExpire_tru checks (owned.trans owner)
    have before : s.lastTick.tru = s.atClose.tru := rfl
    rw [before, State.atClose_tru, count] at tru
    rw [State.standing_of_cons told.toConsequence, tru]
    exact ⟨rfl, rfl⟩

/-- Settles O38: the conditions by position, the start by its table, and the cycle close by the branches of SYU. -/
theorem syncCheckAndItsSupervision : Obligations.SyncCheckAndItsSupervision := by
  refine ⟨fun s => ⟨⟨rfl, ?meas, ?sides, ?permit, ?slip, ?direction, ?voltage, ?angle⟩, s.formCheck_passes_iff, ?failing, ?first,
      fun _ _ passes => exec_syncSupervisionExpiry_of_passes passes,
      fun run checking own view bus line fails due => ?expires⟩, fun s o other => ?start, fun s t fallen => ?close, fun s note notes => ?truStart⟩
  case meas => exact Option.some_inj.trans beq_iff_eq
  case sides => exact Option.some_inj.trans (sidesLive_iff _)
  case permit =>
    refine Option.some_inj.trans ?_
    rw [← Settings.isRole_iff]
    cases s.cfg.isRole .incomer <;> simp
  case slip => exact Option.some_inj.trans (any_within_iff ..)
  case direction => exact Option.some_inj.trans (directionHolds_iff ..)
  case voltage =>
    refine Option.some_inj.trans (decide_eq_true_iff.trans ⟨fun within => ⟨_, rfl, within⟩, ?_⟩)
    rintro ⟨x, same, within⟩
    cases same
    exact within
  case angle => exact Option.some_inj.trans (any_within_iff ..)
  case failing =>
    refine (find_zip_eq_none_iff allConditions s.formCheck.results rfl).trans ?_
    exact beq_iff_eq.symm
  case first => exact fun n x _ here => failing_eq_some_iff allConditions s.formCheck.results rfl (by decide) n x here
  case expires =>
    rw [exec_syncSupervisionExpiry_of_due run checking own view bus line fails due]
    exact State.lastTick_expires checking
  case start =>
    have started := s.syuStart_cases o
    unfold State.startNoted at started
    rwa [if_neg other, if_neg other, if_neg other, if_neg other, if_neg other] at started
  case truStart =>
    have noted (a : Answer) : note a = s.startNoted .tru a := notes a
    simp only [noted]
    exact s.syuStart_cases .tru
  case close =>
    obtain rfl : t = s.permitFallen := fallen
    refine ⟨State.syuClose_of_rest, fun checking later => ?_⟩
    have closes := State.syuClose_of_checking checking later
    refine ⟨fun held => closes.trans (if_pos held), fun own view => ?_⟩
    replace closes := closes.trans (if_neg (by simp [own, view]))
    refine ⟨fun dead => closes.trans (if_pos dead), fun bus line => ?_⟩
    replace closes := closes.trans (if_neg (not_or.mpr ⟨bus, line⟩))
    have stands : s.permitFallen.syu.state = .checking := checking
    refine ⟨fun passes ended => ?_, fun passes none => ?_, fun fails => ?_⟩
    · exact (closes.trans (if_pos passes)).trans (if_pos ended)
    · rw [(closes.trans (if_pos passes)).trans (if_neg (by rw [none]; decide))]
      refine ⟨fun judged => ?_, fun why judged => ?_⟩
      · rw [State.syncPass_of_accepted (s := s.permitFallen) judged]
        exact ⟨rfl, rfl, rfl, rfl⟩
      · rw [State.syncPass_of_refused (s := s.permitFallen) judged]
        have told := (s.permitFallen.syncRefused why).told_syuEnd (.refusal why)
        rw [State.syuEnd_noted (s := s.permitFallen.syncRefused why) (by rw [State.syncRefused, stands]; decide) rfl]
        exact ⟨rfl, rfl, rfl, rfl, rfl⟩
    · replace closes := closes.trans (if_neg (by rw [fails]; decide))
      refine ⟨fun young => closes.trans (State.syncTick_of_young young), fun due => ?_⟩
      rw [closes, State.syncTick_of_due (s := s.permitFallen) due]
      have ticked : (s.permitFallen.withSyu fun y => { y with supervision := y.supervision + 1 }).syu.state = .checking := checking
      obtain ⟨syu, -⟩ := State.syncExpire_syu ticked
      exact ⟨congrArg Syu.state syu, congrArg Syu.lastEnding syu, State.syncExpire_pendingBit _⟩

end Sys2Proof.Machine
end

section
/-! PROOFS. The Generator Control Unit: what the island wants, the common tests and the tests of each unit state (O40), and its
four timer rows (O39). -/
namespace Sys2Proof.Machine

/-! ### What the island wants (R58, R147) -/

theorem BayRecord.inIsland_iff (r : BayRecord) (m : IslandMap) (x : Sec) :
    r.inIsland m x = true ↔ ∃ y, r.sect = some y ∧ (y = x ∨ m = .joined) := by
  unfold BayRecord.inIsland
  cases r.sect with
  | none => simp
  | some y => simp [Machine.inIsland_iff]

theorem State.islandIncomer_iff (s : State) (k : Station) (p : BayRecord → Bool) :
    s.islandIncomer k p = true ↔ ∃ (r : BayRecord) (y : Sec), s.usableRec k = some r ∧ r.role = .incomer ∧
      r.sect = some y ∧ (y = s.cfg.ownSec ∨ s.top.map = .joined) ∧ p r = true := by
  simp only [State.islandIncomer, State.usable_iff, Bool.and_eq_true, beq_iff_eq, BayRecord.inIsland_iff]
  constructor
  · rintro ⟨r, usable, ⟨role, y, sect, here⟩, wants⟩
    exact ⟨r, y, usable, role, sect, here, wants⟩
  · rintro ⟨r, y, usable, role, sect, here, wants⟩
    exact ⟨r, usable, ⟨role, y, sect, here⟩, wants⟩

theorem State.demandNow_iff (s : State) :
    s.demandNow = true ↔ s.tru.mode = .auto ∧ ∃ (k : Station) (r : BayRecord) (y : Sec), s.usableRec k = some r ∧
      r.role = .incomer ∧ r.sect = some y ∧ (y = s.cfg.ownSec ∨ s.top.map = .joined) ∧ r.startDemand = true := by
  simp only [State.demandNow, Bool.and_eq_true, beq_iff_eq, List.any_eq_true, mem_allStations, true_and,
    State.islandIncomer_iff]

theorem State.stopNow_iff (s : State) :
    s.stopNow = true ↔ ∃ (k : Station) (r : BayRecord) (y : Sec), s.usableRec k = some r ∧
      r.role = .incomer ∧ r.sect = some y ∧ (y = s.cfg.ownSec ∨ s.top.map = .joined) ∧
      (r.openDemand = true ∨ r.parallelTimeout = true) := by
  simp only [State.stopNow, List.any_eq_true, mem_allStations, true_and, State.islandIncomer_iff, Bool.or_eq_true]

theorem State.breakerAtClose_eq (s : State) :
    s.breakerAtClose = if s.bcu.acceptedNow = true ∧ s.bcu.state = .closing then .opened else s.bcu.state :=
  ite_of_iff (by simp) rfl rfl

/-! ### Entering a unit state (R148, R156) -/

theorem State.gcuSet_of_eq {s : State} {u : UnitState} (same : s.gcu.unit = u) : s.gcuSet u = s := if_pos same

/-- GCU as it enters another unit state. -/
def Gcu.entering (g : Gcu) (u : UnitState) : Gcu :=
  { g with unit := u, enteredNow := true,
           startCount := if u = .starting then 0 else g.startCount,
           retryCount := if u = .syncWait then 0 else g.retryCount,
           unloadCount := if u = .unload then 0 else g.unloadCount,
           coolCount := if u = .cooldown then 0 else g.coolCount }

theorem State.gcuSet_of_ne {s : State} {u : UnitState} (ne : s.gcu.unit ≠ u) :
    s.gcuSet u = ({ s with gcu := s.gcu.entering u } : State).raise .transferChange := if_neg ne

theorem State.gcuSet_gcu {s : State} {u : UnitState} (ne : s.gcu.unit ≠ u) : (s.gcuSet u).gcu = s.gcu.entering u :=
  congrArg State.gcu (State.gcuSet_of_ne ne)

theorem State.gcuSet_pendingBit {s : State} {u : UnitState} (ne : s.gcu.unit ≠ u) :
    (s.gcuSet u).pendingBit .transferChange = true := by
  rw [State.gcuSet_of_ne ne]
  exact State.raise_pendingBit ..

theorem State.gcuFail_gcu (s : State) (why : FailReason) :
    (s.gcuFail why).gcu.unit = .fail ∧ (s.gcuFail why).gcu.failReason = why :=
  ⟨s.gcuCancel.gcuSet_unit .fail, rfl⟩

theorem State.gcuFail_clu (s : State) (why : FailReason) : (s.gcuFail why).clu = s.gcuCancel.clu :=
  (s.gcuCancel.gcuSet_others .fail).1

theorem State.gcuFail_syu (s : State) (why : FailReason) : (s.gcuFail why).syu = s.gcuCancel.syu :=
  (s.gcuCancel.gcuSet_others .fail).2.1

theorem State.gcuFail_tru (s : State) (why : FailReason) : (s.gcuFail why).tru = s.tru :=
  ((s.gcuCancel.gcuSet_others .fail).2.2).trans s.gcuCancel_tru

theorem State.gcuFail_claim {s : State} {why : FailReason} {c : Claim} (held : (s.gcuFail why).clu.claim = some c) :
    c.origin ≠ .gcu :=
  State.gcuCancel_claim (by rwa [State.gcuFail_clu] at held)

theorem State.gcuFail_checking {s : State} {why : FailReason} (checking : (s.gcuFail why).syu.state = .checking) :
    (s.gcuFail why).syu.owner ≠ some .gcu := by
  rw [State.gcuFail_syu] at checking ⊢
  exact fun owner => State.cancelAttempt_checking _ _ ⟨checking, owner⟩

/-! ### The common tests (R149) -/

theorem State.gcuCommon_eq (s : State) : s.gcuCommon =
    if s.breakerAtClose = .failedOpen ∧ s.gcu.unit ≠ .fail then some (s.gcuFail .bf)
    else if s.breakerAtClose = .closed ∧ s.gcu.unit ∈ [UnitState.idle, .starting, .deadbus, .sync, .syncWait, .cooldown] then
      some (s.gcuCancel.gcuSet .online)
    else if (s.breakerAtClose = .opened ∨ s.breakerAtClose = .opening) ∧ (s.gcu.unit = .online ∨ s.gcu.unit = .unload) then
      some (s.gcuSet .cooldown)
    else if s.gcu.stopNotice = true ∧ (s.gcu.unit = .online ∨ s.gcu.unit = .unload) ∧ s.gcuNoticeWaits = false then
      some (s.tripRequest.gcuSet .cooldown)
    else if s.gcu.stopNotice = true ∧ s.gcu.unit ∈ [UnitState.starting, .deadbus, .sync, .syncWait] ∧
        s.gcuNoticeWaits = false then
      some (s.gcuCancel.gcuSet .cooldown)
    else none := by
  unfold State.gcuCommon
  refine ite_of_iff (by simp) rfl (ite_of_iff ?_ rfl (ite_of_iff (by simp) rfl (ite_of_iff ?_ rfl (ite_of_iff ?_ rfl rfl))))
  · simp [joinsClosed, or_assoc]
  · simp [and_assoc]
  · simp [comingOn, and_assoc, or_assoc]

theorem State.gcuNoticeWaits_iff (s : State) : s.gcuNoticeWaits = true ↔
    (s.bcu.state = .closing ∧ ((∃ f, s.clu.inFlight = some f ∧ f.origin = .gcu) ∨
      (s.syu.state = .closing ∧ s.syu.owner = some .gcu))) ∨ (s.gcu.heardNow = true ∧ s.bcu.endedNow = true) := by
  simp [State.gcuNoticeWaits, State.gcuCloseInFlight, State.gcuClaimClosing, State.gcuAttemptClosing, Option.any_eq_true]

theorem ite_some_eq_none_iff {α : Type} {p : Prop} [Decidable p] {x : α} {y : Option α} :
    (if p then some x else y) = none ↔ ¬p ∧ y = none := by
  by_cases holds : p <;> simp [holds]

theorem State.gcuCommon_eq_none_iff (s : State) : s.gcuCommon = none ↔
    (s.breakerAtClose = .failedOpen → s.gcu.unit = .fail) ∧
    (s.breakerAtClose = .closed → s.gcu.unit ∉ [UnitState.idle, .starting, .deadbus, .sync, .syncWait, .cooldown]) ∧
    ((s.breakerAtClose = .opened ∨ s.breakerAtClose = .opening) → s.gcu.unit ≠ .online ∧ s.gcu.unit ≠ .unload) ∧
    (s.gcu.stopNotice = true → s.gcuNoticeWaits = false →
      s.gcu.unit ∉ [UnitState.online, .unload, .starting, .deadbus, .sync, .syncWait]) := by
  rw [State.gcuCommon_eq]
  simp only [ite_some_eq_none_iff, and_true]
  refine and_congr Decidable.not_and_not_right (and_congr not_and (and_congr (by rw [not_and, not_or]) ?_))
  simp only [List.mem_cons, List.not_mem_nil, or_false]
  grind

theorem State.gcuTests_of_common {s t : State} (later : s.gcu.enteredNow = false) (common : s.gcuCommon = some t) :
    s.gcuTests = t := by
  unfold State.gcuTests
  rw [if_neg (by simp [later]), common]

theorem State.gcuTests_of_none {s : State} (later : s.gcu.enteredNow = false) (none : s.gcuCommon = none) :
    s.gcuTests = s.gcuState := by
  unfold State.gcuTests
  rw [if_neg (by simp [later]), none]

/-! ### The tests of each unit state (R150 to R156) -/

theorem State.gcuClaimClosing_iff (s : State) : s.gcuClaimClosing = true ↔ ∃ f, s.clu.inFlight = some f ∧ f.origin = .gcu := by
  simp [State.gcuClaimClosing, Option.any_eq_true]

theorem State.gcuClaimClosing_eq_false {s : State} (none : ∀ f, s.clu.inFlight = some f → f.origin ≠ .gcu) :
    s.gcuClaimClosing = false := by
  rw [← Bool.not_eq_true, State.gcuClaimClosing_iff]
  rintro ⟨f, inFlight, origin⟩
  exact none f inFlight origin

theorem State.gcuAttemptClosing_iff (s : State) :
    s.gcuAttemptClosing = true ↔ s.syu.state = .closing ∧ s.syu.owner = some .gcu := by
  simp [State.gcuAttemptClosing]

theorem State.gcuAttemptStands_iff (s : State) :
    s.gcuAttemptStands = true ↔ s.syu.state ≠ .idle ∧ s.syu.owner = some .gcu := by
  simp [State.gcuAttemptStands]

theorem State.gcuStarting_of_demand {s : State} (demand : s.gcu.demand = true) (ready : s.engineReady = true) :
    (s.currentSet.busClass = .dead → s.gcuStarting = s.gcuEnterDeadbus) ∧
      (s.currentSet.busClass = .live → s.gcuStarting = s.gcuEnterSync) ∧
      (s.currentSet.busClass = .indeterminate → s.gcuStarting = s) := by
  unfold State.gcuStarting
  rw [if_neg (by simp [demand]), if_pos ready]
  cases s.currentSet.busClass <;> simp

theorem State.gcuStarting_of_not_ready {s : State} (demand : s.gcu.demand = true) (notReady : s.engineReady = false) :
    s.gcuStarting = if s.cfg.tStart.toNat ≤ s.gcu.startCount + 1
      then ({ s with gcu := { s.gcu with startCount := s.gcu.startCount + 1 } } : State).gcuFail .startFail
      else { s with gcu := { s.gcu with startCount := s.gcu.startCount + 1 } } := by
  unfold State.gcuStarting
  rw [if_neg (by simp [demand]), if_neg (by simp [notReady])]
  rfl

theorem State.gcuDeadbus_of_rest {s : State}
    (rest : (∃ f, s.clu.inFlight = some f ∧ f.origin = .gcu) ∨ s.gcu.heardNow = true) : s.gcuDeadbus = s :=
  if_pos (by rw [Bool.or_eq_true, s.gcuClaimClosing_iff]; exact rest)

theorem State.gcuDeadbus_of_tested {s : State} (none : ∀ f, s.clu.inFlight = some f → f.origin ≠ .gcu)
    (unheard : s.gcu.heardNow = false) :
    s.gcuDeadbus =
      if s.gcu.demand = false then (s.cancelClaim .gcu).gcuSet .cooldown
      else if s.engineReady = false then (s.cancelClaim .gcu).gcuSet .starting
      else if s.currentSet.busClass = .live then (s.cancelClaim .gcu).gcuEnterSync
      else if ∃ c, s.clu.claim = some c ∧ c.origin = .gcu ∧ c.restore = false then s
      else (s.cluRaise .gcu false s.cfg.ownSec).1 := by
  unfold State.gcuDeadbus
  rw [if_neg (by simp [State.gcuClaimClosing_eq_false none, unheard])]
  refine ite_of_iff (by simp) rfl (ite_of_iff (by simp) rfl (ite_of_iff Iff.rfl rfl (ite_of_iff ?_ rfl rfl)))
  simp [Option.any_eq_true]

theorem State.gcuSync_of_rest {s : State}
    (rest : (s.syu.state = .closing ∧ s.syu.owner = some .gcu) ∨ s.gcu.heardNow = true) : s.gcuSync = s :=
  if_pos (by rw [Bool.or_eq_true, s.gcuAttemptClosing_iff]; exact rest)

theorem State.gcuSync_of_tested {s : State} (none : ¬(s.syu.state = .closing ∧ s.syu.owner = some .gcu))
    (unheard : s.gcu.heardNow = false) :
    s.gcuSync =
      if s.gcu.demand = false then (s.cancelAttempt .gcu).gcuSet .cooldown
      else if s.engineReady = false then (s.cancelAttempt .gcu).gcuSet .starting
      else if s.syu.state ≠ .idle ∧ s.syu.owner = some .gcu then s
      else if s.currentSet.busClass = .dead then s.gcuEnterDeadbus
      else s.syuStart .gcu := by
  unfold State.gcuSync
  rw [if_neg (by rw [Bool.or_eq_true, s.gcuAttemptClosing_iff]; simp [none, unheard])]
  exact ite_of_iff (by simp) rfl (ite_of_iff (by simp) rfl (ite_of_iff s.gcuAttemptStands_iff rfl rfl))

theorem State.gcuSyncWait_eq (s : State) :
    s.gcuSyncWait =
      if s.gcu.demand = false then s.gcuSet .cooldown
      else if s.engineReady = false then s.gcuSet .starting
      else if s.cfg.tRetry.toNat ≤ s.gcu.retryCount + 1
        then ({ s with gcu := { s.gcu with retryCount := s.gcu.retryCount + 1 } } : State).gcuEnterSync
        else { s with gcu := { s.gcu with retryCount := s.gcu.retryCount + 1 } } :=
  ite_of_iff (by simp) rfl (ite_of_iff (by simp) rfl rfl)

theorem State.gcuUnload_eq (s : State) :
    s.gcuUnload =
      if s.gcu.demand = true ∨ s.top.own ≠ .grid then s.gcuSet .online
      else if s.ownL ≤ (s.cfg.lOff.toNat : Int) then s.tripRequest.gcuSet .cooldown
      else if s.cfg.tUnload.toNat ≤ s.gcu.unloadCount + 1
        then ({ s with gcu := { s.gcu with unloadCount := s.gcu.unloadCount + 1 } } : State).tripRequest.gcuSet .cooldown
        else { s with gcu := { s.gcu with
          unloadCount := s.gcu.unloadCount + 1,
          ramp := max (s.cfg.lOff.toNat : Int) (s.gcu.ramp - (s.cfg.ramp.toNat : Int)) } } :=
  ite_of_iff (by simp) rfl (ite_of_iff Iff.rfl rfl rfl)

theorem State.gcuCooldown_eq (s : State) :
    s.gcuCooldown =
      if s.breakerAtClose = .opened then
        if s.gcu.demand = true ∧ s.gcu.stopNotice = false then s.gcuSet .starting
        else if s.cfg.tCool.toNat ≤ s.gcu.coolCount + 1
          then ({ s with gcu := { s.gcu with coolCount := s.gcu.coolCount + 1 } } : State).gcuSet .idle
          else { s with gcu := { s.gcu with coolCount := s.gcu.coolCount + 1 } }
      else s :=
  ite_of_iff Iff.rfl (ite_of_iff (by simp) rfl rfl) rfl

theorem State.gcuOnline_gcu {s : State} (online : s.gcu.unit = .online)
    (leaves : s.tru.mode = .auto ∧ s.gcu.demand = false ∧ s.top.own = .grid) :
    s.gcuOnline.gcu = { s.gcu with unit := .unload, enteredNow := true, unloadCount := 0, ramp := s.ownL } := by
  have entered := State.gcuSet_gcu (s := s) (u := .unload) (by rw [online]; decide)
  unfold State.gcuOnline
  rw [if_pos leaves]
  show { (s.gcuSet .unload).gcu with ramp := s.ownL } = _
  rw [entered]
  rfl

/-- The tests of a unit state are those of its own rule. -/
theorem State.gcuState_eq (s : State) :
    (s.gcu.unit = .idle → s.gcuState = if s.gcu.demand then s.gcuSet .starting else s) ∧
      (s.gcu.unit = .starting → s.gcuState = s.gcuStarting) ∧ (s.gcu.unit = .deadbus → s.gcuState = s.gcuDeadbus) ∧
      (s.gcu.unit = .sync → s.gcuState = s.gcuSync) ∧ (s.gcu.unit = .syncWait → s.gcuState = s.gcuSyncWait) ∧
      (s.gcu.unit = .online → s.gcuState = s.gcuOnline) ∧ (s.gcu.unit = .unload → s.gcuState = s.gcuUnload) ∧
      (s.gcu.unit = .cooldown → s.gcuState = s.gcuCooldown) ∧ (s.gcu.unit = .fail → s.gcuState = s.gcuFailed) := by
  unfold State.gcuState
  refine ⟨?_, ?_, ?_, ?_, ?_, ?_, ?_, ?_, ?_⟩ <;> intro unit <;> rw [unit]

/-- Settles O40: the common tests in their order, and each unit state by the equation of its rule. -/
theorem generatorUnitAtACycleClose : Obligations.GeneratorUnitAtACycleClose := by
  refine ⟨fun s => ⟨fun other => if_neg fun role => other ((Settings.isRole_iff ..).mp role),
      fun role => if_pos ((Settings.isRole_iff ..).mpr role), s.demandNow_iff, s.stopNow_iff, s.breakerAtClose_eq⟩,
    fun s u => ⟨s.gcuSet_unit u, State.gcuSet_of_eq, fun ne => ?entering⟩,
    fun s why => ⟨(s.gcuFail_gcu why).1, rfl, fun c => State.gcuFail_claim, State.gcuFail_checking, (s.told_gcuFail why).bcu⟩,
    fun s now => if_pos now, ?common, fun s later none => ?tests, ?answers⟩
  case entering =>
    refine ⟨State.gcuSet_pendingBit ne, ?_⟩
    rw [State.gcuSet_gcu ne]
    exact ⟨rfl, fun u => if_pos u, fun u => if_pos u, fun u => if_pos u, fun u => if_pos u⟩
  case common =>
    rintro s b u travels later rfl rfl waits
    obtain rfl : travels = s.gcuNoticeWaits := by rw [Bool.eq_iff_iff, waits, s.gcuNoticeWaits_iff]
    have common := s.gcuCommon_eq
    refine ⟨fun failed other => ?_, fun closed joins => ?_, fun opened on => ?_, fun shut on stop free => ?_,
      fun notFailed notClosed coming stop free => ?_, s.gcuCommon_eq_none_iff⟩ <;> refine State.gcuTests_of_common later ?_
    · rw [common, if_pos ⟨failed, other⟩]
    · rw [common, if_neg (by simp [closed]), if_pos ⟨closed, joins⟩]
      rfl
    · rw [common, if_neg (by rcases opened with h | h <;> simp [h]), if_neg (by rcases opened with h | h <;> simp [h]),
        if_pos ⟨opened, on⟩]
    · rw [common, if_neg (by rcases shut with h | h | h | h <;> simp [h]), if_neg (by rcases on with h | h <;> simp [h]),
        if_neg (by rcases shut with h | h | h | h <;> simp [h]), if_pos ⟨stop, on, free⟩]
    · have off : ¬(s.gcu.unit = .online ∨ s.gcu.unit = .unload) := by
        rintro (on | on) <;> simp [on] at coming
      rw [common, if_neg fun failed => notFailed failed.1, if_neg fun closed => notClosed closed.1, if_neg fun on => off on.2,
        if_neg fun on => off on.2.1, if_pos ⟨stop, coming, free⟩]
      rfl
  case tests =>
    rw [State.gcuTests_of_none later none]
    obtain ⟨idle, starting, deadbus, sync, syncWait, online, unload, cooldown, fail⟩ := s.gcuState_eq
    refine ⟨idle, fun unit => ?starting, fun unit => ?deadbus, fun unit => ?sync, fun unit => ?syncWait, fun unit => ?online,
      fun unit => ?unload, fun unit => ?cooldown, fun unit => fail unit⟩
    case starting =>
      rw [starting unit]
      refine ⟨fun noDemand => if_pos (by simp [noDemand]), State.gcuStarting_of_demand, fun demand notReady t ticked => ?_⟩
      subst ticked
      exact State.gcuStarting_of_not_ready demand notReady
    case deadbus =>
      rw [deadbus unit]
      refine ⟨State.gcuDeadbus_of_rest, fun free unheard => ?_⟩
      rw [State.gcuDeadbus_of_tested free unheard]
      refine ⟨fun demand => if_pos demand, fun demand ready => ?_, fun demand ready live => ?_, fun demand ready notLive =>
        ⟨fun claims => ?_, fun claims => ?_⟩⟩
      · rw [if_neg (by simp [demand]), if_pos ready]
      · rw [if_neg (by simp [demand]), if_neg (by simp [ready]), if_pos live]
        rfl
      · rw [if_neg (by simp [demand]), if_neg (by simp [ready]), if_neg notLive, if_pos claims]
      · rw [if_neg (by simp [demand]), if_neg (by simp [ready]), if_neg notLive, if_neg]
        rintro ⟨c, held, origin, restore⟩
        rcases claims c held with other | restores
        · exact other origin
        · cases restore.symm.trans restores
    case sync =>
      rw [sync unit]
      refine ⟨State.gcuSync_of_rest, fun free unheard => ?_⟩
      rw [State.gcuSync_of_tested free unheard]
      refine ⟨fun demand => if_pos demand, fun demand ready => ?_, fun demand ready => ⟨fun checking owner => ?_, fun away => ?_⟩⟩
      · rw [if_neg (by simp [demand]), if_pos ready]
      · rw [if_neg (by simp [demand]), if_neg (by simp [ready]), if_pos ⟨by rw [checking]; decide, owner⟩]
      · rw [if_neg (by simp [demand]), if_neg (by simp [ready]), if_neg fun stands => away.elim stands.1 (· stands.2)]
        rfl
    case syncWait =>
      rw [syncWait unit, State.gcuSyncWait_eq]
      refine ⟨fun demand => if_pos demand, fun demand ready => ?_, fun demand ready t ticked => ?_⟩
      · rw [if_neg (by simp [demand]), if_pos ready]
      · subst ticked
        rw [if_neg (by simp [demand]), if_neg (by simp [ready])]
        rfl
    case online =>
      rw [online unit]
      exact ⟨fun auto demand grid => State.gcuOnline_gcu unit ⟨auto, demand, grid⟩, fun stays => if_neg stays⟩
    case unload =>
      rw [unload unit, State.gcuUnload_eq]
      refine ⟨fun back => if_pos back, fun demand grid => ?_⟩
      rw [if_neg (by simp [demand, grid])]
      refine ⟨fun low => if_pos low, fun high due => ?_, fun high young => ?_⟩
      · rw [if_neg (by omega), if_pos due]
      · rw [if_neg (by omega), if_neg (by omega)]
    case cooldown =>
      rw [cooldown unit, State.gcuCooldown_eq]
      refine ⟨fun away => if_neg away, fun opened demand stop => ?_, fun opened rest t ticked => ?_⟩
      · rw [if_pos opened, if_pos ⟨demand, stop⟩]
      · subst ticked
        rw [if_pos opened, if_neg (by rcases rest with h | h <;> simp [h])]
  case answers =>
    intro s a
    refine ⟨fun unit => ⟨?_, ?_, ?_, ?_⟩, fun notDeadbus notSync => if_neg (not_or.mpr ⟨notDeadbus, notSync⟩)⟩
    · rintro rfl
      exact if_pos unit
    · rintro (rfl | rfl) <;> exact if_pos unit
    · rintro rfl sync
      exact (if_pos unit).trans (if_pos sync)
    · intro light
      have noted : s.gcuHear a = s.withGcu fun g => { g with heardNow := true } := by
        rcases light with rfl | rfl | rfl | rfl | rfl | rfl | ⟨w, rfl⟩ | ⟨w, rfl⟩ <;> exact if_pos unit
      exact noted

/-! ### The timer rows (R150 to R155, log 11) -/

/-- A later cycle close of a unit to which no common test applies, where the island gives no stop notice (R149). -/
theorem State.atClose_gcuTicks {s : State} {u : UnitState} (run : s.cfp.run = .run) (generator : s.cfg.role = some .generator)
    (stop : s.atClose.stopNow = false) (unit : s.gcu.unit = u) (failed : s.bcu.state = .failedOpen → u = .fail)
    (closed : s.bcu.state = .closed → u ∉ [UnitState.idle, .starting, .deadbus, .sync, .syncWait, .cooldown])
    (opened : s.bcu.state = .opened ∨ s.bcu.state = .opening → u ≠ .online ∧ u ≠ .unload) :
    s.atClose.gcuTicks u = true := by
  have found : s.atClose.gcuView.gcu.unit = u := by
    show s.atClose.gcu.unit = u
    rw [State.atClose_gcu]
    exact unit
  have breaker : s.atClose.gcuView.breakerAtClose = s.bcu.state := by
    show s.atClose.breakerAtClose = s.bcu.state
    rw [State.breakerAtClose_eq, State.atClose_bcu, if_neg (by simp)]
  have none : s.atClose.gcuView.gcuCommon = none := by
    rw [State.gcuCommon_eq_none_iff, breaker, found]
    exact ⟨failed, closed, opened, fun notice => nomatch stop.symm.trans notice⟩
  rw [State.gcuTicks, none, State.atClose_running, State.running_of_run run, State.atClose_cfg,
    (Settings.isRole_iff ..).mpr generator, State.atClose_gcu, unit]
  simp

theorem State.syuStart_gcu_only (s : State) : s.syuStart .gcu = { s with syu := (s.syuStart .gcu).syu } := by
  unfold State.syuStart
  dsimp only
  rw [if_neg (by decide)]
  split <;> rfl

/-- A trip of a CLOSED breaker reaches of GCU the mark of an ending alone (R109, R141). -/
theorem State.tripRequest_gcu_of_closed {s : State} (closed : s.bcu.state = .closed) :
    s.tripRequest.gcu = { s.gcu with heardNow := s.tripRequest.gcu.heardNow } := by
  have tripped : (s.withBcu fun b => { b with trippedNow := true }).bfRequest.bcuTrip.gcu = s.gcu := by
    unfold State.bcuTrip
    rw [State.bfRequest_bcu, State.withBcu_bcu, closed]
    show (State.bfRequest _).gcu = _
    unfold State.bfRequest
    split <;> rfl
  unfold State.tripRequest State.syuEndChecking
  dsimp only
  split
  · rw [(State.syuEnd_noted_owner _ rfl).1, tripped]
  · rw [tripped]

/-- GCU after a row, the marks of the last cycle close standing. -/
theorem State.standing_gcu (t s : State) :
    (t.standing s).gcu = { t.gcu with enteredNow := s.gcu.enteredNow, heardNow := s.gcu.heardNow } := rfl

theorem State.atClose_unit {s : State} {u : UnitState} (unit : s.gcu.unit = u) (f : Gcu → Gcu)
    (kept : ∀ g, (f g).unit = g.unit) : (s.atClose.withGcu f).gcu.unit = u := by
  rw [State.withGcu_gcu, kept, State.atClose_gcu]
  exact unit

theorem exec_startFail_of_due {s : State} (ticks : s.atClose.gcuTicks .starting = true) (demand : s.atClose.demandNow = true)
    (notReady : s.engineReady = false) (due : s.cfg.tStart.toNat ≤ s.gcu.startCount + 1) :
    exec .startFail s = .next
      (((s.atClose.withGcu fun g => { g with startCount := s.cfg.tStart.toNat }).gcuFail .startFail).standing s) :=
  congrArg Host.Outcome.next (if_pos (by simp [ticks, demand, notReady, due]))

theorem exec_retryExpiry_of_due {s : State} (ticks : s.atClose.gcuTicks .syncWait = true) (demand : s.atClose.demandNow = true)
    (ready : s.engineReady = true) (due : s.cfg.tRetry.toNat ≤ s.gcu.retryCount + 1) :
    exec .retryExpiry s = .next
      ((s.atClose.withGcu fun g => { g with retryCount := s.cfg.tRetry.toNat }).gcuEnterSync.standing s) :=
  congrArg Host.Outcome.next (if_pos (by simp [ticks, demand, ready, due]))

theorem exec_unloadExpiry_of_due {s : State} (ticks : s.atClose.gcuTicks .unload = true)
    (demand : s.atClose.demandNow = false) (grid : s.atClose.top.own = .grid) (high : (s.cfg.lOff.toNat : Int) < s.ownL)
    (due : s.cfg.tUnload.toNat ≤ s.gcu.unloadCount + 1) :
    exec .unloadExpiry s = .next (((s.atClose.withGcu fun g =>
      { g with unloadCount := s.cfg.tUnload.toNat }).tripRequest.gcuSet .cooldown).standing s) :=
  congrArg Host.Outcome.next (if_pos (by simp [ticks, demand, grid, high, due]))

theorem exec_coolExpiry_of_due {s : State} (ticks : s.atClose.gcuTicks .cooldown = true) (opened : s.bcu.state = .opened)
    (demand : s.atClose.demandNow = false) (due : s.cfg.tCool.toNat ≤ s.gcu.coolCount + 1) :
    exec .coolExpiry s = .next
      (((s.atClose.withGcu fun g => { g with coolCount := s.cfg.tCool.toNat }).gcuSet .idle).standing s) :=
  congrArg Host.Outcome.next (if_pos (by simp [ticks, opened, demand, due]))

/-- The retry row: a new attempt from SYNC_WAIT (R152). -/
theorem State.retryEnters {s : State} (opened : s.bcu.state = .opened) (unit : s.gcu.unit = .syncWait) :
    ∃ t, Host.Outcome.next
        ((s.atClose.withGcu fun g => { g with retryCount := s.cfg.tRetry.toNat }).gcuEnterSync.standing s) =
          (.next t : Host.Outcome State Fault Refusal) ∧
      State.Consequence s t ∧ t.gcu = { s.gcu with unit := .sync, retryCount := s.cfg.tRetry.toNat } ∧
      t.pendingBit .transferChange = true ∧ t.bcu = s.bcu ∧ t.dbu = s.dbu ∧ t.clu = s.clu ∧ t.tru = s.tru ∧
      (s.syu.state = .idle → s.dbu.lockout = false → s.atClose.top.ownLocked s.cfg = false →
        t.syu = { s.syu with state := .checking, owner := some .gcu, supervision := 0 }) := by
  have before := State.atClose_unit unit (fun g => { g with retryCount := s.cfg.tRetry.toNat }) fun _ => rfl
  have gcu : (s.atClose.withGcu fun g => { g with retryCount := s.cfg.tRetry.toNat }).gcu =
      { s.gcu with enteredNow := false, heardNow := false, retryCount := s.cfg.tRetry.toNat } := by
    rw [State.withGcu_gcu, State.atClose_gcu]
  have ticked : State.Told s.atClose (s.atClose.withGcu fun g => { g with retryCount := s.cfg.tRetry.toNat }) := .withGcu ..
  have others : (s.atClose.withGcu fun g => { g with retryCount := s.cfg.tRetry.toNat }).clu = s.atClose.clu ∧
      (s.atClose.withGcu fun g => { g with retryCount := s.cfg.tRetry.toNat }).syu = s.atClose.syu ∧
      (s.atClose.withGcu fun g => { g with retryCount := s.cfg.tRetry.toNat }).tru = s.atClose.tru := ⟨rfl, rfl, rfl⟩
  generalize (s.atClose.withGcu fun g => { g with retryCount := s.cfg.tRetry.toNat }) = v at *
  have ne : v.gcu.unit ≠ .sync := by rw [before]; decide
  have entered := ticked.trans (v.told_gcuSet .sync)
  have told := ticked.trans v.told_gcuEnterSync
  obtain ⟨clu, syu, tru⟩ := v.gcuSet_others .sync
  obtain ⟨cluBefore, syuBefore, truBefore⟩ := others
  have only : v.gcuEnterSync = { v.gcuSet .sync with syu := v.gcuEnterSync.syu } := State.syuStart_gcu_only _
  refine ⟨_, rfl, State.cons_standing told.toConsequence, ?_, ?_, State.standing_bcu_of_kept told.bcu, ?_, ?_,
    State.standing_tru_of_kept ?_, fun idle own view => ?_⟩
  · rw [State.standing_gcu, only, State.gcuSet_gcu ne, gcu]
    rfl
  · have bit := State.gcuSet_pendingBit ne
    rw [only]
    exact bit
  · rw [State.standing_dbu, told.dbu, State.atClose_dbu]
  · have kept : v.gcuEnterSync.clu = s.atClose.clu := by rw [only]; exact clu.trans cluBefore
    rw [State.standing_of_cons told.toConsequence, kept, State.atClose_clu]
  · rw [only]; exact tru.trans truBefore
  · have start := (((v.gcuSet .sync).syuStart_cases .gcu).2 (by rw [entered.dbu, State.atClose_dbu]; exact own)
      (by rw [entered.top, entered.cfg, State.atClose_cfg]; exact view)).2 (by rw [entered.bcu, State.atClose_bcu]; exact opened)
    have started : v.gcuEnterSync.syu =
        { (v.gcuSet .sync).syu with state := .checking, owner := some .gcu, supervision := 0, startedNow := true } :=
      congrArg State.syu (start.1 (by rw [syu, syuBefore, State.atClose_syu]; exact idle))
    rw [State.standing_of_cons told.toConsequence, started, syu, syuBefore, State.atClose_syu]

/-- The unload row: the breaker opened, and the unit in COOLDOWN (R154, R155). -/
theorem State.unloadOpens {s : State} (closed : s.bcu.state = .closed) (unit : s.gcu.unit = .unload) :
    ∃ t, Host.Outcome.next (((s.atClose.withGcu fun g =>
        { g with unloadCount := s.cfg.tUnload.toNat }).tripRequest.gcuSet .cooldown).standing s) =
          (.next t : Host.Outcome State Fault Refusal) ∧
      State.Consequence s t ∧
      t.gcu = { s.gcu with unit := .cooldown, unloadCount := s.cfg.tUnload.toNat, coolCount := 0 } ∧
      (t.bcu.state = .opening ∧ t.bcu.trip = true ∧ t.bcu.close = false) ∧ t.pendingBit .transferChange = true := by
  have gcu : (s.atClose.withGcu fun g => { g with unloadCount := s.cfg.tUnload.toNat }).gcu =
      { s.gcu with enteredNow := false, heardNow := false, unloadCount := s.cfg.tUnload.toNat } := by
    rw [State.withGcu_gcu, State.atClose_gcu]
  have ticked : State.Told s.atClose (s.atClose.withGcu fun g => { g with unloadCount := s.cfg.tUnload.toNat }) := .withGcu ..
  generalize (s.atClose.withGcu fun g => { g with unloadCount := s.cfg.tUnload.toNat }) = v at *
  have shut : v.bcu.state = .closed := by rw [ticked.bcu, State.atClose_bcu]; exact closed
  have kept := State.tripRequest_gcu_of_closed shut
  have ne : v.tripRequest.gcu.unit ≠ .cooldown := by
    rw [kept, gcu]
    show s.gcu.unit ≠ .cooldown
    rw [unit]
    decide
  have made := (ticked.toConsequence.trans v.cons_tripRequest).trans (v.tripRequest.told_gcuSet .cooldown).toConsequence
  have bcu : (v.tripRequest.gcuSet .cooldown).bcu = { v.bcu.assertTrip with trippedNow := true } :=
    (State.told_gcuSet ..).bcu.trans (State.tripRequest_of_closed shut)
  refine ⟨_, rfl, State.cons_standing made, ?_, ?_, State.gcuSet_pendingBit (s := v.tripRequest) ne⟩
  · rw [State.standing_gcu, State.gcuSet_gcu ne, kept, gcu]
    rfl
  · rw [State.standing_bcu, bcu]
    exact ⟨rfl, rfl, rfl⟩

/-- A row that changes GCU and the pending bits alone. -/
theorem State.standing_with_gcu (s : State) (g : Gcu) (c : Cfp) :
    ({ s.atClose with gcu := g, cfp := c } : State).standing s =
      { s with gcu := { g with enteredNow := s.gcu.enteredNow, heardNow := s.gcu.heardNow }, cfp := c } := by
  unfold State.standing
  simp only [State.atClose_cfg, State.atClose_cvp, State.atClose_msu, State.atClose_cap, State.atClose_lkc,
    State.atClose_pim, State.atClose_pru, State.atClose_dbu, State.atClose_clu, State.atClose_fcu, State.atClose_pending]
  rw [State.atClose_bcu, State.atClose_syu, State.atClose_tru]

/-- The cool row: from COOLDOWN to IDLE (R155). -/
theorem State.coolsDown {s : State} (unit : s.gcu.unit = .cooldown) :
    ((s.atClose.withGcu fun g => { g with coolCount := s.cfg.tCool.toNat }).gcuSet .idle).standing s =
      { s with
        gcu := { s.gcu with unit := .idle, coolCount := s.cfg.tCool.toNat },
        cfp := { s.cfp with attention := s.cfp.attention ||| 0x0040#16 } } := by
  have before := State.atClose_unit unit (fun g => { g with coolCount := s.cfg.tCool.toNat }) fun _ => rfl
  rw [State.gcuSet_of_ne (by rw [before]; decide)]
  refine (s.standing_with_gcu _ _).trans ?_
  rw [State.withGcu_gcu, State.withGcu_cfp, State.atClose_gcu, State.atClose_cfp]
  rfl

/-- Settles O39: each row by what its rule makes of the state its cycle close forms. -/
theorem generatorCountsExpire : Obligations.GeneratorCountsExpire := by
  refine fun s run generator stop => ⟨fun unit opened demand notReady due => ?startFail,
    fun unit opened demand ready due => ?retry, fun unit closed demand grid high due => ?unload,
    fun unit opened demand due => ?cool⟩
  case startFail =>
    have ticks : s.atClose.gcuTicks .starting = true := State.atClose_gcuTicks run generator stop unit (by simp [opened])
      (by simp [opened]) fun _ => by decide
    rw [exec_startFail_of_due ticks demand notReady due]
    generalize made : (s.atClose.withGcu fun g => { g with startCount := s.cfg.tStart.toNat }) = v
    have ticked : State.Told s.atClose v := made ▸ .withGcu ..
    have before : v.gcu.unit = .starting := made ▸ State.atClose_unit unit _ fun _ => rfl
    have told := ticked.trans (v.told_gcuFail .startFail)
    refine ⟨_, rfl, State.cons_standing told.toConsequence, (v.gcuFail_gcu .startFail).1, (v.gcuFail_gcu .startFail).2, ?_,
      State.standing_bcu_of_kept told.bcu, ?_, State.standing_tru_of_kept ?_, fun c held => State.gcuFail_claim held⟩
    · show (v.gcuCancel.gcuSet .fail).pendingBit .transferChange = true
      exact State.gcuSet_pendingBit (by rw [State.gcuCancel_unit, before]; decide)
    · rw [State.standing_dbu, told.dbu, State.atClose_dbu]
    · rw [State.gcuFail_tru, ← made]
      rfl
  case retry =>
    have ticks : s.atClose.gcuTicks .syncWait = true := State.atClose_gcuTicks run generator stop unit (by simp [opened])
      (by simp [opened]) fun _ => by decide
    rw [exec_retryExpiry_of_due ticks demand ready due]
    exact State.retryEnters opened unit
  case unload =>
    have ticks : s.atClose.gcuTicks .unload = true := State.atClose_gcuTicks run generator stop unit (by simp [closed])
      (fun _ => by decide) (by simp [closed])
    rw [exec_unloadExpiry_of_due ticks demand grid high due]
    exact State.unloadOpens closed unit
  case cool =>
    have ticks : s.atClose.gcuTicks .cooldown = true := State.atClose_gcuTicks run generator stop unit (by simp [opened])
      (by simp [opened]) fun _ => by decide
    rw [exec_coolExpiry_of_due ticks opened demand due]
    exact congrArg Host.Outcome.next (State.coolsDown unit)

end Sys2Proof.Machine
end

section
/-! PROOFS. The bias codes of a generator: mode, droop condition, averages, corrections and load fractions (O41). -/
namespace Sys2Proof.Machine

/-! ### Mode and codes (R158, R159, R162) -/

theorem modeOf_eq (u : UnitState) (cause : DroopCause) (own : IslandState) :
    modeOf u (cause != .none) own = match u with
      | .sync => .sync
      | .syncWait => .sync
      | .online => if cause ≠ .none ∨ own = .unknown then .droop else if own = .grid then .base else .isoch
      | .unload => if cause ≠ .none then .droop else .unload
      | _ => .off := by
  cases u <;> by_cases none : cause = .none <;> cases own <;> simp [modeOf, none]

theorem biasAfter_of_step {m : BiasMode} (ne : m ≠ .off) (b d : Int) :
    biasAfter m b (some d) = max (-2048) (min 2047 (b + d)) := by
  rw [← clamp_eq_max_min (by decide)]
  cases m with
  | off => exact absurd rfl ne
  | sync | isoch | base | unload | droop => rfl

/-! ### What a cycle close forms from the image (R147, R159 to R161) -/

theorem State.gcuSeen_of_generator {s : State} {k : Station} {r : BayRecord} (usable : s.usableRec k = some r)
    (role : r.role = .generator) : s.gcuSeen.get k = some r.summary := by
  refine (Vector.getElem_ofFn ..).trans ?_
  rw [usable]
  exact if_pos role

theorem State.gcuSeen_of_other {s : State} {k : Station} (other : ∀ r, s.usableRec k = some r → r.role ≠ .generator) :
    s.gcuSeen.get k = s.gcu.lastSeen.get k := by
  refine (Vector.getElem_ofFn ..).trans ?_
  cases usable : s.usableRec k with
  | none => rfl
  | some r => exact if_neg (other r usable)

/-- The generators that enter the averages, by any function that names them. -/
theorem State.sharing_eq {s : State} {share : Station → Option BayRecord}
    (names : ∀ k r, share k = some r ↔ s.usableRec k = some r ∧ r.role = .generator ∧
      (∃ y, r.sect = some y ∧ (y = s.cfg.ownSec ∨ s.top.map = .joined)) ∧ r.summary = .closed) :
    s.sharing = allStations.filterMap share := by
  unfold State.sharing
  refine congrArg (allStations.filterMap ·) (funext fun k => Option.ext fun r => ?_)
  rw [names]
  cases s.usableRec k with
  | none => simp
  | some q =>
    dsimp only
    rw [Option.ite_none_right_eq_some, Option.some_inj, BayRecord.inIsland_iff]
    constructor
    · rintro ⟨shares, rfl⟩
      exact ⟨rfl, shares⟩
    · rintro ⟨rfl, shares⟩
      exact ⟨shares, rfl⟩

theorem average_of_nil (own : Int) : average [] own = own := rfl

theorem average_of_ne_nil {xs : List Int} (ne : xs ≠ []) (own : Int) : average xs own = (sumInt xs).tdiv xs.length :=
  if_neg (by simpa using ne)

/-- The stations found are those that a function to options names. -/
theorem find_eq_head {p : Station → Bool} {f : Station → Option BayRecord} (agree : ∀ k, p k = true ↔ ∃ r, f k = some r) :
    ∀ l : List Station, ((l.filterMap f = [] → l.find? p = none) ∧
      ∀ r rest, l.filterMap f = r :: rest → ∃ k, l.find? p = some k ∧ f k = some r)
  | [] => by simp
  | k :: l => by
    obtain ⟨none, found⟩ := find_eq_head agree l
    cases here : f k with
    | none =>
      have out : p k = false := by
        rw [← Bool.not_eq_true, agree, here]
        simp
      rw [List.filterMap_cons_none here, List.find?_cons_of_neg (by simp [out])]
      exact ⟨none, found⟩
    | some q =>
      have there : p k = true := (agree k).mpr ⟨q, here⟩
      rw [List.filterMap_cons_some here, List.find?_cons_of_pos there]
      refine ⟨nofun, fun r rest same => ⟨k, rfl, ?_⟩⟩
      rw [here, (List.cons.inj same).1]

/-- f_ref by any function that names the incomers of the island in RESYNC (R147). -/
theorem State.fRefNow_eq {s : State} {resync : Station → Option BayRecord}
    (names : ∀ k r, resync k = some r ↔ s.usableRec k = some r ∧ r.role = .incomer ∧
      (∃ y, r.sect = some y ∧ (y = s.cfg.ownSec ∨ s.top.map = .joined)) ∧ r.transfer = .resync) :
    (allStations.filterMap resync = [] → s.fRefNow = (s.cfg.fNom.toNat : Int) * 100) ∧
      ∀ r rest, allStations.filterMap resync = r :: rest → s.fRefNow = referenceOf r := by
  have agree (k : Station) : s.islandIncomer k (fun r => r.transfer == .resync) = true ↔ ∃ r, resync k = some r := by
    rw [State.islandIncomer_iff]
    simp only [names, beq_iff_eq]
    constructor
    · rintro ⟨r, y, usable, role, sect, here, entered⟩
      exact ⟨r, usable, role, ⟨y, sect, here⟩, entered⟩
    · rintro ⟨r, usable, role, ⟨y, sect, here⟩, entered⟩
      exact ⟨r, y, usable, role, sect, here, entered⟩
  obtain ⟨none, found⟩ := find_eq_head agree allStations
  unfold State.fRefNow
  refine ⟨fun empty => ?_, fun r rest same => ?_⟩
  · rw [none empty]
    rfl
  · obtain ⟨k, first, named⟩ := found r rest same
    rw [first]
    dsimp only
    rw [((names k r).mp named).1]
    rfl

/-! ### Corrections and fractions (R146, R160, R161) -/

theorem term_eq (d : Int) (gain : Word) (n : Nat) : term d gain n = (d * (gain.toNat : Int)) / 2 ^ n := shiftRight_eq ..

theorem term_twelve (d : Int) (gain : Word) : term d gain 12 = (d * (gain.toNat : Int)) / 4096 := term_eq ..

theorem term_eight (d : Int) (gain : Word) : term d gain 8 = (d * (gain.toNat : Int)) / 256 := term_eq ..

theorem State.speedStep_sync (s : State) :
    s.speedStep .sync = some (match s.syu.check.slip with
      | some x => (max (-500) (min 500 (s.cfg.sTarget.toInt - x)) * (s.cfg.gS.toNat : Int)) / 64
      | none => 0) := by
  unfold State.speedStep
  cases s.syu.check.slip with
  | none => rfl
  | some x => exact congrArg some ((term_eq ..).trans (by rw [clamp_eq_max_min (by decide)]; rfl))

theorem State.speedStep_isoch (s : State) :
    s.speedStep .isoch = some (((s.gcu.lAvg - s.ownL) * (s.cfg.gL.toNat : Int)) / 4096 +
      (if s.currentSet.fBus = 0 then 0
        else (max (-500) (min 500 (s.gcu.fRef - (s.currentSet.fBus : Int))) * (s.cfg.gF.toNat : Int)) / 256)) := by
  simp only [State.speedStep, term_twelve, term_eight, clamp_eq_max_min (show (-500 : Int) ≤ 500 by decide)]

theorem State.voltStep_sync (s : State) :
    s.voltStep .sync = some ((max (-4096) (min 4096 ((s.currentSet.mag.va : Int) - (s.currentSet.mag.vl : Int)))
      * (s.cfg.gV.toNat : Int)) / 256) := by
  simp only [State.voltStep, term_eight, clamp_eq_max_min (show (-4096 : Int) ≤ 4096 by decide)]

theorem State.voltStep_isoch (s : State) :
    s.voltStep .isoch = some (((s.gcu.lqAvg - s.ownLq) * (s.cfg.gQ.toNat : Int)) / 4096 +
      (max (-1638) (min 1638 (16384 - (s.currentSet.vMin : Int))) * (s.cfg.gU.toNat : Int)) / 256) := by
  simp only [State.voltStep, term_twelve, term_eight, clamp_eq_max_min (show (-1638 : Int) ≤ 1638 by decide)]

theorem State.steps_of_target (s : State) :
    s.speedStep .base = some ((((s.cfg.lBase.toNat : Int) - s.ownL) * (s.cfg.gL.toNat : Int)) / 4096) ∧
      s.speedStep .unload = some (((s.gcu.ramp - s.ownL) * (s.cfg.gL.toNat : Int)) / 4096) ∧
      s.voltStep .base = some ((-s.ownLq * (s.cfg.gQ.toNat : Int)) / 4096) ∧
      s.voltStep .unload = some ((-s.ownLq * (s.cfg.gQ.toNat : Int)) / 4096) := by
  simp only [State.speedStep, State.voltStep, term_twelve, Int.zero_sub, and_self]

theorem referenceOf_incomer {r : BayRecord} {healthy : Bool} {f : Word} {o : Byte} (part : r.part = .incomer healthy f o) :
    referenceOf r = max 0 (min 65535 ((f.toNat : Int) + o.toInt)) := by
  unfold referenceOf
  rw [part]
  exact clamp_eq_max_min (show (0 : Int) ≤ 65535 by decide) _

theorem published_generator {r : BayRecord} {l rated : Word} {u : UnitState} {b : BiasMode}
    (part : r.part = .generator l rated u b) :
    publishedL r = l.toInt ∧
      (rated.toNat ≠ 0 → publishedLq r = max (-4096) (min 8191 ((r.q.toInt * 4096).tdiv rated.toNat))) := by
  unfold publishedL publishedLq
  rw [part]
  exact ⟨rfl, fun ne => loadFraction_of_rated _ ne⟩

/-! ### The droop condition (R159) -/

theorem State.peerLost_iff (s : State) (k : Station) :
    s.peerLost k = true ↔ s.gcu.lastSeen.get k = some .closed ∧ s.status k = .lost ∧ ∃ r, s.heldRec k = some r ∧
      r.role = .generator ∧ ∃ y, r.sect = some y ∧ (y = s.cfg.ownSec ∨ s.top.map = .joined) := by
  simp only [State.peerLost, Bool.and_eq_true, beq_iff_eq, Option.any_eq_true, BayRecord.inIsland_iff, and_assoc]

theorem State.peerNotValid_iff (s : State) (k : Station) :
    s.peerNotValid k = true ↔ ∃ r, s.usableRec k = some r ∧ r.role = .generator ∧
      (∃ y, r.sect = some y ∧ (y = s.cfg.ownSec ∨ s.top.map = .joined)) ∧ r.summary = .closed ∧ r.meas ≠ .valid := by
  simp only [State.peerNotValid, State.usableGenerator, State.usable_iff, Bool.and_eq_true, beq_iff_eq, bne_iff_ne,
    BayRecord.inIsland_iff, and_assoc]

/-- The droop condition by any functions that name the stations lost and the stations not VALID. -/
theorem State.droopNow_eq {s : State} {lost bad : Station → Bool}
    (isLost : ∀ k, lost k = true ↔ s.gcu.lastSeen.get k = some .closed ∧ s.status k = .lost ∧ ∃ r, s.heldRec k = some r ∧
      r.role = .generator ∧ ∃ y, r.sect = some y ∧ (y = s.cfg.ownSec ∨ s.top.map = .joined))
    (isBad : ∀ k, bad k = true ↔ ∃ r, s.usableRec k = some r ∧ r.role = .generator ∧
      (∃ y, r.sect = some y ∧ (y = s.cfg.ownSec ∨ s.top.map = .joined)) ∧ r.summary = .closed ∧ r.meas ≠ .valid) :
    s.droopNow = if s.top.map = .unknown then .mapUnknown else
      match allStations.find? lost, allStations.find? bad with
      | some k, _ => .peerLost k
      | none, some k => .peerNotValid k
      | none, none => .none := by
  obtain rfl : lost = s.peerLost := funext fun k => Bool.eq_iff_iff.mpr ((isLost k).trans (s.peerLost_iff k).symm)
  obtain rfl : bad = s.peerNotValid := funext fun k => Bool.eq_iff_iff.mpr ((isBad k).trans (s.peerNotValid_iff k).symm)
  unfold State.droopNow
  refine ite_of_iff Iff.rfl rfl ?_
  cases allStations.find? s.peerLost with
  | some k => rfl
  | none => cases allStations.find? s.peerNotValid <;> rfl

theorem State.gcuBias_gcu (s : State) : s.gcuBias.gcu = { s.gcu with
    mode := modeOf s.gcu.unit (s.droopNow != .none) s.top.own, droopCause := s.droopNow,
    speed := biasAfter (modeOf s.gcu.unit (s.droopNow != .none) s.top.own) s.gcu.speed
      (s.speedStep (modeOf s.gcu.unit (s.droopNow != .none) s.top.own)),
    volt := biasAfter (modeOf s.gcu.unit (s.droopNow != .none) s.top.own) s.gcu.volt
      (s.voltStep (modeOf s.gcu.unit (s.droopNow != .none) s.top.own)) } := by
  unfold State.gcuBias
  dsimp only
  split <;> rfl

theorem State.gcuBias_cfp (s : State) :
    s.gcuBias.cfp = if s.gcuBias.gcu.mode = .droop ∧ s.gcu.mode ≠ .droop then (s.raise .droop).cfp else s.cfp := by
  rw [State.gcuBias_gcu]
  unfold State.gcuBias
  dsimp only
  split <;> rfl

/-- Settles O41: the mode by the unit state, each correction by its terms, and the averages by the stations they are over. -/
theorem biasModeAndCodes : Obligations.BiasModeAndCodes := by
  refine ⟨fun s => ?_, fun m b d ne => biasAfter_of_step ne b d, fun s => ⟨fun ne => ⟨loadFraction_of_rated _ ne,
      loadFraction_of_rated _ ne⟩, ?_, ⟨s.speedStep_sync, s.voltStep_sync⟩, ⟨s.speedStep_isoch, s.voltStep_isoch⟩, s.steps_of_target⟩,
    fun s => ⟨fun k => ⟨fun r => State.gcuSeen_of_generator, State.gcuSeen_of_other⟩, fun share names rs same => ?_,
      fun resync names => ⟨(State.fRefNow_eq names).1, fun r rest healthy f o same part =>
        ((State.fRefNow_eq names).2 r rest same).trans (referenceOf_incomer part)⟩⟩,
    fun r l rated u b part => published_generator part, fun s lost bad isLost isBad =>
      ⟨State.droopNow_eq isLost isBad, by rw [State.gcuBias_gcu], fun droop before => ?_, fun other => ?_⟩⟩
  · have bias := s.gcuBias_gcu
    have mode := congrArg Gcu.mode bias
    have speed : s.gcuBias.gcu.speed = biasAfter s.gcuBias.gcu.mode s.gcu.speed (s.speedStep s.gcuBias.gcu.mode) := by
      rw [bias]
    have volt : s.gcuBias.gcu.volt = biasAfter s.gcuBias.gcu.mode s.gcu.volt (s.voltStep s.gcuBias.gcu.mode) := by
      rw [bias]
    refine ⟨speed, volt, mode.trans (modeOf_eq ..), fun off => ?_, fun droop => ?_⟩
    · rw [speed, volt, off]
      exact ⟨rfl, rfl⟩
    · rw [speed, volt, droop]
      exact ⟨rfl, rfl⟩
  · rintro m (rfl | rfl) <;> exact ⟨rfl, rfl⟩
  · have lAvg : s.gcuView.gcu.lAvg = average (rs.map publishedL) s.ownL := by
      rw [same, ← State.sharing_eq names]
      rfl
    have lqAvg : s.gcuView.gcu.lqAvg = average (rs.map publishedLq) s.ownLq := by
      rw [same, ← State.sharing_eq names]
      rfl
    rw [lAvg, lqAvg]
    refine ⟨fun none => by rw [none]; exact ⟨rfl, rfl⟩, fun some => ?_⟩
    have ne (f : BayRecord → Int) : rs.map f ≠ [] := by simpa using some
    rw [average_of_ne_nil (ne _), average_of_ne_nil (ne _), List.length_map, List.length_map]
    exact ⟨rfl, rfl⟩
  · have cfp := s.gcuBias_cfp
    rw [if_pos ⟨droop, before⟩] at cfp
    rw [State.pendingBit, cfp]
    exact s.raise_pendingBit .droop
  · exact s.gcuBias_cfp.trans (if_neg fun now => other.elim (· now.1) now.2)

end Sys2Proof.Machine
end

section
/-! PROOFS. The Feeder Control Unit: load, capacity and shed order, the counts, the shed and the restoration (O43), and the three
shed rows (O42). -/
namespace Sys2Proof.Machine

/-! ### Load and capacity (R164, R165) -/

theorem loadOf_eq (p : Int) : (loadOf p : Int) = max 0 (min 32767 (-p)) := by
  rw [loadOf, clamp_eq_max_min (by decide)]
  omega

theorem State.lastLoadNow_of_judged {s : State} {r : BayRecord} (usable : s.usableRec s.cfg.own = some r)
    (closed : r.summary = .closed) (valid : r.meas = .valid) (live : s.currentSet.busClass = .live) :
    s.lastLoadNow = loadOf r.p.toInt := by
  unfold State.lastLoadNow
  rw [usable]
  exact if_pos ⟨closed, valid, live⟩

theorem State.lastLoadNow_of_other {s : State} (other : s.usableRec s.cfg.own = none ∨ s.currentSet.busClass ≠ .live ∨
    ∃ r, s.usableRec s.cfg.own = some r ∧ (r.summary ≠ .closed ∨ r.meas ≠ .valid)) : s.lastLoadNow = s.fcu.lastLoad := by
  unfold State.lastLoadNow
  cases usable : s.usableRec s.cfg.own with
  | none => rfl
  | some r =>
    refine if_neg ?_
    rintro ⟨closed, valid, live⟩
    rcases other with none | away | ⟨q, usable', off⟩
    · cases usable.symm.trans none
    · exact away live
    · cases usable.symm.trans usable'
      exact off.elim (· closed) (· valid)

theorem State.islandFeeder_iff (s : State) (k : Station) (r : BayRecord) :
    s.islandFeeder k = some r ↔ s.usableRec k = some r ∧ r.role = .feeder ∧
      ∃ y, r.sect = some y ∧ (y = s.cfg.ownSec ∨ s.top.map = .joined) := by
  rw [← BayRecord.inIsland_iff]
  unfold State.islandFeeder
  cases s.usableRec k with
  | none => simp
  | some q =>
    dsimp only
    rw [Option.ite_none_right_eq_some, Option.some_inj]
    constructor
    · rintro ⟨shares, rfl⟩
      exact ⟨rfl, shares⟩
    · rintro ⟨rfl, shares⟩
      exact ⟨shares, rfl⟩

theorem State.capacity_eq (s : State) :
    s.capacity = sumNat (allStations.map fun k => match s.usableRec k with
      | some r => (match r.part, r.sect with
        | .generator _ rated _ _, some y =>
          if (y = s.cfg.ownSec ∨ s.top.map = .joined) ∧ r.summary = .closed then rated.toNat else 0
        | _, _ => 0)
      | none => 0) := by
  unfold State.capacity
  refine congrArg sumNat (List.map_congr_left fun k _ => ?_)
  cases s.usableRec k with
  | none => rfl
  | some r =>
    dsimp only
    cases part : r.part with
    | generator l rated u b =>
      cases sect : r.sect with
      | none => exact if_neg fun shares => by simp [BayRecord.inIsland_iff, sect] at shares
      | some y => exact ite_of_iff (by simp [BayRecord.inIsland_iff, sect]) rfl rfl
    | _ => cases r.sect <;> rfl

theorem State.standsBefore_iff (s : State) (k : Station) (r : BayRecord) : s.standsBefore k r = true ↔
    priorityOf r < s.cfg.priority.toNat ∨ (priorityOf r = s.cfg.priority.toNat ∧ k < s.cfg.own) := by
  simp [State.standsBefore]

theorem sum_map_filterMap {α β : Type} (h : α → Option β) (g : β → Nat) (l : List α) :
    ((l.filterMap h).map g).sum = (l.map fun k => ((h k).map g).getD 0).sum := by
  induction l with
  | nil => rfl
  | cons x xs ih => cases found : h x <;> simp [found, ih]

/-- A sum over all stations in which one alone counts. -/
theorem sum_allStations_single (own : Station) (n : Nat) : (allStations.map fun k => if k = own then n else 0).sum = n := by
  have distinct : allStations.Nodup := by decide
  have alone : allStations.filter (fun k => decide (k = own)) = [own] :=
    (eq_singleton_iff_of_nodup (List.Pairwise.filter _ distinct) own).mpr fun k => by
      rw [List.mem_filter, decide_eq_true_iff]
      exact and_iff_right (mem_allStations k)
  have counted := sum_map_filter Nat.zero_add (fun k => decide (k = own)) (fun _ => n) allStations
  rw [alone] at counted
  simp only [decide_eq_true_iff] at counted
  exact counted.symm

theorem sum_map_add {α : Type} (f g : α → Nat) (l : List α) :
    (l.map fun k => f k + g k).sum = (l.map f).sum + (l.map g).sum := by
  induction l with
  | nil => rfl
  | cons x xs ih =>
    simp only [List.map_cons, List.sum_cons, ih]
    omega

/-- The counted loads at or before the own place, over all stations (R165). -/
theorem State.cumulative_eq (s : State) :
    sumNat (s.feedersBefore.map countedLoad) + s.ownCounted =
      sumNat (allStations.map fun k => match s.islandFeeder k with
        | some r => if k = s.cfg.own ∨ priorityOf r < s.cfg.priority.toNat ∨
            (priorityOf r = s.cfg.priority.toNat ∧ k < s.cfg.own) then countedLoad r else 0
        | none => 0) := by
  rw [sumNat_eq_sum, sumNat_eq_sum, State.feedersBefore, sum_map_filterMap,
    ← sum_allStations_single s.cfg.own s.ownCounted, ← sum_map_add]
  refine congrArg List.sum (List.map_congr_left fun k _ => ?_)
  by_cases own : k = s.cfg.own
  · subst own
    unfold State.ownCounted
    cases s.islandFeeder s.cfg.own <;> simp
  · cases s.islandFeeder k with
    | none => simp [own]
    | some r =>
      simp only [own, false_or, ← State.standsBefore_iff, if_false, Nat.add_zero, ne_eq, not_false_eq_true, true_and]
      cases s.standsBefore k r <;> rfl

theorem State.feedersBefore_length (s : State) :
    s.feedersBefore.length = (allStations.filter fun k => k ≠ s.cfg.own ∧ (s.islandFeeder k).any fun r =>
      priorityOf r < s.cfg.priority.toNat ∨ (priorityOf r = s.cfg.priority.toNat ∧ k < s.cfg.own)).length := by
  unfold State.feedersBefore
  rw [List.length_filterMap_eq_countP, List.countP_eq_length_filter]
  refine congrArg List.length (List.filter_congr fun k _ => ?_)
  cases s.islandFeeder k with
  | none => simp
  | some r =>
    rw [Bool.eq_iff_iff]
    simp only [← State.standsBefore_iff, Option.any_some, decide_eq_true_eq]
    split <;> simp_all

/-! ### The counts (R166 to R168) -/

theorem State.shedActs_iff (s : State) : s.shedActs = true ↔ s.fcu.state = .normal ∧ s.bcu.state = .closed := by
  simp [State.shedActs]

theorem State.overLimit_iff (s : State) : s.overLimit = true ↔ s.fcu.state = .normal ∧ s.bcu.state = .closed ∧
    s.top.own = .genset ∧ ∃ v, s.fcu.view = some v ∧ v.limit < v.cumulative := by
  simp [State.overLimit, State.shedActs_iff, Option.any_eq_true, and_assoc]

theorem State.underStage_iff (s : State) (st : Stage) : s.underStage st = true ↔
    (s.cfg.stage st).threshold.toNat ≤ s.cfg.priority.toNat ∧ s.fcu.state = .normal ∧ s.bcu.state = .closed ∧
      s.currentSet.meas = .valid ∧ s.currentSet.fBus ≠ 0 ∧ s.currentSet.fBus < (s.cfg.stage st).pickup.toNat := by
  simp [State.underStage, State.shedActs_iff, and_assoc]

theorem State.deadIsland_iff (s : State) : s.deadIsland = true ↔
    s.cfg.pDead.toNat ≤ s.cfg.priority.toNat ∧ s.fcu.state = .normal ∧ s.bcu.state = .closed ∧ s.top.own = .dead := by
  simp [State.deadIsland, State.shedActs_iff, and_assoc]

theorem State.fcuCounts_stageCount (s : State) (st : Stage) :
    s.fcuCounts.fcu.stageCount st = if s.underStage st then s.fcu.stageCount st + 1 else 0 := by
  cases st <;> rfl

/-- The reason of a shed that is due, by any function that says which counts have reached. -/
theorem State.shedDue_eq {s : State} {due : ShedReason → Bool}
    (capacity : due .capacity = true ↔ s.fcu.overCount = 2)
    (first : due .underfreq1 = true ↔ s.cfg.stage1.delay.toNat ≤ s.fcu.stage1 ∧ s.fcu.stage1 ≠ 0)
    (second : due .underfreq2 = true ↔ s.cfg.stage2.delay.toNat ≤ s.fcu.stage2 ∧ s.fcu.stage2 ≠ 0)
    (deadbus : due .deadbus = true ↔ s.fcu.dead = 2) :
    s.shedDue = [ShedReason.capacity, .underfreq1, .underfreq2, .deadbus].find? due := by
  unfold State.shedDue
  simp only [← capacity, ← first, ← second, ← deadbus, List.find?_cons, List.find?_nil]
  cases due .capacity <;> cases due .underfreq1 <;> cases due .underfreq2 <;> cases due .deadbus <;> rfl

/-! ### The shed (R169) -/

/-- A trip of a CLOSED breaker leaves FCU (R109). -/
theorem State.tripRequest_fcu_of_closed {s : State} (closed : s.bcu.state = .closed) : s.tripRequest.fcu = s.fcu := by
  have tripped : (s.withBcu fun b => { b with trippedNow := true }).bfRequest.bcuTrip.fcu = s.fcu := by
    unfold State.bcuTrip
    rw [State.bfRequest_bcu, State.withBcu_bcu, closed]
    show (State.bfRequest _).fcu = _
    unfold State.bfRequest
    split <;> rfl
  unfold State.tripRequest State.syuEndChecking
  dsimp only
  split
  · rw [(State.syuEnd_noted_owner _ rfl).2.1, tripped]
  · exact tripped

theorem State.shed_fcu_of_closed {s : State} (closed : s.bcu.state = .closed) (why : ShedReason) :
    (s.shed why).fcu = { s.fcu with
      state := .shed, reason := why, held := s.fcu.lastLoad, overCount := 0, stage1 := 0, stage2 := 0, dead := 0 } := by
  have shed : (s.shed why).fcu = { s.tripRequest.fcu with
    state := .shed, reason := why, held := s.tripRequest.fcu.lastLoad, overCount := 0, stage1 := 0, stage2 := 0,
    dead := 0 } := rfl
  rw [shed, State.tripRequest_fcu_of_closed closed]

theorem State.shed_bcu (s : State) (why : ShedReason) : (s.shed why).bcu = s.tripRequest.bcu := rfl
theorem State.shed_dbu (s : State) (why : ShedReason) : (s.shed why).dbu = s.tripRequest.dbu := rfl

theorem State.shed_pendingBit (s : State) (why : ShedReason) : (s.shed why).pendingBit .shed = true :=
  State.raise_pendingBit ..

theorem State.cons_shed (s : State) (why : ShedReason) : State.Consequence s (s.shed why) :=
  ((s.cons_tripRequest).trans (.withFcu ..)).trans (.raise ..)

/-! ### FCU at a cycle close (R164 to R172) -/

theorem State.foundClosed_iff (s : State) : s.foundClosed = true ↔ s.bcu.state = .closed ∧
    (s.fcu.state = .shed ∨ s.fcu.state = .manualOpen ∨
      (s.fcu.state = .restoring ∧ ∀ f, s.clu.inFlight = some f → f.kind ≠ .restore)) := by
  simp [State.foundClosed, State.restoreInFlight, Option.any_eq_false, or_assoc]

theorem State.fcuClose_of_feeder {s : State} (feeder : s.cfg.role = some .feeder) :
    s.fcuClose = match s.fcuView.fcuOperator.fcuCounts.shedDue with
      | some why => s.fcuView.fcuOperator.fcuCounts.shed why
      | none =>
        if s.fcuView.fcuOperator.fcuCounts.foundClosed then
          s.fcuView.fcuOperator.fcuCounts.withFcu fun f => { f.toNormal with cause := .none }
        else s.fcuView.fcuOperator.fcuCounts.fcuRestore := by
  unfold State.fcuClose
  rw [if_pos ((Settings.isRole_iff ..).mpr feeder)]
  rfl

/-! ### Restoration (R170, R171) -/

theorem State.frequencyBack_iff (s : State) : s.frequencyBack = true ↔
    ∀ st : Stage, (s.fcu.reason = match st with | .one => .underfreq1 | .two => .underfreq2) →
      s.currentSet.meas = .valid ∧ s.currentSet.fBus ≠ 0 ∧ (s.cfg.stage st).pickup.toNat ≤ s.currentSet.fBus := by
  have stages (p : Stage → Prop) : (∀ st, p st) ↔ p .one ∧ p .two :=
    ⟨fun all => ⟨all .one, all .two⟩, fun both st => by cases st; exact both.1; exact both.2⟩
  rw [stages]
  unfold State.frequencyBack
  cases s.fcu.reason <;> simp [stageOf, and_assoc]

theorem State.breakerAtClose_eq_opened_iff (s : State) :
    s.breakerAtClose = .opened ↔ s.bcu.state = .opened ∨ (s.bcu.state = .closing ∧ s.bcu.acceptedNow = true) := by
  rw [State.breakerAtClose_eq]
  by_cases now : s.bcu.acceptedNow = true ∧ s.bcu.state = .closing
  · simp [now]
  · rw [if_neg now]
    exact ⟨.inl, Or.rec id fun accepted => absurd accepted.symm now⟩

theorem State.restoreConditions_iff (s : State) : s.restoreConditions = true ↔ s.tru.mode = .auto ∧
    (s.bcu.state = .opened ∨ (s.bcu.state = .closing ∧ s.bcu.acceptedNow = true)) ∧ s.frequencyBack = true ∧
    (s.top.own = .grid ∨ (s.top.own = .genset ∧ ∃ v, s.fcu.view = some v ∧ v.cumulative + s.fcu.held ≤ v.limit)) := by
  rw [← State.breakerAtClose_eq_opened_iff]
  simp only [State.restoreConditions, Bool.and_eq_true, Bool.or_eq_true, beq_iff_eq, Option.any_eq_true, decide_eq_true_eq,
    and_assoc]
  exact and_congr_right fun _ => and_congr_right fun _ => and_comm

theorem State.restoreTravels_iff (s : State) :
    s.restoreTravels = true ↔ s.bcu.acceptedNow = false ∧ ∃ f, s.clu.inFlight = some f ∧ f.kind = .restore := by
  simp [State.restoreTravels, State.restoreInFlight, Option.any_eq_true, and_comm]

/-- A raise that is not RAISED leaves the state, but for what TRU notes. -/
theorem State.cluRaise_of_refused {s : State} {o : Origin} (other : o ≠ .tru) {restore : Bool} {x : Sec} {dd : Bool}
    (refused : (s.cluRaise o restore x dd).2 ≠ .raised) : (s.cluRaise o restore x dd).1 = s := by
  have clu := (State.cluRaise_clu s o restore x dd).trans (if_neg refused)
  rw [State.cluRaise_only other, clu]

/-- SHED at a cycle close, by the answer its raise would be given (R170, R171). -/
theorem State.fcuRestore_of_shed {s : State} (shed : s.fcu.state = .shed) :
    s.fcuRestore =
      if s.restoreConditions = true ∧ s.fcu.heardNow = false ∧ (s.cluRaise .fcu true s.cfg.ownSec).2 = .raised then
        { (s.cluRaise .fcu true s.cfg.ownSec).1 with fcu := { s.fcu with state := .restoring } }
      else s := by
  unfold State.fcuRestore
  rw [shed]
  dsimp only
  by_cases tried : s.restoreConditions = true ∧ s.fcu.heardNow = false
  · rw [if_pos (by simp [tried])]
    have kept : (s.cluRaise .fcu true s.cfg.ownSec).1.fcu = s.fcu := by rw [State.cluRaise_only (by decide)]
    have refused := State.cluRaise_of_refused (s := s) (o := .fcu) (by decide) (restore := true) (x := s.cfg.ownSec)
      (dd := false)
    by_cases raised : (s.cluRaise .fcu true s.cfg.ownSec).2 = .raised
    · rw [if_pos ⟨tried.1, tried.2, raised⟩]
      revert raised kept
      generalize s.cluRaise .fcu true s.cfg.ownSec = answer
      rintro kept raised
      obtain ⟨t, a⟩ := answer
      cases raised
      show ({ t with fcu := { t.fcu with state := .restoring } } : State) = _
      rw [show t.fcu = s.fcu from kept]
    · rw [if_neg fun all => raised all.2.2]
      have stands := refused raised
      revert raised stands
      generalize s.cluRaise .fcu true s.cfg.ownSec = answer
      rintro raised stands
      obtain ⟨t, a⟩ := answer
      cases stands
      cases a <;> first | rfl | exact absurd rfl raised
  · rw [if_neg (by simpa using tried), if_neg fun all => tried ⟨all.1, all.2.1⟩]

theorem State.fcuRestore_of_restoring {s : State} (restoring : s.fcu.state = .restoring) :
    s.fcuRestore = if s.restoreTravels = true ∨ s.restoreConditions = true then s
      else { s.cancelClaim .fcu with fcu := { s.fcu with state := .shed } } := by
  unfold State.fcuRestore
  rw [restoring]
  refine ite_of_iff (by rw [Bool.or_eq_true]) rfl ?_
  have kept : (s.cancelClaim .fcu).fcu = s.fcu := by rw [State.cancelClaim_only]
  show ({ s.cancelClaim .fcu with fcu := { (s.cancelClaim .fcu).fcu with state := .shed } } : State) = _
  rw [kept]

theorem State.fcuRestore_of_rest {s : State} (rest : s.fcu.state = .normal ∨ s.fcu.state = .manualOpen) : s.fcuRestore = s := by
  unfold State.fcuRestore
  rcases rest with h | h <;> rw [h]

/-- Settles O43: FCU part by part, each by its equation. -/
theorem feederAtACycleClose : Obligations.FeederAtACycleClose := by
  refine ⟨fun s => ⟨fun r usable closed valid live => ?load, State.lastLoadNow_of_other, fun unknown => if_pos unknown,
      fun known => ⟨_, if_neg known, rfl, s.capacity_eq, s.cumulative_eq, ?position⟩, s.islandFeeder_iff⟩,
    fun s => ⟨fun none => if_neg (by simp [none]), fun pending => ?operator⟩, fun s exceeds over_ => ?counts,
    fun s due => State.shedDue_eq, fun s why closed => ⟨State.shed_fcu_of_closed closed why, s.shed_pendingBit why, rfl, rfl⟩,
    fun s => ⟨fun other => if_neg fun role => other ((Settings.isRole_iff ..).mp role), fun feeder u same found isFound => ?close⟩,
    fun s back ok closing isBack isOk isClosing => ?restore, fun s a => ⟨fun manual => if_pos manual, fun away => ?hear⟩⟩
  case load =>
    rw [State.lastLoadNow_of_judged usable closed valid live]
    exact loadOf_eq _
  case position =>
    exact (congrArg (· + 1) s.feedersBefore_length).trans (Nat.add_comm ..)
  case operator =>
    have opens : s.fcuOperator = (s.cancelClaim .fcu).tripRequest.withFcu fun f => { f with openPending := false } :=
      if_pos pending
    rw [opens]
    exact ⟨rfl, rfl, rfl⟩
  case counts =>
    obtain rfl : exceeds = s.overLimit := Bool.eq_iff_iff.mpr (over_.trans s.overLimit_iff.symm)
    refine ⟨rfl, rfl, rfl, fun st under isUnder => ?_, fun dead isDead => ?_⟩
    · obtain rfl : under = s.underStage st := Bool.eq_iff_iff.mpr (isUnder.trans (s.underStage_iff st).symm)
      exact s.fcuCounts_stageCount st
    · obtain rfl : dead = s.deadIsland := Bool.eq_iff_iff.mpr (isDead.trans s.deadIsland_iff.symm)
      rfl
  case close =>
    obtain rfl : u = s.fcuView.fcuOperator.fcuCounts := same
    obtain rfl : found = s.fcuView.fcuOperator.fcuCounts.foundClosed :=
      Bool.eq_iff_iff.mpr (isFound.trans (State.foundClosed_iff _).symm)
    have closes := State.fcuClose_of_feeder feeder
    refine ⟨fun why due => ?_, fun none => ?_⟩
    · rw [closes, due]
    · rw [closes, none]
      rfl
  case restore =>
    obtain rfl : back = s.frequencyBack := Bool.eq_iff_iff.mpr (isBack.trans s.frequencyBack_iff.symm)
    obtain rfl : ok = s.restoreConditions := Bool.eq_iff_iff.mpr (isOk.trans s.restoreConditions_iff.symm)
    obtain rfl : closing = s.restoreTravels := Bool.eq_iff_iff.mpr (isClosing.trans s.restoreTravels_iff.symm)
    refine ⟨fun shed => ?_, State.fcuRestore_of_restoring, State.fcuRestore_of_rest⟩
    rw [State.fcuRestore_of_shed shed]
    refine ⟨fun rest => if_neg fun all => ?_, fun may unheard => ⟨fun raised => if_pos ⟨may, unheard, raised⟩,
      fun refused => if_neg fun all => refused all.2.2⟩⟩
    rcases rest with never | heard
    · cases never.symm.trans all.1
    · cases heard.symm.trans all.2.1
  case hear =>
    have heard : s.fcuHear a = _ := if_neg away
    refine ⟨?_, ?_, ?_, ?_⟩
    · rintro rfl
      rw [heard]
      exact ⟨rfl, State.raise_pendingBit ..⟩
    · rintro (rfl | rfl | rfl) <;> exact heard
    · rintro rfl
      exact heard
    · rintro (rfl | rfl | ⟨r, rfl, ne⟩)
      · exact heard
      · exact heard
      · cases r <;> first | exact absurd rfl ne | exact heard

/-! ### The shed rows (R166 to R169, log 11) -/

theorem State.atClose_lastLoadNow (s : State) : s.atClose.lastLoadNow = s.lastLoadNow := by
  unfold State.lastLoadNow
  simp only [State.atClose_usableRec, State.atClose_cfg, State.atClose_currentSet, State.atClose_fcu]

/-- FCU as the cycle close of a row forms it (R164, R165). -/
theorem State.rowView_fcu (s : State) : s.atClose.fcuView.fcu = { s.fcu with
    heardNow := false, lastLoad := s.lastLoadNow, view := s.atClose.feederView } := by
  show ({ s.atClose.fcu with lastLoad := s.atClose.lastLoadNow, view := s.atClose.feederView } : Fcu) = _
  rw [State.atClose_lastLoadNow, State.atClose_fcu]

theorem State.rowView_bcu (s : State) : s.atClose.fcuView.bcu.state = s.bcu.state := by
  show s.atClose.bcu.state = _
  rw [State.atClose_bcu]

theorem State.rowView_cfg (s : State) : s.atClose.fcuView.cfg = s.cfg := s.atClose_cfg

theorem State.fcuView_currentSet (s : State) : s.fcuView.currentSet = s.currentSet := rfl

theorem State.rowView_currentSet (s : State) : s.atClose.fcuView.currentSet = s.currentSet := by
  rw [State.fcuView_currentSet, State.atClose_currentSet]

theorem State.rowView_feederRuns {s : State} (run : s.cfp.run = .run) (feeder : s.cfg.role = some .feeder) :
    s.atClose.fcuView.feederRuns = true := by
  have running : s.atClose.fcuView.running = true := (s.atClose_running).trans (State.running_of_run run)
  rw [State.feederRuns, running, State.rowView_cfg, (Settings.isRole_iff ..).mpr feeder]
  rfl

theorem satInc_two_eq_two_iff (n : Nat) : satInc 2 n = 2 ↔ 1 ≤ n := by
  unfold satInc
  omega

/-- CAPACITY_SHED's test of a row's cycle close (R166). -/
theorem State.rowView_overCount {s : State} (normal : s.fcu.state = .normal) (closed : s.bcu.state = .closed) :
    s.atClose.fcuView.fcuCounts.fcu.overCount = 2 ↔ s.fcu.guard = 0 ∧ 1 ≤ s.fcu.overCount ∧ s.atClose.top.own = .genset ∧
      ∃ v, s.atClose.feederView = some v ∧ v.limit < v.cumulative := by
  have counted : s.atClose.fcuView.fcuCounts.fcu.overCount =
      if 0 < s.atClose.fcuView.fcu.guard then 0
      else if s.atClose.fcuView.overLimit then satInc 2 s.atClose.fcuView.fcu.overCount else 0 := rfl
  have limit := s.atClose.fcuView.overLimit_iff
  rw [State.rowView_fcu, State.rowView_bcu] at limit
  rw [counted, State.rowView_fcu]
  by_cases guard : s.fcu.guard = 0
  · rw [if_neg (by simp [guard])]
    by_cases exceeds : s.atClose.fcuView.overLimit = true
    · rw [if_pos exceeds, satInc_two_eq_two_iff]
      obtain ⟨-, -, genset, view⟩ := limit.mp exceeds
      exact ⟨fun counted => ⟨guard, counted, genset, view⟩, fun all => all.2.1⟩
    · rw [if_neg exceeds]
      exact ⟨nofun, fun ⟨_, _, genset, view⟩ => absurd (limit.mpr ⟨normal, closed, genset, view⟩) exceeds⟩
  · rw [if_pos (Nat.pos_of_ne_zero guard)]
    exact ⟨nofun, fun all => absurd all.1 guard⟩

/-- A stage's test of a row's cycle close (R167). -/
theorem State.rowView_stage {s : State} (normal : s.fcu.state = .normal) (closed : s.bcu.state = .closed) (st : Stage) :
    ((s.cfg.stage st).delay.toNat ≤ s.atClose.fcuView.fcuCounts.fcu.stageCount st ∧
        s.atClose.fcuView.fcuCounts.fcu.stageCount st ≠ 0) ↔
      (s.cfg.stage st).threshold.toNat ≤ s.cfg.priority.toNat ∧ s.currentSet.meas = .valid ∧
        s.currentSet.fBus ≠ 0 ∧ s.currentSet.fBus < (s.cfg.stage st).pickup.toNat ∧
        (s.cfg.stage st).delay.toNat ≤ s.fcu.stageCount st + 1 := by
  have under := s.atClose.fcuView.underStage_iff st
  rw [State.rowView_fcu, State.rowView_bcu, State.rowView_cfg, State.rowView_currentSet] at under
  have kept : s.atClose.fcuView.fcu.stageCount st = s.fcu.stageCount st := by
    rw [State.rowView_fcu]
    cases st <;> rfl
  rw [State.fcuCounts_stageCount, kept]
  by_cases below : s.atClose.fcuView.underStage st = true
  · rw [if_pos below]
    obtain ⟨threshold, -, -, valid, judged, pickup⟩ := under.mp below
    exact ⟨fun reached => ⟨threshold, valid, judged, pickup, reached.1⟩, fun all => ⟨all.2.2.2.2, Nat.succ_ne_zero _⟩⟩
  · rw [if_neg below]
    exact ⟨fun reached => absurd rfl reached.2, fun ⟨threshold, valid, judged, pickup, _⟩ =>
      absurd (under.mpr ⟨threshold, normal, closed, valid, judged, pickup⟩) below⟩

/-- DEADBUS_SHED's test of a row's cycle close (R168). -/
theorem State.rowView_dead {s : State} (normal : s.fcu.state = .normal) (closed : s.bcu.state = .closed) :
    s.atClose.fcuView.fcuCounts.fcu.dead = 2 ↔
      s.cfg.pDead.toNat ≤ s.cfg.priority.toNat ∧ s.atClose.top.own = .dead ∧ 1 ≤ s.fcu.dead := by
  have counted : s.atClose.fcuView.fcuCounts.fcu.dead =
      if s.atClose.fcuView.deadIsland then satInc 2 s.atClose.fcuView.fcu.dead else 0 := rfl
  have island := s.atClose.fcuView.deadIsland_iff
  rw [State.rowView_fcu, State.rowView_bcu, State.rowView_cfg] at island
  rw [counted, State.rowView_fcu]
  by_cases dead : s.atClose.fcuView.deadIsland = true
  · rw [if_pos dead, satInc_two_eq_two_iff]
    obtain ⟨priority, -, -, own⟩ := island.mp dead
    exact ⟨fun reached => ⟨priority, own, reached⟩, fun all => all.2.2⟩
  · rw [if_neg dead]
    exact ⟨nofun, fun ⟨priority, own, _⟩ => absurd (island.mpr ⟨priority, normal, closed, own⟩) dead⟩

theorem exec_capacityShed_of_due {s : State} (runs : s.atClose.fcuView.feederRuns = true) (guard : s.fcu.guard = 0)
    (exceeds : s.atClose.fcuView.overLimit = true) (due : 1 ≤ s.fcu.overCount) :
    exec .capacityShed s = .next (s.atClose.fcuView.firstShed.standing s) :=
  congrArg Host.Outcome.next (if_pos (by simp [runs, guard, exceeds, due]))

theorem exec_underfreqShed_of_due {s : State} {st : Stage} (runs : s.atClose.fcuView.feederRuns = true)
    (under : s.underStage st = true) (due : (s.cfg.stage st).delay.toNat ≤ s.fcu.stageCount st + 1) :
    exec (.underfreqShed st) s = .next (s.atClose.fcuView.firstShed.standing s) :=
  congrArg Host.Outcome.next (if_pos (by simp [runs, under, due]))

theorem exec_deadbusShed_of_due {s : State} (runs : s.atClose.fcuView.feederRuns = true)
    (dead : s.atClose.fcuView.deadIsland = true) (due : 1 ≤ s.fcu.dead) :
    exec .deadbusShed s = .next (s.atClose.fcuView.firstShed.standing s) :=
  congrArg Host.Outcome.next (if_pos (by simp [runs, dead, due]))

theorem State.firstShed_of_due {s : State} {why : ShedReason} (due : s.fcuCounts.shedDue = some why) :
    s.firstShed = s.shed why := by
  unfold State.firstShed
  rw [due]

/-- The one shed of a row, for its reason (R169). -/
theorem State.rowShed {s : State} (closed : s.bcu.state = .closed) (why : ShedReason) :
    State.Consequence s ((s.atClose.fcuView.shed why).standing s) ∧
      ((s.atClose.fcuView.shed why).standing s).fcu = { s.fcu with
        state := .shed, reason := why, held := s.lastLoadNow, lastLoad := s.lastLoadNow, view := s.atClose.feederView,
        overCount := 0, stage1 := 0, stage2 := 0, dead := 0 } ∧
      (((s.atClose.fcuView.shed why).standing s).bcu.state = .opening ∧
        ((s.atClose.fcuView.shed why).standing s).bcu.trip = true ∧
        ((s.atClose.fcuView.shed why).standing s).bcu.close = false ∧
        ((s.atClose.fcuView.shed why).standing s).bcu.hold = 0) ∧
      ((s.atClose.fcuView.shed why).standing s).dbu.lockout = s.dbu.lockout ∧
        ((s.atClose.fcuView.shed why).standing s).pendingBit .shed = true := by
  have shut : s.atClose.fcuView.bcu.state = .closed := s.rowView_bcu.trans closed
  have made : State.Consequence s.atClose (s.atClose.fcuView.shed why) :=
    (s.atClose.told_fcuView.toConsequence).trans (State.cons_shed ..)
  have fcu := State.shed_fcu_of_closed shut why
  rw [State.rowView_fcu] at fcu
  have bcu : (s.atClose.fcuView.shed why).bcu = { s.atClose.fcuView.bcu.assertTrip with trippedNow := true } :=
    State.tripRequest_of_closed shut
  refine ⟨State.cons_standing made, ?_, ?_, ?_, s.atClose.fcuView.shed_pendingBit why⟩
  · rw [State.standing_of_cons made, fcu]
  · rw [State.standing_bcu, bcu]
    exact ⟨rfl, rfl, rfl, rfl⟩
  · rw [State.standing_dbu, State.shed_dbu, State.tripRequest_lockout]
    exact congrArg Dbu.lockout s.atClose_dbu

/-- Settles O42: the rows' tests are those of the counts at their last tick, and the one shed has the first that reached. -/
theorem feederSheds : Obligations.FeederSheds := by
  intro s c why cap dead under run feeder normal closed isCap isUnder isDead row reason
  have runs := State.rowView_feederRuns run feeder
  have capacity := (State.rowView_overCount normal closed).trans isCap.symm
  have deadbus := (State.rowView_dead normal closed).trans isDead.symm
  have stage (st : Stage) : ((s.cfg.stage st).delay.toNat ≤ s.atClose.fcuView.fcuCounts.fcu.stageCount st ∧
      s.atClose.fcuView.fcuCounts.fcu.stageCount st ≠ 0) ↔ under st := by
    rw [State.rowView_stage normal closed, isUnder]
    cases st <;> rfl
  have due : s.atClose.fcuView.fcuCounts.shedDue = some why := by
    have first := stage .one
    have second := stage .two
    have stages : s.atClose.fcuView.fcuCounts.cfg = s.cfg := s.rowView_cfg
    unfold State.shedDue
    rw [stages]
    rcases reason with ⟨rfl, c⟩ | ⟨rfl, nc, u1⟩ | ⟨rfl, nc, n1, u2⟩ | ⟨rfl, nc, n1, n2, d⟩
    · exact if_pos (capacity.mpr c)
    · exact (if_neg (mt capacity.mp nc)).trans (if_pos (first.mpr u1))
    · exact ((if_neg (mt capacity.mp nc)).trans (if_neg (mt first.mp n1))).trans (if_pos (second.mpr u2))
    · exact (((if_neg (mt capacity.mp nc)).trans (if_neg (mt first.mp n1))).trans (if_neg (mt second.mp n2))).trans
        (if_pos (deadbus.mpr d))
  have made : exec c s = .next (s.atClose.fcuView.firstShed.standing s) := by
    rcases row with ⟨rfl, holds⟩ | ⟨st, rfl, holds⟩ | ⟨rfl, holds⟩
    · obtain ⟨guard, counted, genset, view⟩ := isCap.mp holds
      refine exec_capacityShed_of_due runs guard ((State.overLimit_iff _).mpr ?_) counted
      rw [State.rowView_fcu, State.rowView_bcu]
      exact ⟨normal, closed, genset, view⟩
    · obtain ⟨threshold, valid, judged, pickup, reached⟩ := (isUnder st).mp holds
      refine exec_underfreqShed_of_due runs ((s.underStage_iff st).mpr ⟨threshold, normal, closed, valid, judged, pickup⟩) ?_
      cases st <;> exact reached
    · obtain ⟨priority, own, counted⟩ := isDead.mp holds
      refine exec_deadbusShed_of_due runs ((State.deadIsland_iff _).mpr ?_) counted
      rw [State.rowView_fcu, State.rowView_bcu, State.rowView_cfg]
      exact ⟨priority, normal, closed, own⟩
  rw [made, State.firstShed_of_due due]
  exact ⟨_, rfl, State.rowShed closed why⟩

end Sys2Proof.Machine
end

section
/-! PROOFS. The Transfer Unit at a cycle close of an incomer: health, flags, reference and the tests of each state (O45). -/
namespace Sys2Proof.Machine

/-! ### Health (R174) -/

theorem healthOf_iff (c : Settings) (r : ResultSet) : healthOf c r = true ↔ r.meas = .valid ∧
    c.vULo.toNat ≤ r.mag.vl ∧ r.mag.vl ≤ c.vUHi.toNat ∧ c.fULo.toNat ≤ r.fLine ∧ r.fLine ≤ c.fUHi.toNat := by
  simp [healthOf, and_assoc]

theorem State.truHealth_of_incomer {s : State} (incomer : s.cfg.role = some .incomer) :
    s.truHealth.tru = { s.tru with
      healthy := healthOf s.cfg s.currentSet, judged := s.currentSet.meas == .valid, healthLine := s.currentSet.fLine,
      run := if s.currentSet.meas = .valid then
        (if healthOf s.cfg s.currentSet then min 65535 (s.tru.run + 1) else 0) else s.tru.run } :=
  congrArg State.tru (if_pos ((Settings.isRole_iff ..).mpr incomer))

theorem State.utilityHealthy_iff (s : State) :
    s.utilityHealthy = true ↔ s.tru.judged = true ∧ s.tru.healthy = true := by simp [State.utilityHealthy]

theorem State.utilityUnhealthy_iff (s : State) :
    s.utilityUnhealthy = true ↔ s.tru.judged = true ∧ s.tru.healthy = false := by simp [State.utilityUnhealthy]

/-! ### Claims and attempts of TRU (R176) -/

theorem State.truClaims_iff (s : State) : s.truClaims = true ↔ ∃ c, s.clu.claim = some c ∧ c.origin = .tru := by
  simp [State.truClaims, Option.any_eq_true]

theorem State.truClaims_eq_false_iff (s : State) :
    s.truClaims = false ↔ ∀ c, s.clu.claim = some c → c.origin ≠ .tru := by
  rw [← Bool.not_eq_true, State.truClaims_iff]
  simp

theorem State.truClosing_iff (s : State) : s.truClosing = true ↔ ∃ f, s.clu.inFlight = some f ∧ f.origin = .tru := by
  simp [State.truClosing, Option.any_eq_true]

theorem State.truAttempts_iff (s : State) : s.truAttempts = true ↔ s.syu.state ≠ .idle ∧ s.syu.owner = some .tru := by
  simp [State.truAttempts]

/-! ### Flags and reference (R175) -/

theorem demandStands_iff (x : TransferState) (own : IslandState) : demandStands x own = true ↔
    x = .deadWait ∨ ((x = .onAlternate ∨ x = .returnWait ∨ x = .resync) ∧ own = .genset) := by
  cases x <;> simp [demandStands]

theorem State.truReference_reference (s : State) : s.truReference.tru.reference =
    if (s.tru.state = .parallel ∨ (s.tru.state = .resync ∧ s.tru.enteredNow = false)) ∧ s.currentSet.fLine ≠ 0
      then s.currentSet.fLine else s.tru.reference := by
  have stands : (resyncStands s.tru.state = true ∧ ¬(s.tru.state = .resync ∧ s.tru.enteredNow = true) ∧
      s.currentSet.fLine ≠ 0) ↔
      ((s.tru.state = .parallel ∨ (s.tru.state = .resync ∧ s.tru.enteredNow = false)) ∧ s.currentSet.fLine ≠ 0) := by
    rw [resyncStands_iff, ← and_assoc]
    refine and_congr_left fun _ => ?_
    cases s.tru.state <;> simp
  unfold State.truReference
  by_cases takes : (s.tru.state = .parallel ∨ (s.tru.state = .resync ∧ s.tru.enteredNow = false)) ∧ s.currentSet.fLine ≠ 0
  · rw [if_pos takes, if_pos (stands.mpr takes)]
    rfl
  · rw [if_neg takes, if_neg (mt stands.mp takes)]

theorem Tru.entering_reference (t : Tru) (x : TransferState) (own : IslandState) : (t.entering x own).reference =
    if x = .resync then t.healthLine else if x = .parallel then t.reference else 0 := by
  show (if resyncStands x then (if x = .resync then t.healthLine else t.reference) else 0) = _
  cases x <;> rfl

/-! ### The tests of each state (R177 to R183) -/

/-- The tests of a state are those of its own rule, with lockout clear and the state not entered at this cycle close. -/
theorem State.truIncomerState_of_tested {s : State} (own : s.dbu.lockout = false) (later : s.tru.enteredNow = false) :
    (s.tru.state = .normal → s.truIncomerState = s.truNormal) ∧
      (s.tru.state = .lossConfirm → s.truIncomerState = s.truLossConfirm) ∧
      (s.tru.state = .isolating → s.truIncomerState = s.truIsolating) ∧
      (s.tru.state = .deadWait → s.truIncomerState = s.truDeadWait) ∧
      (s.tru.state = .onAlternate → s.truIncomerState = s.truOnAlternate) ∧
      (s.tru.state = .returnWait → s.truIncomerState = s.truReturnWait) ∧
      (s.tru.state = .resync → s.truIncomerState = s.truResync) ∧
      (s.tru.state = .parallel → s.truIncomerState = s.truParallel) ∧
      (s.tru.state = .openReturn → s.truIncomerState = s.truOpenReturn) := by
  unfold State.truIncomerState
  rw [own, later]
  refine ⟨?_, ?_, ?_, ?_, ?_, ?_, ?_, ?_, ?_⟩ <;> intro state <;> rw [state] <;> rfl

theorem State.truIncomerState_of_rest {s : State} (rest : s.tru.state = .manual ∨ s.tru.state = .halted) :
    s.truIncomerState = s := if_pos rest

theorem State.truIncomerState_of_lockout {s : State} (notManual : s.tru.state ≠ .manual) (notHalted : s.tru.state ≠ .halted)
    (own : s.dbu.lockout = true) : s.truIncomerState = s.truLeave .halted :=
  (if_neg (not_or.mpr ⟨notManual, notHalted⟩)).trans (if_pos own)

theorem State.truIncomerState_of_entered {s : State} (notManual : s.tru.state ≠ .manual) (notHalted : s.tru.state ≠ .halted)
    (own : s.dbu.lockout = false) (now : s.tru.enteredNow = true) : s.truIncomerState = s :=
  ((if_neg (not_or.mpr ⟨notManual, notHalted⟩)).trans (if_neg (by simp [own]))).trans (if_pos now)

theorem State.truLossConfirm_eq (s : State) :
    s.truLossConfirm =
      if s.breakerAtClose = .opened then s.truLeave .deadWait
      else if s.utilityHealthy then s.truLeave .normal
      else if s.utilityUnhealthy then
        (if s.cfg.tLoss.toNat ≤ s.tru.lossCount + 1
          then ({ s with tru := { s.tru with lossCount := s.tru.lossCount + 1 } } : State).tripRequest.truLeave .isolating
          else { s with tru := { s.tru with lossCount := s.tru.lossCount + 1 } })
      else s := rfl

theorem State.truMayReturn_iff (s : State) : s.truMayReturn = true ↔ (∀ c, s.clu.claim = some c → c.origin ≠ .tru) ∧
    s.tru.hold = false ∧ s.cfg.tReturnShort.toNat ≤ s.tru.run ∧ s.currentSet.busClass = .dead := by
  rw [← State.truClaims_eq_false_iff]
  simp [State.truMayReturn, and_assoc]

/-- DEAD_WAIT's fourth test, on the state with TRU's claim cancelled or kept (R179). -/
theorem State.truDeadWait_of_dead {s t : State} (notGenset : s.top.own ≠ .genset) (notGrid : s.top.own ≠ .grid)
    (away : s.bcu.state ≠ .closed)
    (kept : t = if s.utilityUnhealthy = true ∧ s.truClosing = false then s.cancelClaim .tru else s) :
    s.truDeadWait =
      if (∀ c, t.clu.claim = some c → c.origin ≠ .tru) ∧ s.tru.hold = false ∧
        s.cfg.tReturnShort.toNat ≤ s.tru.run ∧ s.currentSet.busClass = .dead
      then (t.cluRaise .tru false s.cfg.ownSec).1 else t := by
  have cancelled : (if s.utilityUnhealthy then s.truCancelUnlessClosing else s) = t := by
    rw [kept]
    unfold State.truCancelUnlessClosing
    cases s.utilityUnhealthy <;> cases s.truClosing <;> rfl
  have only : t = { s with clu := t.clu } := by
    rw [kept]
    split
    · rw [State.cancelClaim_only]
    · rfl
  have tests : t.truMayReturn = true ↔ (∀ c, t.clu.claim = some c → c.origin ≠ .tru) ∧ s.tru.hold = false ∧
      s.cfg.tReturnShort.toNat ≤ s.tru.run ∧ s.currentSet.busClass = .dead := by
    rw [State.truMayReturn_iff, only]
    rfl
  unfold State.truDeadWait
  rw [if_neg (not_or.mpr ⟨notGenset, notGrid⟩), if_neg away, cancelled]
  exact ite_of_iff tests rfl rfl

theorem State.truReturnWait_eq (s : State) :
    s.truReturnWait =
      if s.top.own = .dead then s.truLeave .deadWait
      else if s.bcu.state = .closed then s.truLeave .parallel
      else if s.utilityUnhealthy = true ∨ s.tru.hold = true then s.truLeave .onAlternate
      else if s.utilityHealthy then
        (if s.cfg.tReturn.toNat ≤ s.tru.returnCount + 1
          then (({ s with tru := { s.tru with returnCount := s.tru.returnCount + 1 } } : State).truLeave .resync).syuStart .tru
          else { s with tru := { s.tru with returnCount := s.tru.returnCount + 1 } })
      else s := by
  refine ite_of_iff Iff.rfl rfl (ite_of_iff Iff.rfl rfl ?_)
  by_cases back : s.utilityUnhealthy = true ∨ s.tru.hold = true
  · rw [if_pos back, if_pos (by simpa using back)]
  · have judged : s.tru.judged = s.utilityHealthy := by
      have fine : s.utilityUnhealthy = false := by simpa using (not_or.mp back).1
      revert fine
      unfold State.utilityUnhealthy State.utilityHealthy
      cases s.tru.judged <;> simp
    rw [if_neg back, if_neg (by simpa using back), judged]
    rfl

theorem State.truResync_eq (s : State) :
    s.truResync =
      if s.top.own = .dead then s.truLeave .deadWait
      else if s.bcu.state = .closed then s.truLeave .parallel
      else if s.utilityUnhealthy then s.truLeave .onAlternate
      else if s.syu.state = .closing ∧ s.syu.owner = some .tru then s
      else if s.cfg.tResync.toNat ≤ s.tru.resyncCount + 1
        then ({ s with tru := { s.tru with resyncCount := s.tru.resyncCount + 1 } } : State).truResyncOut
      else if (s.syu.state ≠ .idle ∧ s.syu.owner = some .tru) ∨ s.tru.heardNow = true
        then { s with tru := { s.tru with resyncCount := s.tru.resyncCount + 1 } }
      else ({ s with tru := { s.tru with resyncCount := s.tru.resyncCount + 1 } } : State).syuStart .tru := by
  refine ite_of_iff Iff.rfl rfl (ite_of_iff Iff.rfl rfl (ite_of_iff Iff.rfl rfl (ite_of_iff Iff.rfl rfl (ite_of_iff Iff.rfl rfl
    (ite_of_iff ?_ rfl rfl)))))
  rw [Bool.or_eq_true, State.truAttempts_iff]
  exact Iff.rfl

theorem closedGroup_iff (x : Summary) : closedGroup x = true ↔ x = .closed ∨ x = .opening ∨ x = .faulty := by
  cases x <;> decide

theorem State.alternateClosed_iff (s : State) : s.alternateClosed = true ↔
    ∃ (k : Station) (r : BayRecord), s.usableRec k = some r ∧
      (r.summary = .closed ∨ r.summary = .opening ∨ r.summary = .faulty) ∧
      ((r.role = .generator ∧ ∃ y, r.sect = some y ∧ (y = s.cfg.ownSec ∨ s.top.map = .joined)) ∨ r.role = .tie ∨
        r.sect = none) := by
  simp only [State.alternateClosed, State.anyUsable_iff, Bool.and_eq_true, Bool.or_eq_true, closedGroup_iff, beq_iff_eq,
    BayRecord.inIsland_iff, BayRecord.tieCandidate]

theorem State.truParallel_eq (s : State) : s.truParallel =
    if s.bcu.state ≠ .closed then s.truLeave .onAlternate
    else if s.utilityUnhealthy then s.tripRequest.truLeave .onAlternate
    else if s.alternateClosed = false then s.truLeave .normal
    else s.truParallelTick :=
  ite_of_iff Iff.rfl rfl (ite_of_iff Iff.rfl rfl (ite_of_iff (by simp) rfl rfl))

theorem State.truOpenReturn_unhealthy {s : State} (unhealthy : s.utilityUnhealthy = true) :
    s.truOpenReturn = if s.truClosing then s.truSet .deadWait else s.truLeave .deadWait := if_pos unhealthy

theorem State.truOpenReturn_fine {s : State} (fine : s.utilityUnhealthy = false) : s.truOpenReturn =
    if s.bcu.state = .closed then s.truLeave .normal
    else if s.truClaims = false ∧ s.top.own = .dead ∧ s.currentSet.busClass = .dead then
      (s.cluRaise .tru false s.cfg.ownSec).1
    else s :=
  (if_neg (by simp [fine])).trans (ite_of_iff Iff.rfl rfl (ite_of_iff (by simp [and_assoc]) rfl rfl))

/-! ### TRU at a cycle close -/

theorem State.truClose_of_incomer {s : State} (incomer : s.cfg.role = some .incomer) :
    s.truClose = s.truTests.truReference.truReflag := if_pos (by simp [(Settings.isRole_iff ..).mpr incomer])

theorem State.truTests_of_manual {s : State} (manual : s.tru.mode = .manual) : s.truTests = s :=
  if_neg (by rw [manual]; exact (nomatch ·))

theorem State.truTests_of_incomer {s : State} (incomer : s.cfg.role = some .incomer) (auto : s.tru.mode = .auto) :
    s.truTests = if s.truIncomerState.tru.derive then s.truIncomerState.truDerive else s.truIncomerState := by
  unfold State.truTests
  rw [if_pos auto, if_pos ((Settings.isRole_iff ..).mpr incomer)]

/-- What leaving a state does (R175, R176). -/
theorem State.truLeave_spec {s : State} {x : TransferState} (ne : s.tru.state ≠ x) :
    (s.truLeave x).tru.state = x ∧ (s.truLeave x).pendingBit .transferChange = true ∧
    (s.truLeave x).tru.enteredNow = true ∧ (∀ c, (s.truLeave x).clu.claim = some c → c.origin ≠ .tru) ∧
    ((s.truLeave x).syu.state = .checking → (s.truLeave x).syu.owner ≠ some .tru) ∧
    (s.truLeave x).tru.lossCount = (if x = .lossConfirm then 0 else s.tru.lossCount) ∧
    (s.truLeave x).tru.returnCount = (if x = .returnWait then 0 else s.tru.returnCount) ∧
    (s.truLeave x).tru.resyncCount = (if x = .resync then 0 else s.tru.resyncCount) ∧
    (s.truLeave x).tru.parallelCount = (if x = .parallel then 0 else s.tru.parallelCount) ∧
    (s.truLeave x).tru.hold = s.tru.hold ∧ (s.truLeave x).tru.mode = s.tru.mode ∧
    (s.truLeave x).tru.reference = (if x = .resync then s.tru.healthLine else if x = .parallel then s.tru.reference else 0) := by
  refine ⟨State.truLeave_state .., State.truLeave_pendingBit ne, ?_, ?_, ?_, ?_⟩
  · rw [State.truLeave_tru ne]
    rfl
  · rw [State.truLeave_clu ne]
    exact fun c => State.truCancelled_claim
  · rw [State.truLeave_syu ne]
    exact fun checking owner => s.truCancelled_checking ⟨checking, owner⟩
  · rw [State.truLeave_tru ne]
    exact ⟨rfl, rfl, rfl, rfl, rfl, rfl, Tru.entering_reference _ _ s.top.own⟩

/-- Settles O45: health, flags and reference as formed, and each state's tests in their order. -/
theorem incomerAtACycleClose : Obligations.IncomerAtACycleClose := by
  refine ⟨?health, fun s x => State.truLeave_spec, ?flags, ?close, ?tests⟩
  case health =>
    intro s incomer
    rw [State.truHealth_of_incomer incomer]
    exact ⟨healthOf_iff .., beq_iff_eq, rfl, rfl⟩
  case flags =>
    intro s
    exact ⟨demandStands_iff .., beq_iff_eq, by simp [State.truReflag, and_comm],
      ite_of_iff (resyncStands_iff _) rfl rfl, s.truReference_reference⟩
  case close =>
    intro s
    refine ⟨?_, ?_, ?_, State.truIncomerState_of_rest, ?_⟩
    · intro notIncomer notTie
      exact if_neg (by simp [Settings.isRole_iff, notIncomer, notTie])
    · intro incomer manual
      rw [State.truClose_of_incomer incomer, State.truTests_of_manual manual]
    · intro incomer auto
      rw [State.truClose_of_incomer incomer, State.truTests_of_incomer incomer auto]
    · exact fun notManual notHalted => ⟨State.truIncomerState_of_lockout notManual notHalted,
        State.truIncomerState_of_entered notManual notHalted⟩
  case tests =>
    intro s healthy unhealthy claims closing own later healthyIff unhealthyIff claimsIff closingIff
    obtain rfl := Bool.eq_iff_iff.mpr (healthyIff.trans s.utilityHealthy_iff.symm)
    obtain rfl := Bool.eq_iff_iff.mpr (unhealthyIff.trans s.utilityUnhealthy_iff.symm)
    obtain rfl := Bool.eq_iff_iff.mpr (claimsIff.trans s.truClaims_iff.symm)
    obtain rfl := Bool.eq_iff_iff.mpr (closingIff.trans s.truClosing_iff.symm)
    obtain ⟨normal, lossConfirm, isolating, deadWait, onAlternate, returnWait, resync, parallel, openReturn⟩ :=
      State.truIncomerState_of_tested own later
    refine ⟨normal, ?_, isolating, ?_, ?_, ?_, ?_, ?_, ?_⟩
    · rintro state _ rfl
      exact (lossConfirm state).trans s.truLossConfirm_eq
    · intro state t kept
      rw [deadWait state]
      exact ⟨fun alternate => if_pos alternate, fun notGenset notGrid closed => (if_neg (not_or.mpr ⟨notGenset, notGrid⟩)).trans (if_pos closed),
        fun notGenset notGrid away => State.truDeadWait_of_dead notGenset notGrid away kept⟩
    · intro state
      rw [onAlternate state]
      exact ite_of_iff Iff.rfl rfl (ite_of_iff Iff.rfl rfl (ite_of_iff (by simp) rfl rfl))
    · rintro state _ rfl
      exact (returnWait state).trans s.truReturnWait_eq
    · rintro state _ rfl
      exact (resync state).trans s.truResync_eq
    · intro state others othersIff
      obtain rfl := Bool.eq_iff_iff.mpr (othersIff.trans s.alternateClosed_iff.symm)
      exact (parallel state).trans s.truParallel_eq
    · intro state
      rw [openReturn state]
      refine ⟨fun bad => ?_, fun fine => State.truOpenReturn_fine fine⟩
      rw [State.truOpenReturn_unhealthy bad]
      refine ⟨?_, fun none => if_neg (by simp [none]), fun closing => ?_⟩
      · split
        · exact (State.truSet_kept ..).1
        · exact State.truLeave_state ..
      · obtain ⟨-, -, -, -, clu, -⟩ := s.truSet_kept .deadWait
        rw [if_pos closing, clu]

end Sys2Proof.Machine
end

section
/-! PROOFS. What an answer, a derivation and a tie's tests do in the Transfer Unit (O46). -/
namespace Sys2Proof.Machine

/-! ### Answers (R176, R179, R181, R183, R187) -/

theorem State.truLeave_lastAnswer {s : State} (other : ¬(s.syu.state = .checking ∧ s.syu.owner = some .tru))
    (x : TransferState) : (s.truLeave x).tru.lastAnswer = s.tru.lastAnswer := by
  by_cases same : s.tru.state = x
  · rw [State.truLeave_of_eq same]
  · rw [State.truLeave_tru same]
    show s.truCancelled.tru.lastAnswer = _
    rw [State.truCancelled, State.cancelAttempt_of_other (by rw [State.cancelClaim_only]; exact other), State.cancelClaim_only]

theorem State.truLeave_direction {s : State} {x : TransferState} (ne : s.tru.state ≠ x) :
    (s.truLeave x).tru.direction = directionOf x := by
  rw [State.truLeave_tru ne]
  rfl

theorem State.setMode_tru (s : State) (m : Mode) : (s.setMode m).tru = { s.tru with mode := m } := by
  unfold State.setMode
  split
  case isTrue same => rw [← same]
  case isFalse => rfl

theorem State.setMode_syu (s : State) (m : Mode) : (s.setMode m).syu = s.syu := by
  unfold State.setMode
  split <;> rfl

theorem CloseOutcome.ending_truHear {o : CloseOutcome} (ending : o = .failed ∨ o = .discrepant ∨ o = .tripped) (s : State) :
    s.truHear (.outcome o) = (s.truNote (.outcome o)).truFailed := by
  obtain rfl | rfl | rfl := ending <;> rfl

/-- An ending of an incomer's close: the hold, with RESYNC to ON_ALTERNATE and OPEN_RETURN to DEAD_WAIT. -/
theorem State.truFailed_of_incomer {s : State} (incomer : s.cfg.role = some .incomer) :
    s.truFailed.tru.hold = true ∧ (s.tru.state = .resync → s.truFailed.tru.state = .onAlternate) ∧
      (s.tru.state = .openReturn → s.truFailed.tru.state = .deadWait) ∧
      (s.tru.state ≠ .resync → s.tru.state ≠ .openReturn → s.truFailed.tru.state = s.tru.state) := by
  unfold State.truFailed
  rw [if_neg (by simp [Settings.isRole_iff, incomer])]
  dsimp only
  split
  case h_1 resync =>
    exact ⟨State.truLeave_hold .., fun _ => State.truLeave_state .., fun openReturn => (nomatch resync.symm.trans openReturn),
      fun notResync => absurd resync notResync⟩
  case h_2 openReturn =>
    exact ⟨State.truLeave_hold .., fun resync => (nomatch openReturn.symm.trans resync), fun _ => State.truLeave_state ..,
      fun _ notOpenReturn => absurd openReturn notOpenReturn⟩
  case h_3 notResync notOpenReturn =>
    exact ⟨rfl, fun resync => absurd resync notResync, fun openReturn => absurd openReturn notOpenReturn, fun _ _ => rfl⟩

theorem State.truFailed_of_claim {s : State} (tie : s.cfg.role = some .tie) {x : Sec} (claim : s.tru.state = .tieClaim x) :
    s.truFailed = (s.setMode .manual).truLeave .manual := by
  unfold State.truFailed
  rw [if_pos ((Settings.isRole_iff ..).mpr tie), claim]

theorem State.truFailed_lastAnswer {s : State} (other : ¬(s.syu.state = .checking ∧ s.syu.owner = some .tru)) :
    s.truFailed.tru.lastAnswer = s.tru.lastAnswer := by
  unfold State.truFailed
  split
  · split
    · rw [State.truLeave_lastAnswer (by rw [State.setMode_syu]; exact other), State.setMode_tru]
    · rfl
  · dsimp only
    split
    · exact State.truLeave_lastAnswer (s := s.withTru fun t => { t with hold := true }) other _
    · exact State.truLeave_lastAnswer (s := s.withTru fun t => { t with hold := true }) other _
    · rfl

theorem State.truCompleted_lastAnswer {s : State} (other : ¬(s.syu.state = .checking ∧ s.syu.owner = some .tru)) :
    s.truCompleted.tru.lastAnswer = s.tru.lastAnswer := by
  unfold State.truCompleted
  split
  case h_5 => rfl
  all_goals exact State.truLeave_lastAnswer other _

theorem State.truCompleted_of_return {s : State} (back : s.tru.state = .deadWait ∨ s.tru.state = .openReturn) :
    s.truCompleted = s.truLeave .normal := by
  unfold State.truCompleted
  obtain state | state := back <;> rw [state]

theorem State.truCompleted_of_resync {s : State} (resync : s.tru.state = .resync) :
    s.truCompleted = s.truLeave .parallel := by rw [State.truCompleted, resync]

theorem State.truCompleted_of_claim {s : State} {x : Sec} (claim : s.tru.state = .tieClaim x) :
    s.truCompleted = s.truLeave (.tieFeeding x) := by rw [State.truCompleted, claim]

theorem State.truHear_lastAnswer {s : State} (other : ¬(s.syu.state = .checking ∧ s.syu.owner = some .tru)) (a : Answer) :
    (s.truHear a).tru.lastAnswer = some (a, s.lkc.count) := by
  unfold State.truHear
  dsimp only
  split
  case h_1 => exact State.truCompleted_lastAnswer (s := s.truNote _) other
  case h_5 => rfl
  all_goals exact State.truFailed_lastAnswer (s := s.truNote _) other

theorem State.truHear_of_other {s : State} {a : Answer} (completed : a ≠ .outcome .completed) (failed : a ≠ .outcome .failed)
    (discrepant : a ≠ .outcome .discrepant) (tripped : a ≠ .outcome .tripped) : s.truHear a = s.truNote a := by
  unfold State.truHear
  dsimp only
  split <;> first | rfl | contradiction

/-! ### Derivation (R184) -/

theorem State.truDerive_of_some {s : State} {x : TransferState}
    (derives : (if s.cfg.isRole .tie then s.derivedTie else s.derivedIncomer) = some x) :
    s.truDerive = (s.truSet x).withTru fun t => { t with derive := false } := by rw [State.truDerive, derives]

theorem State.truDerive_of_none {s : State}
    (pending : (if s.cfg.isRole .tie then s.derivedTie else s.derivedIncomer) = none) : s.truDerive = s := by
  rw [State.truDerive, pending]

theorem State.derived_of_incomer {s : State} (incomer : s.cfg.role = some .incomer) :
    (if s.cfg.isRole .tie then s.derivedTie else s.derivedIncomer) = s.derivedIncomer :=
  if_neg (by simp [Settings.isRole_iff, incomer])

theorem State.derived_of_tie {s : State} (tie : s.cfg.role = some .tie) :
    (if s.cfg.isRole .tie then s.derivedTie else s.derivedIncomer) = s.derivedTie :=
  if_pos ((Settings.isRole_iff ..).mpr tie)

theorem State.derivedIncomer_of_lockout {s : State} (own : s.dbu.lockout = true) : s.derivedIncomer = some .halted :=
  if_pos own

/-- The lines of the derivation of an incomer. -/
theorem State.derivedIncomer_of_line {s : State} {x : TransferState}
    (line : (s.dbu.lockout = true ∧ x = .halted) ∨
      (s.dbu.lockout = false ∧ s.currentSet.meas = .valid ∧ (
        (s.bcu.state = .closed ∧ s.tru.healthy = true ∧ x = .normal) ∨
        (s.bcu.state = .closed ∧ s.tru.healthy = false ∧ x = .lossConfirm) ∨
        (s.bcu.state = .opened ∧ (s.top.own = .grid ∨ s.top.own = .genset) ∧ x = .onAlternate) ∨
        (s.bcu.state = .opened ∧ s.top.own = .dead ∧ x = .deadWait)))) :
    s.derivedIncomer = some x := by
  obtain ⟨own, rfl⟩ | ⟨own, valid, lines⟩ := line
  · exact State.derivedIncomer_of_lockout own
  · obtain ⟨bcu, healthy, rfl⟩ | ⟨bcu, healthy, rfl⟩ | ⟨bcu, island | island, rfl⟩ | ⟨bcu, island, rfl⟩ := lines
    · simp [State.derivedIncomer, own, valid, bcu, healthy]
    · simp [State.derivedIncomer, own, valid, bcu, healthy]
    all_goals simp [State.derivedIncomer, own, valid, bcu, island]

theorem State.derivedIncomer_of_pending {s : State} (own : s.dbu.lockout = false)
    (pending : s.currentSet.meas ≠ .valid ∨ (s.bcu.state ≠ .opened ∧ s.bcu.state ≠ .closed) ∨
      (s.bcu.state = .opened ∧ s.top.own = .unknown)) : s.derivedIncomer = none := by
  obtain absent | ⟨notOpen, notClosed⟩ | ⟨bcu, island⟩ := pending
  · simp [State.derivedIncomer, own, absent]
  · simp [State.derivedIncomer, own]
  · simp [State.derivedIncomer, own, bcu, island]

theorem State.derivedTie_iff (s : State) :
    s.derivedTie = some .tieOpen ↔ s.cfg.tieTransfer = true ∧ s.bcu.state = .opened ∧ s.dbu.lockout = false := by
  simp [State.derivedTie, and_assoc]

theorem State.derivedTie_eq_none_iff (s : State) :
    s.derivedTie = none ↔ s.cfg.tieTransfer = false ∨ s.bcu.state ≠ .opened ∨ s.dbu.lockout = true := by
  unfold State.derivedTie
  rw [ite_some_eq_none_iff]
  cases s.cfg.tieTransfer <;> cases s.dbu.lockout <;> simp

/-! ### The tie (R187, R188) -/

theorem State.incomerIn_iff (s : State) (x : Sec) (code : TransferCode) : s.incomerIn x code = true ↔
    ∃ k r, s.usableRec k = some r ∧ r.role = .incomer ∧ r.sect = some x ∧ r.transfer = code := by
  simp only [State.incomerIn, State.anyUsable_iff, Bool.and_eq_true, beq_iff_eq, and_assoc]

theorem State.tieEntry_iff (s : State) (x : Sec) : s.tieEntry x = true ↔
    s.dbu.lockout = false ∧ s.incomerIn x .deadWait = true ∧ s.top.state x.other = .grid ∧
      s.incomerIn x.other .normal = true ∧ s.top.locked1 = false ∧ s.top.locked2 = false := by
  simp [State.tieEntry, and_assoc]

theorem State.tieShouldOpen_iff (s : State) (x : Sec) : s.tieShouldOpen x = true ↔
    (∃ r, s.incomerRec x = some r ∧ (r.transfer = .parallel ∨ r.transfer = .normal ∨ r.transfer = .openReturn)) ∨
      ∀ r, s.incomerRec x.other = some r → showsHealthy r = false ∨ r.transfer ≠ .normal := by
  unfold State.tieShouldOpen
  rw [Bool.or_eq_true]
  refine or_congr ?_ ?_
  · simp [Option.any_eq_true, or_assoc]
  · simp only [Bool.not_eq_true', Option.any_eq_false, Bool.and_eq_false_iff, beq_eq_false_iff_ne]

/-- What a raise of TRU keeps of its own items. -/
theorem State.cluRaise_tru_derive (s : State) (x : Sec) : (s.cluRaise .tru false x).1.tru.derive = s.tru.derive := by
  unfold State.cluRaise
  dsimp only
  rw [if_pos rfl]
  split <;> rfl

theorem State.truLeave_derive (s : State) (x : TransferState) : (s.truLeave x).tru.derive = s.tru.derive := by
  by_cases same : s.tru.state = x
  · rw [State.truLeave_of_eq same]
  · rw [State.truLeave_tru same]
    rfl

/-- A trip of a CLOSED breaker reaches of TRU the answer to its attempt alone (R109, R141). -/
theorem State.tripRequest_tru_of_closed {s : State} (closed : s.bcu.state = .closed) :
    s.tripRequest.tru = { s.tru with
      heardNow := s.tripRequest.tru.heardNow, lastAnswer := s.tripRequest.tru.lastAnswer } := by
  have tripped : (s.withBcu fun b => { b with trippedNow := true }).bfRequest.bcuTrip.tru = s.tru := by
    unfold State.bcuTrip
    rw [State.bfRequest_bcu, State.withBcu_bcu, closed]
    show (State.bfRequest _).tru = _
    unfold State.bfRequest
    split <;> rfl
  unfold State.tripRequest State.syuEndChecking
  dsimp only
  split
  · rw [(State.syuEnd_noted_owner _ rfl).2.2.2, tripped]
  · rw [tripped]

theorem State.tripRequest_derive_of_closed {s : State} (closed : s.bcu.state = .closed) :
    s.tripRequest.tru.derive = s.tru.derive := by rw [State.tripRequest_tru_of_closed closed]

theorem State.truTieState_of_open {s : State} (transfer : s.cfg.tieTransfer = true) (state : s.tru.state = .tieOpen) :
    s.truTieState = s.tieOpenTests := by rw [State.truTieState, if_pos transfer, state]

theorem State.truTieState_of_claim {s : State} (transfer : s.cfg.tieTransfer = true) {x : Sec}
    (state : s.tru.state = .tieClaim x) : s.truTieState = s.tieClaimTests x := by
  rw [State.truTieState, if_pos transfer, state]

theorem State.truTieState_of_feeding {s : State} (transfer : s.cfg.tieTransfer = true) {x : Sec}
    (state : s.tru.state = .tieFeeding x) : s.truTieState = s.tieFeedingTests x := by
  rw [State.truTieState, if_pos transfer, state]

/-- The tests of TRU in a tie in AUTO whose state was not entered at this cycle close, no derivation being pending after them. -/
theorem State.truTests_of_tie {s t : State} (tie : s.cfg.role = some .tie) (auto : s.tru.mode = .auto)
    (later : s.tru.enteredNow = false) (tests : s.truTieState = t) (settled : t.tru.derive = false) : s.truTests = t := by
  have notIncomer : s.cfg.isRole .incomer = false := by rw [Settings.isRole_eq_decide, tie]; rfl
  unfold State.truTests
  rw [if_pos auto, notIncomer, (Settings.isRole_iff ..).mpr tie, later]
  show (if s.truTieState.tru.derive = true then s.truTieState.truDerive else s.truTieState) = t
  rw [tests]
  exact if_neg (by simp [settled])

theorem State.truTests_of_entered {s : State} (tie : s.cfg.role = some .tie) (auto : s.tru.mode = .auto)
    (now : s.tru.enteredNow = true) : s.truTests = if s.tru.derive then s.truDerive else s := by
  have notIncomer : s.cfg.isRole .incomer = false := by rw [Settings.isRole_eq_decide, tie]; rfl
  unfold State.truTests
  rw [if_pos auto, notIncomer, (Settings.isRole_iff ..).mpr tie, now]
  rfl

theorem State.tieOpenTests_of_one {s : State} (opened : s.bcu.state = .opened) {x : Sec} (entry : s.tieEntry x = true)
    (alone : s.tieEntry x.other = false) : s.tieOpenTests = ((s.truLeave (.tieClaim x)).cluRaise .tru false x).1 := by
  unfold State.tieOpenTests
  rw [if_pos opened]
  cases x <;> simp only [Sec.other] at alone <;> rw [entry, alone] <;> rfl

theorem State.tieOpenTests_of_none {s : State} (stays : s.bcu.state ≠ .opened ∨ s.tieEntry .one = s.tieEntry .two) :
    s.tieOpenTests = s := by
  unfold State.tieOpenTests
  split
  case isTrue opened =>
    obtain away | same := stays
    · exact absurd opened away
    · rw [same]
      cases s.tieEntry .two <;> rfl
  case isFalse => rfl

theorem State.tieClaimTests_eq (s : State) (x : Sec) : s.tieClaimTests x =
    if s.clu.inFlight ≠ none ∨ s.tru.heardNow = true then s
    else if s.tieEntry x = false then s.truLeave .tieOpen
    else if s.truClaims = true then s else (s.cluRaise .tru false x).1 :=
  ite_of_iff (by simp [Option.isSome_iff_ne_none]) rfl (ite_of_iff (by simp) rfl rfl)

/-- Settles O46: the answers, the lines of the derivation, and the tests of a tie in AUTO. -/
theorem derivationTheTieAndTheOutcomes : Obligations.DerivationTheTieAndTheOutcomes := by
  refine ⟨?answers, ?incomer, ?tie, ?entry, ?tests, fun s => State.truTests_of_entered⟩
  case answers =>
    intro s
    refine ⟨fun incomer => ⟨fun back => ?_, fun resync => ?_, fun o ending => ?_⟩, fun tie x claim => ⟨?_, fun o ending => ?_⟩,
      State.truHear_lastAnswer, fun a => State.truHear_of_other⟩
    · show (s.truNote _).truCompleted.tru.state = _
      rw [State.truCompleted_of_return (s := s.truNote _) back, State.truLeave_state]
    · show (s.truNote _).truCompleted.tru.state = _
      rw [State.truCompleted_of_resync (s := s.truNote _) resync, State.truLeave_state]
    · rw [CloseOutcome.ending_truHear ending]
      exact State.truFailed_of_incomer (s := s.truNote _) incomer
    · show (s.truNote _).truCompleted.tru.state = _ ∧ (s.truNote _).truCompleted.tru.direction = _
      rw [State.truCompleted_of_claim (s := s.truNote _) claim]
      exact ⟨State.truLeave_state .., State.truLeave_direction fun same => (nomatch claim.symm.trans same)⟩
    · rw [CloseOutcome.ending_truHear ending, State.truFailed_of_claim (s := s.truNote _) tie claim]
      refine ⟨State.truLeave_state .., (State.truLeave_mode ..).trans (State.setMode_mode ..), State.truLeave_direction ?_⟩
      rw [State.setMode_tru]
      exact fun same => (nomatch claim.symm.trans same)
  case incomer =>
    refine fun s incomer => ⟨fun x line => ?_, fun own pending => State.truDerive_of_none
      ((State.derived_of_incomer incomer).trans (State.derivedIncomer_of_pending own pending))⟩
    rw [State.truDerive_of_some ((State.derived_of_incomer incomer).trans (State.derivedIncomer_of_line line))]
    refine ⟨(s.truSet_kept x).1, rfl, ?_⟩
    rintro rfl ne
    rw [State.truSet_of_ne ne]
    rfl
  case tie =>
    refine fun s tie => ⟨fun transfer opened own => ?_, fun pending => State.truDerive_of_none
      ((State.derived_of_tie tie).trans (s.derivedTie_eq_none_iff.mpr pending))⟩
    rw [State.truDerive_of_some ((State.derived_of_tie tie).trans (s.derivedTie_iff.mpr ⟨transfer, opened, own⟩))]
    exact ⟨(s.truSet_kept .tieOpen).1, rfl⟩
  case entry =>
    intro s x
    rw [State.tieEntry_iff, State.incomerIn_iff, State.incomerIn_iff]
  case tests =>
    intro s tie transfer auto later settled
    have tested {t : State} : s.truTieState = t → t.tru.derive = false → s.truTests = t := State.truTests_of_tie tie auto later
    refine ⟨fun state => ⟨fun x opened entry alone => ?_, fun stays => ?_⟩, fun x state => ⟨fun busy => ?_, ?_, ?_⟩,
      fun x state opens opensIff => ?_⟩
    · refine tested ((State.truTieState_of_open transfer state).trans (State.tieOpenTests_of_one opened entry alone)) ?_
      rw [State.cluRaise_tru_derive, State.truLeave_derive, settled]
    · exact tested ((State.truTieState_of_open transfer state).trans (State.tieOpenTests_of_none stays)) settled
    · exact tested ((State.truTieState_of_claim transfer state).trans ((s.tieClaimTests_eq x).trans (if_pos busy))) settled
    · intro free unheard absent
      refine tested ((State.truTieState_of_claim transfer state).trans
        ((s.tieClaimTests_eq x).trans ((if_neg (by simp [free, unheard])).trans (if_pos absent)))) ?_
      rw [State.truLeave_derive, settled]
    · intro free unheard entry
      have tests : s.truTieState = if s.truClaims = true then s else (s.cluRaise .tru false x).1 :=
        (State.truTieState_of_claim transfer state).trans
          ((s.tieClaimTests_eq x).trans ((if_neg (by simp [free, unheard])).trans (if_neg (by simp [entry]))))
      refine ⟨fun claims => ?_, fun noClaim => ?_⟩
      · exact tested (tests.trans (if_pos (s.truClaims_iff.mpr claims))) settled
      · refine tested (tests.trans (if_neg (by rw [s.truClaims_eq_false_iff.mpr noClaim]; exact (nomatch ·)))) ?_
        rw [State.cluRaise_tru_derive, settled]
    · obtain rfl := Bool.eq_iff_iff.mpr (opensIff.trans (s.tieShouldOpen_iff x).symm)
      refine tested (State.truTieState_of_feeding transfer state) ?_
      split
      · rw [State.truLeave_derive, settled]
      · next closed =>
        split
        · rw [State.truLeave_derive, State.tripRequest_derive_of_closed (Classical.not_not.mp closed), settled]
        · exact settled

end Sys2Proof.Machine
end

section
/-! PROOFS. The five counts of an incomer's transfer at their last tick (O44). -/
namespace Sys2Proof.Machine

/-! ### What a row reads of TRU (R174, log 11) -/

/-- TRU of an incomer at the cycle close of a row: the health is formed from the set of that cycle close. -/
theorem State.atClose_tru_of_incomer {s : State} (incomer : s.cfg.role = some .incomer) :
    s.atClose.tru = { s.tru with
      enteredNow := false, heardNow := false, healthy := healthOf s.cfg s.currentSet,
      judged := s.currentSet.meas == .valid, healthLine := s.currentSet.fLine,
      run := if s.currentSet.meas = .valid then
        (if healthOf s.cfg s.currentSet then min 65535 (s.tru.run + 1) else 0) else s.tru.run } := by
  have kept (u : State) : u.topClose.checkClose.cfg = u.cfg ∧ u.topClose.checkClose.msu = u.msu ∧
      u.topClose.checkClose.lkc = u.lkc ∧ u.topClose.checkClose.tru = u.tru := ⟨rfl, rfl, rfl, rfl⟩
  obtain ⟨cfg, msu, lkc, tru⟩ := kept s.clearMarks
  have cleared : s.clearMarks.cfg = s.cfg ∧ s.clearMarks.msu = s.msu ∧ s.clearMarks.lkc = s.lkc := by
    simp [State.clearMarks]
  rw [State.atClose, State.foretell_tru]
  generalize s.clearMarks.topClose.checkClose = u at *
  rw [cleared.1] at cfg
  rw [State.truHealth_of_incomer (s := u) (by rw [cfg]; exact incomer),
    State.currentSet_of_kept (msu.trans cleared.2.1) (lkc.trans cleared.2.2), cfg, tru]
  rfl

section Rows

variable {s : State}

theorem State.atClose_truTicks {x : TransferState} (run : s.cfp.run = .run) (incomer : s.cfg.role = some .incomer)
    (auto : s.tru.mode = .auto) (own : s.dbu.lockout = false) (state : s.tru.state = x) : s.atClose.truTicks x = true := by
  unfold State.truTicks
  rw [State.atClose_running, State.running_of_run run, State.atClose_cfg, (Settings.isRole_iff ..).mpr incomer,
    State.atClose_tru_of_incomer incomer, State.atClose_dbu, own]
  simp [auto, state]

theorem State.atClose_utilityHealthy (incomer : s.cfg.role = some .incomer) (healthy : healthOf s.cfg s.currentSet = true) :
    s.atClose.utilityHealthy = true ∧ s.atClose.utilityUnhealthy = false := by
  have valid : s.currentSet.meas = .valid := ((healthOf_iff ..).mp healthy).1
  unfold State.utilityHealthy State.utilityUnhealthy
  rw [State.atClose_tru_of_incomer incomer]
  simp [healthy, valid]

theorem State.atClose_utilityUnhealthy (incomer : s.cfg.role = some .incomer) (valid : s.currentSet.meas = .valid)
    (bad : healthOf s.cfg s.currentSet = false) : s.atClose.utilityUnhealthy = true := by
  unfold State.utilityUnhealthy
  rw [State.atClose_tru_of_incomer incomer]
  simp [valid, bad]

theorem State.atClose_utilityFine (incomer : s.cfg.role = some .incomer)
    (fine : s.currentSet.meas = .valid → healthOf s.cfg s.currentSet = true) : s.atClose.utilityUnhealthy = false := by
  unfold State.utilityUnhealthy
  rw [State.atClose_tru_of_incomer incomer]
  simpa using fine

/-- TRU after a row, the health and the marks of the last cycle close standing. -/
theorem State.standing_tru (t s : State) : (t.standing s).tru = { t.tru with
    enteredNow := s.tru.enteredNow, heardNow := s.tru.heardNow, healthy := s.tru.healthy, judged := s.tru.judged,
    healthLine := s.tru.healthLine, run := s.tru.run } := rfl

theorem State.standing_syu (t s : State) :
    (t.standing s).syu = { t.syu with check := s.syu.check, startedNow := s.syu.startedNow } := rfl

theorem State.atClose_transfer {x : TransferState} (incomer : s.cfg.role = some .incomer) (state : s.tru.state = x)
    (f : Tru → Tru) (kept : ∀ t, (f t).state = t.state) : (s.atClose.withTru f).tru.state = x := by
  rw [State.withTru_tru, kept, State.atClose_tru_of_incomer incomer]
  exact state

end Rows

/-! ### Attempts as a row leaves them (R137, R141) -/

theorem State.truCancelled_syu (s : State) : s.truCancelled.syu =
    if s.syu.state = .checking ∧ s.syu.owner = some .tru then (s.endAttempt .cancelled).syu else s.syu := by
  rw [State.truCancelled, State.cancelAttempt_syu, State.cancelClaim_only]
  rfl

theorem State.syuStart_tru (s : State) :
    (s.syuStart .tru).tru = { s.tru with lastAnswer := some (s.judgeStart .tru, s.lkc.count) } := by
  unfold State.syuStart
  dsimp only
  rw [if_pos rfl]
  split <;> rfl

/-! ### The five rows (R177 to R182) -/

theorem exec_lossConfirmExpiry_of_due {s : State} (ticks : s.atClose.truTicks .lossConfirm = true)
    (closed : s.bcu.state = .closed) (bad : s.atClose.utilityUnhealthy = true)
    (due : s.cfg.tLoss.toNat ≤ s.tru.lossCount + 1) :
    exec .lossConfirmExpiry s = .next (((s.atClose.withTru fun u =>
      { u with lossCount := s.cfg.tLoss.toNat }).tripRequest.truLeave .isolating).standing s) :=
  congrArg Host.Outcome.next (if_pos (by simp [ticks, closed, bad, due]))

theorem exec_returnShortExpiry_of_due {s : State} (ticks : s.atClose.truTicks .deadWait = true)
    (dead : s.atClose.top.own = .dead) (opened : s.bcu.state = .opened) (healthy : s.atClose.utilityHealthy = true)
    (returns : s.atClose.truMayReturn = true) :
    exec .returnShortExpiry s = .next (((s.atClose.cluRaise .tru false s.cfg.ownSec).1.standing s).withTru fun u =>
      { u with run := s.atClose.tru.run }) :=
  congrArg Host.Outcome.next (if_pos (by simp [ticks, dead, opened, healthy, returns]))

theorem exec_returnExpiry_of_due {s : State} (ticks : s.atClose.truTicks .returnWait = true)
    (alive : s.atClose.top.own ≠ .dead) (opened : s.bcu.state = .opened) (healthy : s.atClose.utilityHealthy = true)
    (released : s.tru.hold = false) (due : s.cfg.tReturn.toNat ≤ s.tru.returnCount + 1) :
    exec .returnExpiry s = .next
      ((s.atClose.withTru fun u => { u with returnCount := s.cfg.tReturn.toNat }).truEnterResync.standing s) :=
  congrArg Host.Outcome.next (if_pos (by simp [ticks, alive, opened, healthy, released, due]))

theorem exec_resyncExpiry_of_due {s : State} (ticks : s.atClose.truTicks .resync = true)
    (alive : s.atClose.top.own ≠ .dead) (opened : s.bcu.state = .opened) (fine : s.atClose.utilityUnhealthy = false)
    (notClosing : ¬(s.syu.state = .closing ∧ s.syu.owner = some .tru)) (due : s.cfg.tResync.toNat ≤ s.tru.resyncCount + 1) :
    exec .resyncExpiry s = .next
      ((s.atClose.withTru fun u => { u with resyncCount := s.cfg.tResync.toNat }).truResyncOut.standing s) :=
  congrArg Host.Outcome.next (if_pos (by simpa [ticks, alive, opened, fine, due] using Classical.not_and_iff_not_or_not.mp notClosing))

theorem exec_parallelTimeout_of_due {s : State} (ticks : s.atClose.truTicks .parallel = true)
    (closed : s.bcu.state = .closed) (fine : s.atClose.utilityUnhealthy = false)
    (alternate : s.atClose.alternateClosed = true) (due : s.cfg.tParallelMax.toNat ≤ s.tru.parallelCount + 1) :
    exec .parallelTimeout s = .next (s.atClose.truParallelTick.standing s) :=
  congrArg Host.Outcome.next (if_pos (by simp [ticks, closed, fine, alternate, due]))

/-- The loss row: the breaker opened, and the incomer in ISOLATING (R177). -/
theorem State.lossIsolates {s : State} (closed : s.bcu.state = .closed) (incomer : s.cfg.role = some .incomer)
    (state : s.tru.state = .lossConfirm) :
    ∃ t, Host.Outcome.next (((s.atClose.withTru fun u =>
        { u with lossCount := s.cfg.tLoss.toNat }).tripRequest.truLeave .isolating).standing s) =
          (.next t : Host.Outcome State Fault Refusal) ∧ State.Consequence s t ∧
      t.tru.state = .isolating ∧ t.bcu.state = .opening ∧ t.bcu.trip = true ∧ t.bcu.close = false ∧
      t.pendingBit .transferChange = true := by
  have before := State.atClose_transfer incomer state (fun u => { u with lossCount := s.cfg.tLoss.toNat }) fun _ => rfl
  have ticked : State.Told s.atClose (s.atClose.withTru fun u => { u with lossCount := s.cfg.tLoss.toNat }) := .withTru ..
  generalize (s.atClose.withTru fun u => { u with lossCount := s.cfg.tLoss.toNat }) = v at *
  have shut : v.bcu.state = .closed := by rw [ticked.bcu, State.atClose_bcu]; exact closed
  have ne : v.tripRequest.tru.state ≠ .isolating := by
    rw [State.tripRequest_tru_of_closed shut]
    show v.tru.state ≠ .isolating
    rw [before]
    exact (nomatch ·)
  have made := (ticked.toConsequence.trans v.cons_tripRequest).trans (v.tripRequest.told_truLeave .isolating).toConsequence
  have bcu : (v.tripRequest.truLeave .isolating).bcu = { v.bcu.assertTrip with trippedNow := true } :=
    (State.told_truLeave ..).bcu.trans (State.tripRequest_of_closed shut)
  refine ⟨_, rfl, State.cons_standing made, ?_, ?_, ?_, ?_, State.truLeave_pendingBit (s := v.tripRequest) ne⟩
  · rw [State.standing_tru]
    exact State.truLeave_state ..
  all_goals rw [State.standing_bcu, bcu]; rfl

/-- The short return row: a claim for the own section, dead as it is (R179). -/
theorem State.returnsShort {s : State} (incomer : s.cfg.role = some .incomer) (own : s.dbu.lockout = false)
    (healthy : healthOf s.cfg s.currentSet = true) (free : s.clu.claim = none) (dead : s.currentSet.busClass = .dead)
    (view : s.atClose.top.locked s.cfg.ownSec = false) :
    ((s.atClose.cluRaise .tru false s.cfg.ownSec).1.standing s).withTru (fun u => { u with run := s.atClose.tru.run }) =
      { s with
        clu := { s.clu with
          claim := some { restore := false, target := s.cfg.ownSec, rank := 0, origin := .tru, deadDead := false } },
        tru := { s.tru with run := min 65535 (s.tru.run + 1), lastAnswer := some (.raised, s.lkc.count) } } := by
  have raised : s.atClose.judgeRaise .tru false s.cfg.ownSec = .raised := by
    unfold State.judgeRaise
    simp [view, own, free, targetSide, (Settings.isRole_eq_decide ..), incomer, dead]
  have made : (s.atClose.cluRaise .tru false s.cfg.ownSec).1 = { s.atClose with
      clu := s.atClose.clu.setClaim (s.atClose.claimFor .tru false s.cfg.ownSec false),
      tru := { s.atClose.tru with lastAnswer := some (.raised, s.atClose.lkc.count) } } := by
    unfold State.cluRaise
    dsimp only
    rw [raised, if_pos rfl, if_pos rfl]
    rfl
  have run : s.atClose.tru.run = min 65535 (s.tru.run + 1) := by
    rw [State.atClose_tru_of_incomer incomer]
    exact (if_pos ((healthOf_iff ..).mp healthy).1).trans (if_pos healthy)
  have claim : s.atClose.claimFor .tru false s.cfg.ownSec false =
      { restore := false, target := s.cfg.ownSec, rank := 0, origin := .tru, deadDead := false } := by
    unfold State.claimFor
    rw [State.atClose_cfg]
    simp [claimRankOf, incomer]
  rw [run, made, claim, Clu.setClaim_of_none (by rw [State.atClose_clu]; exact free)]
  unfold State.standing
  simp only [State.atClose_cfg, State.atClose_cvp, State.atClose_msu, State.atClose_cap, State.atClose_lkc,
    State.atClose_pim, State.atClose_pru, State.atClose_cfp, State.atClose_pending, State.atClose_dbu, State.atClose_clu,
    State.atClose_gcu, State.atClose_fcu]
  rw [State.atClose_bcu, State.atClose_syu, State.atClose_tru_of_incomer incomer]
  rfl

/-- The return row: RESYNC, and the start of an attempt (R180, R181). -/
theorem State.returnEnters {s : State} (opened : s.bcu.state = .opened) (incomer : s.cfg.role = some .incomer)
    (state : s.tru.state = .returnWait) (own : s.dbu.lockout = false) :
    ∃ t, Host.Outcome.next
        ((s.atClose.withTru fun u => { u with returnCount := s.cfg.tReturn.toNat }).truEnterResync.standing s) =
          (.next t : Host.Outcome State Fault Refusal) ∧
      State.Consequence s t ∧ t.tru.state = .resync ∧ t.tru.resyncCount = 0 ∧ t.tru.reference = s.currentSet.fLine ∧
      t.bcu = s.bcu ∧ t.dbu = s.dbu ∧
      (s.syu.state = .idle → s.atClose.top.ownLocked s.cfg = false →
        t.syu = { s.syu with state := .checking, owner := some .tru, supervision := 0 } ∧
        t.tru.lastAnswer = some (.started, s.lkc.count)) := by
  have before := State.atClose_transfer incomer state (fun u => { u with returnCount := s.cfg.tReturn.toNat }) fun _ => rfl
  have line : (s.atClose.withTru fun u => { u with returnCount := s.cfg.tReturn.toNat }).tru.healthLine =
      s.currentSet.fLine := by rw [State.withTru_tru, State.atClose_tru_of_incomer incomer]
  have syu : (s.atClose.withTru fun u => { u with returnCount := s.cfg.tReturn.toNat }).syu = s.atClose.syu := rfl
  have ticked : State.Told s.atClose (s.atClose.withTru fun u => { u with returnCount := s.cfg.tReturn.toNat }) := .withTru ..
  generalize (s.atClose.withTru fun u => { u with returnCount := s.cfg.tReturn.toNat }) = v at *
  have ne : v.tru.state ≠ .resync := by rw [before]; exact (nomatch ·)
  have entered := ticked.trans (v.told_truLeave .resync)
  have told : State.Told s.atClose v.truEnterResync := entered.trans (State.told_syuStart ..)
  have tru : v.truEnterResync.tru = { (v.truLeave .resync).tru with
      lastAnswer := some ((v.truLeave .resync).judgeStart .tru, (v.truLeave .resync).lkc.count) } := State.syuStart_tru _
  obtain ⟨-, -, -, -, -, -, -, count, -, -, -, reference⟩ := State.truLeave_spec ne
  refine ⟨_, rfl, State.cons_standing told.toConsequence, ?_, ?_, ?_, State.standing_bcu_of_kept told.bcu, ?_,
    fun idle view => ?_⟩
  · rw [State.standing_tru, tru]
    exact State.truLeave_state ..
  · rw [State.standing_tru, tru]
    exact count
  · rw [State.standing_tru, tru]
    exact reference.trans line
  · rw [State.standing_dbu, told.dbu, State.atClose_dbu]
  · have kept : (v.truLeave .resync).syu = s.atClose.syu := by
      rw [State.truLeave_syu ne, State.truCancelled_syu, syu, State.atClose_syu]
      exact if_neg fun checking => (nomatch idle.symm.trans (show s.syu.state = .checking from checking.1))
    have judged : (v.truLeave .resync).judgeStart .tru = .started := by
      unfold State.judgeStart
      rw [entered.dbu, State.atClose_dbu, own, entered.top, entered.cfg, State.atClose_cfg, view, entered.bcu,
        State.atClose_bcu, kept, State.atClose_syu, opened, idle]
      rfl
    have started : v.truEnterResync.syu =
        { (v.truLeave .resync).syu with state := .checking, owner := some .tru, supervision := 0, startedNow := true } :=
      congrArg State.syu (State.syuStart_of_started judged)
    refine ⟨?_, ?_⟩
    · rw [State.standing_syu, started, kept, State.atClose_syu]
    · rw [State.standing_tru, tru, judged, entered.lkc, State.atClose_lkc]

theorem State.truResyncOut_tru {s : State} (resync : s.tru.state = .resync) :
    (s.cfg.openTransition = true → s.truResyncOut.tru.state = .openReturn ∧ s.truResyncOut.tru.openDemand = true ∧
        s.truResyncOut.tru.hold = s.tru.hold) ∧
      (s.cfg.openTransition = false → s.truResyncOut.tru.state = .onAlternate ∧ s.truResyncOut.tru.hold = true) := by
  unfold State.truResyncOut
  refine ⟨fun openly => ?_, fun closed => ?_⟩
  · rw [if_pos openly]
    refine ⟨State.truLeave_state .., ?_, State.truLeave_hold ..⟩
    rw [State.truLeave_tru (by rw [resync]; exact (nomatch ·))]
    rfl
  · rw [if_neg (by rw [closed]; exact (nomatch ·))]
    exact ⟨State.truLeave_state .., rfl⟩

theorem State.truResyncOut_syu {s : State} (resync : s.tru.state = .resync) : s.truResyncOut.syu = s.truCancelled.syu := by
  unfold State.truResyncOut
  split
  · exact State.truLeave_syu (by rw [resync]; exact (nomatch ·))
  · exact State.truLeave_syu (by rw [resync]; exact (nomatch ·))

/-- The resync row: OPEN_RETURN or ON_ALTERNATE with the hold, and the attempt cancelled (R181). -/
theorem State.resyncRunsOut {s : State} (incomer : s.cfg.role = some .incomer) (state : s.tru.state = .resync)
    (notClosing : ¬(s.syu.state = .closing ∧ s.syu.owner = some .tru)) :
    ∃ t, Host.Outcome.next
        ((s.atClose.withTru fun u => { u with resyncCount := s.cfg.tResync.toNat }).truResyncOut.standing s) =
          (.next t : Host.Outcome State Fault Refusal) ∧ State.Consequence s t ∧ t.bcu = s.bcu ∧ t.dbu = s.dbu ∧
      (s.cfg.openTransition = true → t.tru.state = .openReturn ∧ t.tru.openDemand = true ∧ t.tru.hold = s.tru.hold) ∧
      (s.cfg.openTransition = false → t.tru.state = .onAlternate ∧ t.tru.hold = true) ∧
      (s.syu.owner = some .tru → t.syu.state = .idle ∨ s.syu.state = .idle) := by
  have before := State.atClose_transfer incomer state (fun u => { u with resyncCount := s.cfg.tResync.toNat }) fun _ => rfl
  have hold : (s.atClose.withTru fun u => { u with resyncCount := s.cfg.tResync.toNat }).tru.hold = s.tru.hold := by
    rw [State.withTru_tru, State.atClose_tru_of_incomer incomer]
  have syu : (s.atClose.withTru fun u => { u with resyncCount := s.cfg.tResync.toNat }).syu = s.atClose.syu := rfl
  have ticked : State.Told s.atClose (s.atClose.withTru fun u => { u with resyncCount := s.cfg.tResync.toNat }) := .withTru ..
  generalize (s.atClose.withTru fun u => { u with resyncCount := s.cfg.tResync.toNat }) = v at *
  have told := ticked.trans v.told_truResyncOut
  have cfg : v.cfg = s.cfg := ticked.cfg.trans s.atClose_cfg
  obtain ⟨openly, closed⟩ := State.truResyncOut_tru before
  rw [cfg, hold] at openly
  rw [cfg] at closed
  refine ⟨_, rfl, State.cons_standing told.toConsequence, State.standing_bcu_of_kept told.bcu, ?_, ?_, ?_, fun owned => ?_⟩
  · rw [State.standing_dbu, told.dbu, State.atClose_dbu]
  · rw [State.standing_tru]
    exact openly
  · rw [State.standing_tru]
    exact closed
  · rw [State.standing_syu, State.truResyncOut_syu before, State.truCancelled_syu, syu, State.atClose_syu]
    cases found : s.syu.state with
    | idle => exact .inr rfl
    | checking =>
      rw [if_pos ⟨rfl, owned⟩]
      exact .inl rfl
    | closing => exact absurd ⟨found, owned⟩ notClosing

/-- The parallel row: the count at its end and the flag (R182). -/
theorem State.parallelTimesOut {s : State} (due : s.cfg.tParallelMax.toNat ≤ s.tru.parallelCount + 1) :
    s.atClose.truParallelTick.standing s =
      { s with tru := { s.tru with parallelCount := s.cfg.tParallelMax.toNat, parallelTimeout := true } } := by
  have tru : s.atClose.truParallelTick.tru = { s.atClose.tru with
      parallelCount := s.cfg.tParallelMax.toNat, parallelTimeout := true } := by
    unfold State.truParallelTick
    rw [State.withTru_tru, State.atClose_cfg, State.atClose_tru]
    simp [due]
  have kept : s.atClose.truParallelTick = { s.atClose with tru := s.atClose.truParallelTick.tru } := rfl
  rw [kept, tru]
  unfold State.standing
  simp only [State.atClose_cfg, State.atClose_cvp, State.atClose_msu, State.atClose_cap, State.atClose_lkc,
    State.atClose_pim, State.atClose_pru, State.atClose_cfp, State.atClose_pending, State.atClose_dbu, State.atClose_clu,
    State.atClose_gcu, State.atClose_fcu]
  rw [State.atClose_bcu, State.atClose_syu, State.atClose_tru]

/-- Settles O44: each row on the state its cycle close forms. -/
theorem transferCountsExpire : Obligations.TransferCountsExpire := by
  intro s run incomer auto own
  have ticks {x : TransferState} (state : s.tru.state = x) : s.atClose.truTicks x = true :=
    State.atClose_truTicks run incomer auto own state
  refine ⟨?loss, ?short, ?back, ?resync, ?parallel⟩
  case loss =>
    intro state closed valid bad due
    rw [exec_lossConfirmExpiry_of_due (ticks state) closed (State.atClose_utilityUnhealthy incomer valid bad) due]
    exact State.lossIsolates closed incomer state
  case short =>
    intro state dead opened healthy free released due bus view
    have returns : s.atClose.truMayReturn = true := by
      rw [State.truMayReturn_iff, State.atClose_clu, State.atClose_cfg, State.atClose_currentSet,
        State.atClose_tru_of_incomer incomer]
      refine ⟨fun c claim => (nomatch free.symm.trans claim), released, ?_, bus⟩
      simpa [((healthOf_iff ..).mp healthy).1, healthy] using due
    rw [exec_returnShortExpiry_of_due (ticks state) dead opened (State.atClose_utilityHealthy incomer healthy).1 returns,
      State.returnsShort incomer own healthy free bus view]
  case back =>
    intro state alive opened healthy released due
    rw [exec_returnExpiry_of_due (ticks state) alive opened (State.atClose_utilityHealthy incomer healthy).1 released due]
    exact State.returnEnters opened incomer state own
  case resync =>
    intro state alive opened fine notClosing due
    rw [exec_resyncExpiry_of_due (ticks state) alive opened (State.atClose_utilityFine incomer fine) notClosing due]
    exact State.resyncRunsOut incomer state notClosing
  case parallel =>
    intro state closed fine alternate due
    rw [exec_parallelTimeout_of_due (ticks state) closed (State.atClose_utilityFine incomer fine) alternate due,
      State.parallelTimesOut due]

end Sys2Proof.Machine
end

section
/-! PROOFS. The timed moves of the link (O54), and a record encoded, sent and read (O47). -/
namespace Sys2Proof.Machine

/-! ### The timed moves of the link (R29, R31, R41) -/

theorem State.receives_iff (s : State) : s.receives = true ↔ s.cfp.run = .run ∧ s.lkc.link ≠ .off := by
  simp [State.receives, State.running_iff]

theorem exec_selfTimed_of_due {s : State} (run : s.cfp.run = .run) (on : s.lkc.link ≠ .off) (timed : s.lkc.selfTimed = false)
    (alone : s.lkc.heardNow = 0) (due : 2 ≤ s.lkc.silence) :
    exec .selfTimed s = .next (s.withLkc fun l => { l with silence := 3 }).becomeSelfTimed :=
  congrArg Host.Outcome.next (if_pos (by simp [s.receives_iff.mpr ⟨run, on⟩, timed, alone, due]))

/-- Settles O54: each row at its count's last tick. -/
theorem linkTimersMoveTheLink : Obligations.LinkTimersMoveTheLink := by
  intro s run
  refine ⟨fun listen due => ?_, fun duplicate silent due => ?_, fun on timed alone due => ⟨fun lowest => ?_, fun higher => ?_⟩⟩
  · exact congrArg Host.Outcome.next (if_pos (by simp [s.receives_iff, run, listen, due]))
  · exact congrArg Host.Outcome.next (if_pos (by simp [s.receives_iff, run, duplicate, silent, due]))
  · rw [exec_selfTimed_of_due run on timed alone due]
    exact congrArg Host.Outcome.next (if_pos lowest)
  · rw [exec_selfTimed_of_due run on timed alone due]
    exact congrArg Host.Outcome.next (if_neg (ne_true_of_eq_false higher))

/-! ### A record on the wire (R33, R196) -/

theorem byteAt_append_left {l : List Byte} {i : Nat} (inside : i < l.length) (m : List Byte) :
    byteAt (l ++ m) i = byteAt l i := by
  rw [byteAt, byteAt, List.getD_eq_getElem?_getD, List.getD_eq_getElem?_getD, List.getElem?_append_left inside]

theorem byteAt_append_right {l : List Byte} {n : Nat} (length : l.length = n) (m : List Byte) (i : Nat) :
    byteAt (l ++ m) (n + i) = byteAt m i := by
  rw [byteAt, byteAt, List.getD_eq_getElem?_getD, List.getD_eq_getElem?_getD, ← length,
    List.getElem?_append_right (Nat.le_add_right ..), Nat.add_sub_cancel_left]

/-- The CRC that a record is sent with is the CRC its receivers find (R33). -/
theorem crcGood_encodeRecord (r : BayRecord) : crcGood (encodeRecord r) = true := by
  have body : (encodeRecord r).take 36 = encodeBody r := List.take_left' (encodeBody_length r)
  have crc : wordAt (encodeRecord r) 36 = crc16 (encodeBody r) := by
    have byte (i : Nat) : byteAt (encodeRecord r) (36 + i) = byteAt (wordBytes (crc16 (encodeBody r))) i :=
      byteAt_append_right (encodeBody_length r) _ i
    rw [wordAt, byte 0, byte 1]
    exact wordBytes_join _
  simp [crcGood, encodeRecord_length, body, crc]

theorem length_encodeHead_encodeMeasured (r : BayRecord) : (encodeHead r ++ encodeMeasured r).length = 30 := rfl

/-- Bytes 0 to 5 of a record sent. -/
theorem byteAt_encodeRecord (r : BayRecord) {i : Nat} (head : i < 6) :
    byteAt (encodeRecord r) i = byteAt (encodeHead r) i := by
  rw [encodeRecord_part, List.append_assoc]
  exact byteAt_append_left head _

/-- The twelve words of bytes 6 to 29. -/
theorem wordAt_encodeRecord (r : BayRecord) {i : Nat} (measured : i + 1 < 24) :
    wordAt (encodeRecord r) (6 + i) = wordAt (encodeMeasured r) i := by
  have byte {j : Nat} (inside : j < 24) : byteAt (encodeRecord r) (6 + j) = byteAt (encodeMeasured r) j := by
    rw [encodeRecord_part, List.append_assoc]
    exact (byteAt_append_right (l := encodeHead r) rfl _ j).trans (byteAt_append_left inside _)
  rw [wordAt, wordAt, Nat.add_assoc, byte (Nat.lt_of_succ_lt measured), byte measured]

theorem wordAt_wordBytes (w : Word) (l : List Byte) : wordAt (wordBytes w ++ l) 0 = w := wordBytes_join w

theorem wordAt_wordBytes_add (w : Word) (l : List Byte) (i : Nat) : wordAt (wordBytes w ++ l) (i + 2) = wordAt l i := rfl

theorem wordAt_encodeMeasured (r : BayRecord) :
    (wordAt (encodeMeasured r) 0 = r.iaRe ∧ wordAt (encodeMeasured r) 2 = r.iaIm ∧ wordAt (encodeMeasured r) 4 = r.ibRe ∧
      wordAt (encodeMeasured r) 6 = r.ibIm ∧ wordAt (encodeMeasured r) 8 = r.icRe ∧ wordAt (encodeMeasured r) 10 = r.icIm) ∧
    wordAt (encodeMeasured r) 12 = r.busVoltage ∧ wordAt (encodeMeasured r) 14 = r.busFrequency ∧
    wordAt (encodeMeasured r) 16 = r.lineVoltage ∧ wordAt (encodeMeasured r) 18 = r.lineFrequency ∧
    wordAt (encodeMeasured r) 20 = r.p ∧ wordAt (encodeMeasured r) 22 = r.q := by
  have last : wordAt (wordBytes r.q) 0 = r.q := wordBytes_join r.q
  simp [encodeMeasured, wordAt_wordBytes, wordAt_wordBytes_add, last]

/-- The phasors, voltages, frequencies and powers are read as they were encoded. -/
theorem words_encodeRecord (r : BayRecord) :
    (wordAt (encodeRecord r) 6 = r.iaRe ∧ wordAt (encodeRecord r) 8 = r.iaIm ∧ wordAt (encodeRecord r) 10 = r.ibRe ∧
      wordAt (encodeRecord r) 12 = r.ibIm ∧ wordAt (encodeRecord r) 14 = r.icRe ∧ wordAt (encodeRecord r) 16 = r.icIm) ∧
    wordAt (encodeRecord r) 18 = r.busVoltage ∧ wordAt (encodeRecord r) 20 = r.busFrequency ∧
    wordAt (encodeRecord r) 22 = r.lineVoltage ∧ wordAt (encodeRecord r) 24 = r.lineFrequency ∧
    wordAt (encodeRecord r) 26 = r.p ∧ wordAt (encodeRecord r) 28 = r.q := by
  obtain ⟨⟨iaRe, iaIm, ibRe, ibIm, icRe, icIm⟩, busVoltage, busFrequency, lineVoltage, lineFrequency, p, q⟩ :=
    wordAt_encodeMeasured r
  have read {i : Nat} {w : Word} (word : wordAt (encodeMeasured r) i = w) (j : Nat) (place : j = 6 + i) (inside : i + 1 < 24) :
      wordAt (encodeRecord r) j = w := by rw [place, wordAt_encodeRecord r inside, word]
  exact ⟨⟨read iaRe 6 rfl (by decide), read iaIm 8 rfl (by decide), read ibRe 10 rfl (by decide), read ibIm 12 rfl (by decide),
      read icRe 14 rfl (by decide), read icIm 16 rfl (by decide)⟩,
    read busVoltage 18 rfl (by decide), read busFrequency 20 rfl (by decide), read lineVoltage 22 rfl (by decide),
    read lineFrequency 24 rfl (by decide), read p 26 rfl (by decide), read q 28 rfl (by decide)⟩

/-- Reading bytes 0 to 5, every code is the one encoded. -/
theorem decodeRecord_encodeRecord {r : BayRecord} (inRange : r.part.inRange = true) :
    decodeRecord (encodeRecord r) = some r := by
  obtain ⟨station, role, sect⟩ := headByte0 r.station (roleBits r.role) (secBits r.sect)
  obtain ⟨alignment, meas, summary, lockout⟩ := headByte2 (alignBits r.alignment) (measBits r.meas) (summaryBits r.summary) r.lockout
  obtain ⟨tripActive, bfNotice, faultGroup, sourceGroup, mode, hold, startDemand, openDemand⟩ :=
    headByte3 r.tripActive r.bfNotice r.faultGroup r.sourceGroup (r.mode == .manual) r.hold r.startDemand r.openDemand
  obtain ⟨parallelTimeout, claim, claimTarget, claimRank, unused4⟩ :=
    headByte4 r.parallelTimeout (claimBits r.claim) (r.claimTarget == .two) r.claimRank
  obtain ⟨transfer, unused5⟩ := headByte5 (transferBits r.transfer)
  have part : decodePart (roleBits r.role) (encodeRecord r) = some r.part := by
    rw [encodeRecord_part]
    exact decodePart_encode r inRange _ (length_encodeHead_encodeMeasured r) _
  have byte0 : byteAt (encodeHead r) 0 = BitVec.ofFin (w := 4) r.station ++ roleBits r.role ++ secBits r.sect := rfl
  have byte1 : byteAt (encodeHead r) 1 = r.cycle := rfl
  have byte2 : byteAt (encodeHead r) 2 =
    alignBits r.alignment ++ measBits r.meas ++ summaryBits r.summary ++ BitVec.ofBool r.lockout := rfl
  have byte3 : byteAt (encodeHead r) 3 =
    BitVec.ofBool r.tripActive ++ BitVec.ofBool r.bfNotice ++ BitVec.ofBool r.faultGroup ++ BitVec.ofBool r.sourceGroup
      ++ BitVec.ofBool (r.mode == .manual) ++ BitVec.ofBool r.hold ++ BitVec.ofBool r.startDemand
      ++ BitVec.ofBool r.openDemand := rfl
  have byte4 : byteAt (encodeHead r) 4 =
    BitVec.ofBool r.parallelTimeout ++ claimBits r.claim ++ BitVec.ofBool (r.claimTarget == .two)
      ++ BitVec.ofFin (w := 2) r.claimRank ++ 0#2 := rfl
  have byte5 : byteAt (encodeHead r) 5 = transferBits r.transfer ++ 0#4 := rfl
  obtain ⟨phasors, measured⟩ := words_encodeRecord r
  have modes : (if (r.mode == .manual) = true then Mode.manual else .auto) = r.mode := by cases r.mode <;> rfl
  have targets : (if (r.claimTarget == .two) = true then Sec.two else .one) = r.claimTarget := by cases r.claimTarget <;> rfl
  unfold decodeRecord
  rw [byteAt_encodeRecord r (i := 0) (by decide), byteAt_encodeRecord r (i := 1) (by decide),
    byteAt_encodeRecord r (i := 2) (by decide), byteAt_encodeRecord r (i := 3) (by decide),
    byteAt_encodeRecord r (i := 4) (by decide), byteAt_encodeRecord r (i := 5) (by decide)]
  simp only [byte0, byte1, byte2, byte3, byte4, byte5, station, role, sect, alignment, meas, summary, lockout, tripActive,
    bfNotice, faultGroup, sourceGroup, mode, hold, startDemand, openDemand, parallelTimeout, claim, claimTarget, claimRank,
    unused4, transfer, unused5, decode_sec, decode_align, decode_meas, decode_summary, decode_claim, decode_transfer, part,
    phasors, measured, modes, targets, and_self, if_true]

/-- The part of a feeder with priority 0 fails the reading (R196). -/
theorem decodeRecord_of_noPriority {r : BayRecord} {h : Word} {x : ShedState} (feeder : r.part = .feeder h 0 x) :
    decodeRecord (encodeRecord r) = none := by
  have byte (i : Nat) : byteAt (encodeRecord r) (30 + i) =
      byteAt (encodePart r.part ++ wordBytes (crc16 (encodeBody r))) i := by
    rw [encodeRecord_part]
    exact byteAt_append_right (length_encodeHead_encodeMeasured r) _ i
  have priority : byteAt (encodeRecord r) 32 = 0 := by
    rw [show 32 = 30 + 2 from rfl, byte 2, feeder]
    rfl
  have role : roleBits r.role = 3 := by
    unfold BayRecord.role
    rw [feeder]
    rfl
  obtain ⟨-, read, -⟩ := headByte0 r.station (roleBits r.role) (secBits r.sect)
  have field : (byteAt (encodeRecord r) 0).extractLsb' 2 2 = 3#2 := by
    rw [byteAt_encodeRecord r (by decide)]
    exact read.trans role
  have part : decodePart 3#2 (encodeRecord r) = none := by
    unfold decodePart
    rw [priority]
    simp
    split <;> rfl
  unfold decodeRecord
  simp only [field, part]
  split
  · split
    case h_1 found => cases found
    case h_2 => rfl
  · rfl

theorem RolePart.inRange_iff (p : RolePart) : p.inRange = true ↔ ∀ h n x, p = .feeder h n x → n ≠ 0 := by
  cases p <;> simp [RolePart.inRange]

/-- Settles O47: the CRC is good, and each field is read from the bits it was encoded in. -/
theorem sentRecordIsReadAsSent : Obligations.SentRecordIsReadAsSent := by
  intro r
  have good := crcGood_encodeRecord r
  refine ⟨encodeRecord_length r, good, fun inRange => ?_, fun h x feeder => ?_⟩
  · exact (if_pos good).trans (decodeRecord_encodeRecord ((RolePart.inRange_iff _).mpr inRange))
  · exact (if_pos good).trans (decodeRecord_of_noPriority feeder)

end Sys2Proof.Machine
end

section
/-! PROOFS. What TOP forms from the image: tie identity, expected sets, island map, island states and lockout view (O53). -/
namespace Sys2Proof.Machine

/-! ### Sets of stations -/

theorem StationSet.has_insert (m : StationSet) (j k : Station) :
    StationSet.has (StationSet.insert m k) j = true ↔ StationSet.has m j = true ∨ j = k := by
  simp only [StationSet.has, StationSet.insert, BitVec.getLsbD_or, BitVec.getLsbD_twoPow, Bool.or_eq_true, Bool.and_eq_true,
    decide_eq_true_eq, Fin.ext_iff]
  have inside := j.isLt
  exact or_congr Iff.rfl ⟨fun h => h.2.symm, fun h => ⟨by omega, h.symm⟩⟩

/-- Inserting the stations of a list that meet a test. -/
theorem has_foldl_insert (p : Station → Bool) (l : List Station) (m : StationSet) (j : Station) :
    StationSet.has (l.foldl (fun n k => if p k then StationSet.insert n k else n) m) j = true ↔
      StationSet.has m j = true ∨ (j ∈ l ∧ p j = true) := by
  induction l generalizing m with
  | nil => simp
  | cons k l ih =>
    rw [List.foldl_cons, ih, List.mem_cons]
    cases test : p k with
    | true =>
      rw [if_pos rfl, StationSet.has_insert]
      constructor
      · rintro ((held | rfl) | ⟨mem, pj⟩)
        · exact .inl held
        · exact .inr ⟨.inl rfl, test⟩
        · exact .inr ⟨.inr mem, pj⟩
      · rintro (held | ⟨rfl | mem, pj⟩)
        · exact .inl (.inl held)
        · exact .inl (.inr rfl)
        · exact .inr ⟨mem, pj⟩
    | false =>
      rw [if_neg (by decide)]
      refine or_congr Iff.rfl (and_congr_left fun pj => ⟨.inr, fun mem => mem.resolve_left ?_⟩)
      rintro rfl
      exact absurd pj (by rw [test]; decide)

theorem has_stationsWith (p : Station → Bool) (k : Station) : (stationsWith p).getLsbD k.val = true ↔ p k = true := by
  have empty : ¬StationSet.has 0 k = true := ne_true_of_eq_false BitVec.getLsbD_zero
  exact (has_foldl_insert p allStations 0 k).trans
    ((or_iff_right empty).trans (and_iff_right (mem_allStations k)))

/-! ### The tie identity (R55) -/

theorem BayRecord.tieCandidate_iff (r : BayRecord) : r.tieCandidate = true ↔ r.role = .tie ∨ r.sect = none := by
  simp [BayRecord.tieCandidate]

theorem State.mem_tieCandidates (s : State) (k : Station) :
    k ∈ s.tieCandidates ↔ ∃ r, s.heldRec k = some r ∧ (r.role = .tie ∨ r.sect = none) := by
  simp [State.tieCandidates, mem_allStations, Option.any_eq_true, BayRecord.tieCandidate_iff]

theorem State.nodup_tieCandidates (s : State) : s.tieCandidates.Nodup := List.Pairwise.filter _ (show allStations.Nodup by decide)

theorem State.tieIdentity_eq_none_iff (s : State) : s.tieIdentity = .none ↔ s.tieCandidates = [] := by
  unfold State.tieIdentity
  split
  case h_1 none => simp [none]
  case h_2 one => simp [one]
  case h_3 notNone _ => exact ⟨(nomatch ·), fun none => absurd none notNone⟩

theorem State.tieIdentity_eq_station_iff (s : State) (k : Station) : s.tieIdentity = .station k ↔ s.tieCandidates = [k] := by
  unfold State.tieIdentity
  split
  case h_1 none => simp [none]
  case h_2 one => simp [one]
  case h_3 _ notOne => exact ⟨(nomatch ·), fun one => absurd one (notOne k)⟩

/-! ### Expected sets and island map (R56, R57) -/

theorem State.expectedAbsent_iff (s : State) :
    s.expectedAbsent = true ↔ ∃ k : Station, (s.pim.get k).expected = true ∧ s.heldRec k = none := by
  simp [State.expectedAbsent, State.entry, mem_allStations]

theorem State.expectedSet_eq_none_iff (s : State) (x : Sec) :
    s.expectedSet x = none ↔ s.expectedAbsent = true ∨ s.tieIdentity = .conflict := by
  unfold State.expectedSet
  cases s.expectedAbsent <;> simp

theorem State.has_expectedSet {s : State} {x : Sec} {set : StationSet} (known : s.expectedSet x = some set) (k : Station) :
    set.getLsbD k.val = true ↔
      ((s.pim.get k).expected = true ∧ ∃ r, s.heldRec k = some r ∧ r.sect = some x) ∨ s.tieIdentity = .station k := by
  unfold State.expectedSet at known
  split at known
  · cases known
  · cases known
    rw [has_stationsWith]
    simp [State.entry, Option.any_eq_true]

theorem State.islandMap_of_absent {s : State} (absent : s.expectedAbsent = true) : s.islandMap = .unknown := if_pos absent

theorem State.islandMap_of_conflict {s : State} (conflict : s.tieIdentity = .conflict) : s.islandMap = .unknown := by
  unfold State.islandMap
  rw [conflict]
  split <;> rfl

theorem State.islandMap_of_none {s : State} (held : s.expectedAbsent = false) (none : s.tieIdentity = .none) :
    s.islandMap = .apart := by
  unfold State.islandMap
  rw [held, none]
  rfl

theorem State.islandMap_of_station {s : State} (held : s.expectedAbsent = false) {k : Station}
    (tie : s.tieIdentity = .station k) :
    (s.usableRec k = none → s.islandMap = .unknown) ∧
      ∀ r, s.usableRec k = some r → s.islandMap = if closedGroup r.summary then .joined else .apart := by
  unfold State.islandMap
  rw [held, tie]
  refine ⟨fun absent => ?_, fun r usable => ?_⟩
  · simp [absent]
  · simp [usable]

/-! ### Island states (R58, R59) -/

theorem State.islandClosed_iff (s : State) (m : IslandMap) (x : Sec) (role : Role) : s.islandClosed m x role = true ↔
    ∃ (k : Station) (r : BayRecord) (y : Sec), s.usableRec k = some r ∧ r.role = role ∧ r.sect = some y ∧
      (y = x ∨ m = .joined) ∧ (r.summary = .closed ∨ r.summary = .opening ∨ r.summary = .faulty) := by
  simp only [State.islandClosed, State.anyUsable_iff, Bool.and_eq_true, beq_iff_eq, BayRecord.inIsland_iff, closedGroup_iff]
  constructor
  · rintro ⟨k, r, usable, ⟨same, y, sect, near⟩, closed⟩
    exact ⟨k, r, y, usable, same, sect, near, closed⟩
  · rintro ⟨k, r, y, usable, same, sect, near, closed⟩
    exact ⟨k, r, usable, ⟨same, y, sect, near⟩, closed⟩

theorem State.islandState_eq_unknown_iff (s : State) (m : IslandMap) (x : Sec) :
    s.islandState m x = .unknown ↔ m = .unknown := by
  unfold State.islandState
  split
  · exact iff_of_true rfl ‹_›
  · next known =>
    refine iff_of_false ?_ known
    split
    · exact (nomatch ·)
    · split <;> exact (nomatch ·)

theorem State.islandState_eq_grid_iff {m : IslandMap} (known : m ≠ .unknown) (s : State) (x : Sec) :
    s.islandState m x = .grid ↔ s.islandClosed m x .incomer = true := by
  unfold State.islandState
  rw [if_neg known]
  split
  · exact iff_of_true rfl ‹_›
  · next absent =>
    refine iff_of_false ?_ absent
    split <;> exact (nomatch ·)

theorem State.islandState_eq_genset_iff {m : IslandMap} (known : m ≠ .unknown) {s : State} {x : Sec}
    (notGrid : s.islandState m x ≠ .grid) : s.islandState m x = .genset ↔ s.islandClosed m x .generator = true := by
  have absent := mt (State.islandState_eq_grid_iff known s x).mpr notGrid
  unfold State.islandState
  rw [if_neg known, if_neg absent]
  split
  · exact iff_of_true rfl ‹_›
  · exact iff_of_false (nomatch ·) ‹_›

theorem ownIsland_of_one {c : Settings} (notTie : c.role ≠ some .tie) (sec : c.sec = some .one) (a b : IslandState) :
    ownIsland c a b = a := by
  unfold ownIsland
  rw [if_neg (mt (Settings.isRole_iff ..).mp notTie), sec]

theorem ownIsland_of_two {c : Settings} (notTie : c.role ≠ some .tie) (sec : c.sec = some .two) (a b : IslandState) :
    ownIsland c a b = b := by
  unfold ownIsland
  rw [if_neg (mt (Settings.isRole_iff ..).mp notTie), sec]

/-! ### The lockout view (R60) -/

theorem State.formTopology_locked (s : State) (flag : Bool) (x : Sec) :
    (s.formTopology flag).locked x = s.lockedOut flag x := by cases x <;> rfl

theorem State.lockedOut_iff (s : State) (flag : Bool) (x : Sec) : s.lockedOut flag x = true ↔
    (flag = true ∧ (s.cfg.role = some .tie ∨ s.cfg.sec = some x)) ∨
      ∃ (k : Station) (r : BayRecord), k ≠ s.cfg.own ∧ s.usableRec k = some r ∧ r.lockout = true ∧
        (r.role = .tie ∨ r.sect = none ∨ r.sect = some x) := by
  simp only [State.lockedOut, Bool.or_eq_true, Bool.and_eq_true, Settings.belongs_iff, List.any_eq_true, mem_allStations,
    true_and, bne_iff_ne, State.usable_iff, BayRecord.belongs_iff, exists_and_left]

/-- Settles O53: each result of TOP by what it is formed from. -/
theorem boardTopologyFollowsTheImage : Obligations.BoardTopologyFollowsTheImage := by
  intro s
  refine ⟨⟨?none, ?station⟩, ?expected, ⟨?unknown, ?joined⟩, ?islands, ?own, ?view⟩
  case none =>
    rw [State.tieIdentity_eq_none_iff, List.eq_nil_iff_forall_not_mem]
    simp only [State.mem_tieCandidates, not_exists, not_and, not_or]
  case station =>
    intro k
    rw [State.tieIdentity_eq_station_iff, eq_singleton_iff_of_nodup s.nodup_tieCandidates]
    simp only [State.mem_tieCandidates]
    constructor
    · exact fun members => ⟨(members k).mpr rfl, fun j r held tie => (members j).mp ⟨r, held, tie⟩⟩
    · exact fun ⟨found, alone⟩ j => ⟨fun ⟨r, held, tie⟩ => alone j r held tie, fun same => same ▸ found⟩
  case expected =>
    intro x
    rw [State.expectedSet_eq_none_iff, State.expectedAbsent_iff]
    exact ⟨Iff.rfl, fun set => State.has_expectedSet⟩
  case unknown =>
    rw [← State.expectedAbsent_iff]
    cases held : s.expectedAbsent with
    | true => simp [State.islandMap_of_absent held]
    | false =>
      cases tie : s.tieIdentity with
      | none => simp [State.islandMap_of_none held tie]
      | conflict => simp [State.islandMap_of_conflict tie]
      | station k =>
        obtain ⟨absent, usable⟩ := State.islandMap_of_station held tie
        cases record : s.usableRec k with
        | none => simp [absent record, record]
        | some r => cases shut : closedGroup r.summary <;> simp [usable r record, shut, record]
  case joined =>
    have present : (∀ k : Station, (s.pim.get k).expected = true → s.heldRec k ≠ none) ↔ s.expectedAbsent = false := by
      rw [← Bool.not_eq_true, State.expectedAbsent_iff]
      simp
    rw [present]
    cases held : s.expectedAbsent with
    | true => simp [State.islandMap_of_absent held]
    | false =>
      cases tie : s.tieIdentity with
      | none => simp [State.islandMap_of_none held tie]
      | conflict => simp [State.islandMap_of_conflict tie]
      | station k =>
        obtain ⟨absent, usable⟩ := State.islandMap_of_station held tie
        cases record : s.usableRec k with
        | none => simp [absent record, record]
        | some r =>
          rw [usable r record]
          simp only [← closedGroup_iff]
          cases shut : closedGroup r.summary <;> simp [shut, record]
  case islands =>
    refine fun m x => ⟨s.islandState_eq_unknown_iff m x, fun known => ⟨?_, fun notGrid => ?_⟩⟩
    · rw [State.islandState_eq_grid_iff known, State.islandClosed_iff]
    · rw [State.islandState_eq_genset_iff known notGrid, State.islandClosed_iff]
  case own =>
    exact fun a b => ⟨fun notTie sec => ownIsland_of_one notTie sec a b, fun notTie sec => ownIsland_of_two notTie sec a b,
      fun tie => if_pos ((Settings.isRole_iff ..).mpr tie)⟩
  case view =>
    intro flag x
    rw [State.formTopology_locked, State.lockedOut_iff]

end Sys2Proof.Machine
end

section
/-! PROOFS. READ_BACK after an own transmission (O49). -/
namespace Sys2Proof.Machine

/-- A read-back is taken after a transmission of this cycle in PUBLISH, once (R30). -/
def State.readsBack (s : State) : Prop :=
  s.cfp.run = .run ∧ s.lkc.link = .publish ∧ s.lkc.sent = true ∧ s.lkc.slotsHeard.getLsbD s.cfg.own.val = false

theorem State.readsBack_iff (s : State) : s.readsBack ↔
    (s.receives && s.lkc.link == .publish && s.lkc.sent && !StationSet.has s.lkc.slotsHeard s.cfg.own) = true := by
  simp only [State.readsBack, Bool.and_eq_true, State.receives_iff, beq_iff_eq, Bool.not_eq_true', StationSet.has]
  constructor
  · rintro ⟨run, publish, sent, first⟩
    exact ⟨⟨⟨⟨run, by rw [publish]; exact (nomatch ·)⟩, publish⟩, sent⟩, first⟩
  · rintro ⟨⟨⟨⟨run, -⟩, publish⟩, sent⟩, first⟩
    exact ⟨run, publish, sent, first⟩

/-- The own slot has ended in silence (R30). -/
def State.ownSilent (s : State) : State :=
  s.withLkc fun l => { l.reach s.cfg (slotEnd s.cfg s.cfg.own) with slotsHeard := StationSet.insert l.slotsHeard s.cfg.own }

theorem exec_readBack_silent {s : State} (reads : s.readsBack) : exec (.readBack .silent) s = .next s.ownSilent.readBackFailed :=
  congrArg Host.Outcome.next (if_pos (s.readsBack_iff.mp reads))

theorem exec_readBack_frame {s : State} (reads : s.readsBack) (f : Frame) :
    exec (.readBack (.frame f)) s = .next ((s.inSlot s.cfg.own f).judgeReadBack f) :=
  congrArg Host.Outcome.next (if_pos (s.readsBack_iff.mp reads))

theorem exec_readBack_of_not {s : State} (rests : ¬s.readsBack) (h : Heard) : exec (.readBack h) s = .next s :=
  congrArg Host.Outcome.next (if_neg (mt s.readsBack_iff.mpr rests))

theorem State.timed_ownSilent (s : State) : State.Timed s s.ownSilent :=
  .withLkc s ((s.lkc.reach_marks s.cfg _).1.trans {})

/-- The frame sent stands over the moves of the timer. -/
theorem Lkc.reach_txFrame (l : Lkc) (c : Settings) (pos : Nat) : (l.reach c pos).txFrame = l.txFrame := by
  unfold Lkc.reach
  dsimp only
  split <;> rfl

theorem State.inSlot_txFrame (s : State) (k : Station) (f : Frame) : (s.inSlot k f).lkc.txFrame = s.lkc.txFrame :=
  s.lkc.reach_txFrame s.cfg _

theorem State.inSlot_ownHeard (s : State) (f : Frame) : (s.inSlot s.cfg.own f).lkc.ownHeard = true := by
  show ((s.lkc.reach ..).ownHeard || s.cfg.own == s.cfg.own) = true
  simp

/-- A duplicate is seen: DUPLICATE with its flag and LINK_ALARM, and no entry (R29, R30). -/
theorem State.duplicate_only (s : State) :
    s.duplicate = { s with lkc := s.duplicate.lkc, cfp := { s.cfp with attention := s.duplicate.cfp.attention } } ∧
      s.duplicate.lkc.link = .duplicate ∧ s.duplicate.lkc.duplicateSeen = true ∧ s.duplicate.lkc.silentCount = 0 ∧
      s.duplicate.lkc.count = s.lkc.count ∧ s.duplicate.pendingBit .linkAlarm = true :=
  ⟨rfl, rfl, rfl, rfl, rfl, s.linkAlarm_pendingBit _⟩

theorem State.slotMismatched_only (s : State) :
    s.slotMismatched =
      { s with lkc := s.slotMismatched.lkc, cfp := { s.cfp with attention := s.slotMismatched.cfp.attention } } := rfl

/-- A read-back that is no good frame within the slot (R30). -/
theorem State.judgeReadBack_of_failed {s : State} {f : Frame}
    (failed : f.tail ≠ 0x7E#8 ∨ crcGood f.bytes = false ∨ slotEnd s.cfg s.cfg.own < f.start + 15744) :
    s.judgeReadBack f = s.crcFailed (some s.cfg.own) := by
  refine if_neg ?_
  rintro ⟨tail, fits, good⟩
  obtain bad | bad | bad := failed
  · exact bad tail
  · exact absurd good (by rw [bad]; decide)
  · exact absurd fits (Nat.not_le.mpr bad)

/-- A good frame within the slot, compared with the frame sent (R30). -/
theorem State.judgeReadBack_of_good {s : State} {f : Frame} (tail : f.tail = 0x7E#8) (good : crcGood f.bytes = true)
    (fits : f.start + 15744 ≤ slotEnd s.cfg s.cfg.own) :
    s.judgeReadBack f =
      if f.bytes = s.lkc.txFrame then s
      else if (byteAt f.bytes 0).extractLsb' 4 4 = BitVec.ofFin (w := 4) s.cfg.own then s.duplicate
      else s.slotMismatched := if_pos ⟨tail, fits, good⟩

/-- What a read-back failed leaves, before and after the slot is reached. -/
theorem State.Timed.readBackFailed {s u : State} (timed : State.Timed s u) :
    State.Received s.cfg.own s (u.crcFailed (some s.cfg.own)) ∧ (u.crcFailed (some s.cfg.own)).lkc.crcError = true ∧
      (u.crcFailed (some s.cfg.own)).pendingBit .linkAlarm = true ∧
      (u.crcFailed (some s.cfg.own)).pim.get s.cfg.own =
        { s.pim.get s.cfg.own with crcErrors := min 255 ((s.pim.get s.cfg.own).crcErrors + 1) } := by
  obtain ⟨received, flag, pending, counter⟩ := u.crcFailed_some s.cfg.own
  exact ⟨(timed.received _).trans received, flag, pending, by rw [← timed.pim]; exact counter⟩

/-- Settles O49: silence, a failed frame, and the three readings of a good one. -/
theorem readBackIsComparedWithTheFrameSent : Obligations.ReadBackIsComparedWithTheFrameSent := by
  refine ⟨fun s run publish sent first => ⟨?silent, fun f => ?frame⟩, fun h s rests => exec_readBack_of_not ?stands h⟩
  case silent =>
    refine ⟨_, exec_readBack_silent ⟨run, publish, sent, first⟩, ?_⟩
    obtain ⟨⟨rest, others, -, link⟩, flag, pending, counter⟩ := s.timed_ownSilent.readBackFailed
    exact ⟨rest, others, flag, pending, link.trans publish, counter⟩
  case frame =>
    refine ⟨_, exec_readBack_frame ⟨run, publish, sent, first⟩ f, ?_⟩
    obtain ⟨timed, number⟩ := s.timed_inSlot s.cfg.own f
    have txFrame := s.inSlot_txFrame s.cfg.own f
    have ownHeard := s.inSlot_ownHeard f
    generalize s.inSlot s.cfg.own f = u at *
    have cfg : u.cfg = s.cfg := timed.cfg
    by_cases good : f.tail = 0x7E#8 ∧ crcGood f.bytes = true ∧ f.start + 15744 ≤ slotEnd s.cfg s.cfg.own
    case neg =>
      have failed : f.tail ≠ 0x7E#8 ∨ crcGood f.bytes = false ∨ slotEnd s.cfg s.cfg.own < f.start + 15744 := by
        simpa only [Classical.not_and_iff_not_or_not, Bool.not_eq_true, Nat.not_le] using good
      obtain ⟨⟨rest, others, -, link⟩, flag, pending, counter⟩ := timed.readBackFailed
      rw [State.judgeReadBack_of_failed (by rw [cfg]; exact failed), cfg]
      exact ⟨rest, others, fun _ => ⟨flag, pending, link.trans publish, counter⟩, fun whole => absurd whole good⟩
    case pos =>
      obtain ⟨tail, crc, fits⟩ := good
      have fine : ¬(f.tail ≠ 0x7E#8 ∨ crcGood f.bytes = false ∨ slotEnd s.cfg s.cfg.own < f.start + 15744) := by
        simp [tail, crc, fits]
      rw [State.judgeReadBack_of_good tail crc (by rw [cfg]; exact fits), cfg, txFrame]
      by_cases same : f.bytes = s.lkc.txFrame
      · rw [if_pos same]
        obtain ⟨link, count, crcError, mismatch, late, duplicate, reference, mismatches, -⟩ := timed.marks
        refine ⟨by rw [timed.rest], fun j _ => by rw [timed.pim], fun bad => absurd bad fine, fun _ =>
          ⟨fun _ => ⟨timed.rest, ownHeard, link.trans publish, crcError, mismatch, late, duplicate, reference, number, count,
            mismatches⟩, fun differs => absurd same differs, fun differs => absurd same differs⟩⟩
      · rw [if_neg same]
        by_cases own : (byteAt f.bytes 0).extractLsb' 4 4 = BitVec.ofFin (w := 4) s.cfg.own
        · rw [if_pos own]
          obtain ⟨rest, link, seen, silent, -, pending⟩ := u.duplicate_only
          have pim : u.duplicate.pim = s.pim := timed.pim
          refine ⟨by rw [rest, timed.rest], fun j _ => by rw [pim], fun bad => absurd bad fine, fun _ =>
            ⟨fun equal => absurd equal same, fun _ _ => ⟨link, seen, silent, pim, pending⟩, fun _ other => absurd own other⟩⟩
        · rw [if_neg own]
          have pim : u.slotMismatched.pim = s.pim := timed.pim
          have pending : u.slotMismatched.pendingBit .linkAlarm = true := u.linkAlarm_pendingBit _
          refine ⟨by rw [u.slotMismatched_only, timed.rest], fun j _ => by rw [pim], fun bad => absurd bad fine, fun _ =>
            ⟨fun equal => absurd equal same, fun _ equal => absurd equal own,
              fun _ _ => ⟨timed.marks.link.trans publish, rfl, congrArg (satInc 255) timed.marks.mismatches, pim, pending⟩⟩⟩
  case stands =>
    rintro ⟨run, publish, sent, first⟩
    obtain config | away | unsent | heard := rests
    · exact (nomatch run.symm.trans config)
    · exact away publish
    · exact (nomatch sent.symm.trans unsent)
    · exact (nomatch first.symm.trans heard)

end Sys2Proof.Machine
end

section
/-! PROOFS. A frame while the timer is unlocked or in the own slot, and what an arrival does to the timer (O51). -/
namespace Sys2Proof.Machine

/-! ### The moves of the cycle timer (R27, R37, R39, R40) -/

/-- The items that the timing of a record forms are as they were. -/
structure Lkc.SameTiming (l m : Lkc) : Prop where
  unlocked : m.unlocked = l.unlocked := by rfl
  number : m.number = l.number := by rfl
  relocks : m.relocks = l.relocks := by rfl
  relockCycle : m.relockCycle = l.relockCycle := by rfl
  selfTimed : m.selfTimed = l.selfTimed := by rfl
  heardNow : m.heardNow = l.heardNow := by rfl
  heardBefore : m.heardBefore = l.heardBefore := by rfl

theorem Lkc.SameTiming.trans {l m n : Lkc} (h : Lkc.SameTiming l m) (k : Lkc.SameTiming m n) : Lkc.SameTiming l n :=
  ⟨k.unlocked.trans h.unlocked, k.number.trans h.number, k.relocks.trans h.relocks, k.relockCycle.trans h.relockCycle,
    k.selfTimed.trans h.selfTimed, k.heardNow.trans h.heardNow, k.heardBefore.trans h.heardBefore⟩

theorem Lkc.SameTiming.reference {l m : Lkc} (h : Lkc.SameTiming l m) : m.reference = l.reference := by
  rw [Lkc.reference, Lkc.reference, h.heardNow, h.heardBefore]

theorem Lkc.reach_timing (l : Lkc) (c : Settings) (pos : Nat) : Lkc.SameTiming l (l.reach c pos) := by
  unfold Lkc.reach
  dsimp only
  split
  · exact {}
  · exact {}

/-- In a cycle that has begun, reaching an event moves the timer, and the slots heard stand. -/
theorem Lkc.reach_of_begun {l : Lkc} (begun : l.preCycle = false) (c : Settings) (pos : Nat) :
    (l.reach c pos).timer = pos ∧ (l.reach c pos).slotsHeard = l.slotsHeard := by
  unfold Lkc.reach
  dsimp only
  rw [begun]
  exact ⟨rfl, rfl⟩

theorem Lkc.move_timing (l : Lkc) (c : Settings) (old new : Nat) : Lkc.SameTiming l (l.move c old new) := by
  unfold Lkc.move
  dsimp only
  split
  · exact {}
  · exact {}

theorem Lkc.move_kept (l : Lkc) (c : Settings) (old new : Nat) :
    (l.move c old new).timer = new ∧ (l.move c old new).sent = l.sent ∧ (l.move c old new).phasorMade = l.phasorMade := by
  unfold Lkc.move
  dsimp only
  split
  · exact ⟨rfl, rfl, rfl⟩
  · exact ⟨rfl, rfl, rfl⟩

theorem Lkc.move_forward {l : Lkc} {c : Settings} {old new : Nat} (forward : old < new) :
    ((l.move c old new).ownSkipped = true ↔ l.ownSkipped = true ∨ (old < slotStart c c.own ∧ slotStart c c.own ≤ new)) ∧
      ((l.move c old new).phasorOwed = true ↔ l.phasorOwed = true ∨
        (l.phasorMade = false ∧ old < gridPosition c 0 ∧ gridPosition c 0 ≤ new)) := by
  unfold Lkc.move
  dsimp only
  rw [if_pos forward]
  exact ⟨by simp, by simp⟩

theorem Lkc.move_back {l : Lkc} {c : Settings} {old new : Nat} (back : new ≤ old) :
    ((l.move c old new).ownSkipped = true ↔ l.ownSkipped = true ∧ slotStart c c.own < new) ∧
      (l.preCycle = false → ((l.move c old new).phasorOwed = true ↔
        l.phasorOwed = true ∧ (gridPosition c 0 < new ∨ l.phasorMade = true))) := by
  unfold Lkc.move
  dsimp only
  rw [if_neg (Nat.not_lt.mpr back)]
  refine ⟨by simp, fun begun => ?_⟩
  simp only [begun, Bool.false_or, Bool.and_eq_true, Bool.not_eq_true', decide_eq_false_iff_not, Classical.not_and_iff_not_or_not, Nat.not_le,
    Bool.not_eq_false]

/-- A shift (R39). -/
theorem Lkc.shift_spec (l : Lkc) (c : Settings) (k : Station) (start : Nat) :
    (l.shift c k start).timer = slotStart c k + 960 + 15744 ∧ (l.shift c k start).selfTimed = false ∧
      (l.shift c k start).relocks = l.relocks ∧ (l.shift c k start).relockCycle = l.relockCycle ∧
      (l.shift c k start).number = l.number ∧ (l.shift c k start).heardNow = l.heardNow := by
  have timing := l.move_timing c (frameArrival c start) (frameEnd c k)
  exact ⟨(l.move_kept ..).1, rfl, timing.relocks, timing.relockCycle, timing.number, timing.heardNow⟩

/-- A relock (R40). -/
theorem Lkc.relock_spec (l : Lkc) (c : Settings) (k : Station) (start : Nat) (number : BitVec 8) :
    (l.relock c k start number).timer = slotStart c k + 960 + 15744 ∧ (l.relock c k start number).selfTimed = false ∧
      (l.relock c k start number).unlocked = false ∧
      (l.relock c k start number).relocks = min 255 (l.relocks + 1) ∧
      (l.relock c k start number).relockCycle = some l.count ∧ (l.relock c k start number).number = number ∧
      (l.relock c k start number).heardNow = l.heardNow ∧
      ∀ j : Station, l.slotsHeard.getLsbD j.val = true → (l.relock c k start number).slotsHeard.getLsbD j.val = true := by
  have timing := l.move_timing c (frameArrival c start) (frameEnd c k)
  exact ⟨(l.move_kept ..).1, rfl, rfl, rfl, rfl, rfl, timing.heardNow,
    fun j heard => (StationSet.has_insert l.slotsHeard j k).mpr (.inl heard)⟩

/-! ### The reference station (R38) -/

theorem StationSet.lowest_eq_some_iff (m : StationSet) (k : Station) :
    StationSet.lowest m = some k ↔ m.getLsbD k.val = true ∧ ∀ j : Station, m.getLsbD j.val = true → k ≤ j := by
  constructor
  · intro found
    refine ⟨List.find?_some (p := fun k => StationSet.has m k) found, fun j member => Fin.not_lt.mp fun lower => ?_⟩
    have ordered : allStations = List.finRange 16 := by decide
    rw [StationSet.lowest, ordered, List.find?_eq_some_iff_getElem] at found
    obtain ⟨-, i, inside, place, before⟩ := found
    rw [List.getElem_finRange] at place
    have earlier : j.val < i := by
      rw [← place] at lower
      exact lower
    have skipped := before j.val earlier
    rw [List.getElem_finRange] at skipped
    have absent : StationSet.has m j = false := by simpa using skipped
    exact (nomatch member.symm.trans absent)
  · rintro ⟨member, low⟩
    refine find_allStations_eq_some member fun j lower => ?_
    rw [StationSet.has, ← Bool.not_eq_true]
    exact fun held => absurd (low j held) (Fin.not_le.mpr lower)

/-- The heard list after a valid record (R38). -/
theorem State.hear_heardNow (s : State) (k j : Station) :
    (s.hear k).lkc.heardNow.getLsbD j.val = true ↔ s.lkc.heardNow.getLsbD j.val = true ∨ (j = k ∧ k < s.cfg.own) := by
  unfold State.hear
  split
  · next lower => exact (StationSet.has_insert ..).trans (or_congr Iff.rfl (and_iff_left lower).symm)
  · next higher => exact (or_iff_left fun ⟨_, lower⟩ => higher lower).symm

/-- What a valid record's mark in the heard list leaves. -/
theorem State.hear_kept (s : State) (k : Station) :
    (s.hear k).lkc = { s.lkc with heardNow := (s.hear k).lkc.heardNow } := by
  unfold State.hear
  split <;> rfl

/-! ### A frame while the timer is unlocked (R37) -/

/-- The frame has ended, and marks the own slot where it began in it (R31, R37). -/
def State.atFrameEnd (s : State) (f : Frame) : State :=
  (s.withLkc fun l => l.reach s.cfg (frameArrival s.cfg f.start)).markOwnSlot f.start

theorem State.timed_markOwnSlot (s : State) (start : Nat) :
    State.Timed s (s.markOwnSlot start) ∧ Lkc.SameTiming s.lkc (s.markOwnSlot start).lkc := by
  unfold State.markOwnSlot
  split
  · split
    · exact ⟨.withLkc s {}, {}⟩
    · exact ⟨.withLkc s {}, {}⟩
  · exact ⟨.refl s, {}⟩

theorem State.timed_atFrameEnd (s : State) (f : Frame) :
    State.Timed s (s.atFrameEnd f) ∧ Lkc.SameTiming s.lkc (s.atFrameEnd f).lkc := by
  obtain ⟨timed, timing⟩ := (s.withLkc fun l => l.reach s.cfg (frameArrival s.cfg f.start)).timed_markOwnSlot f.start
  exact ⟨(State.Timed.withLkc s (s.lkc.reach_marks ..).1).trans timed, (s.lkc.reach_timing ..).trans timing⟩

theorem exec_recordArrival_unlocked {s : State} (run : s.cfp.run = .run) (on : s.lkc.link ≠ .off)
    (unlocked : s.lkc.unlocked = true) (f : Frame) : exec (.recordArrival f) s = .next (s.arrivalUnlocked f) := by
  show Host.Outcome.next (s.recordArrival f) = _
  rw [State.recordArrival, if_pos (s.receives_iff.mpr ⟨run, on⟩), if_pos unlocked]

theorem State.arrivalUnlocked_of_failed {s : State} {f : Frame} (failed : f.tail ≠ 0x7E#8 ∨ receivedRecord f.bytes = none) :
    s.arrivalUnlocked f = (s.atFrameEnd f).crcFailed none := by
  have none : (if f.tail = endPattern then receivedRecord f.bytes else none) = none := by
    split
    · exact failed.resolve_left (not_not_intro ‹_›)
    · rfl
  rw [State.arrivalUnlocked, none]
  rfl

/-- The acquisition: a relock onto the station's slot, and the record accepted (R37, R40). -/
def State.acquired (s : State) (r : BayRecord) (start : Nat) : State :=
  ((s.hear r.station).withLkc fun l => l.relock s.cfg r.station start r.cycle).accept r.station r

theorem State.arrivalUnlocked_of_record {s : State} {f : Frame} {r : BayRecord} (tail : f.tail = 0x7E#8)
    (record : receivedRecord f.bytes = some r) : s.arrivalUnlocked f =
      if r.station = s.cfg.own then (if s.lkc.link = .duplicate then s.atFrameEnd f else (s.atFrameEnd f).duplicate)
      else if s.cfg.peerMask.getLsbD r.station.val = true then (s.atFrameEnd f).acquired r f.start
      else s.atFrameEnd f := by
  have some : (if f.tail = endPattern then receivedRecord f.bytes else none) = some r := (if_pos tail).trans record
  have cfg : (s.atFrameEnd f).cfg = s.cfg := (s.timed_atFrameEnd f).1.cfg
  rw [State.arrivalUnlocked, some, State.acquired, cfg]
  rfl

/-- The first frame of a station of the mask acquires the timer (R37, R40). -/
theorem State.acquired_spec (s : State) (r : BayRecord) (start : Nat) :
    s.acquired r start = { s with lkc := (s.acquired r start).lkc, pim := (s.acquired r start).pim } ∧
      Lkc.SameMarks s.lkc (s.acquired r start).lkc ∧
      ((s.acquired r start).lkc.unlocked = false ∧ (s.acquired r start).lkc.number = r.cycle ∧
        (s.acquired r start).lkc.relocks = min 255 (s.lkc.relocks + 1) ∧
        (s.acquired r start).lkc.relockCycle = some s.lkc.count ∧ (s.acquired r start).lkc.selfTimed = false ∧
        (s.acquired r start).lkc.timer = slotStart s.cfg r.station + 960 + 15744) ∧
      (∀ j : Station, (s.acquired r start).lkc.heardNow.getLsbD j.val = true ↔
        s.lkc.heardNow.getLsbD j.val = true ∨ (j = r.station ∧ r.station < s.cfg.own)) ∧
      (s.acquired r start).pim.get r.station = { s.pim.get r.station with record := some r, accepted := s.lkc.count } ∧
      ∀ j : Station, j ≠ r.station → (s.acquired r start).pim.get j = s.pim.get j := by
  have heard := s.hear_heardNow r.station
  obtain ⟨timed, -⟩ := s.timed_hear r.station
  have kept := s.hear_kept r.station
  unfold State.acquired
  generalize s.hear r.station = u at timed kept heard ⊢
  have marks := (u.lkc.relock_marks s.cfg r.station start r.cycle).1
  obtain ⟨timer, selfTimed, unlocked, relocks, relockCycle, number, heardNow, -⟩ :=
    u.lkc.relock_spec s.cfg r.station start r.cycle
  have relocked : State.Timed s (u.withLkc fun l => l.relock s.cfg r.station start r.cycle) :=
    timed.trans (.withLkc u marks)
  have lkc : (u.withLkc fun l => l.relock s.cfg r.station start r.cycle).lkc =
      u.lkc.relock s.cfg r.station start r.cycle := rfl
  rw [timed.marks.count] at relockCycle
  rw [show u.lkc.relocks = s.lkc.relocks by rw [kept]] at relocks
  generalize (u.withLkc fun l => l.relock s.cfg r.station start r.cycle) = v at relocked lkc ⊢
  rw [← lkc] at timer selfTimed unlocked relocks relockCycle number heardNow
  refine ⟨?_, relocked.marks, ⟨unlocked, number, relocks, relockCycle, selfTimed, timer⟩, fun j => ?_, ?_, fun j ne => ?_⟩
  · rw [State.accept, State.withEntry, relocked.rest]
  · rw [← heard j, ← heardNow]
    exact Iff.rfl
  · rw [State.accept, State.withEntry_get_self, relocked.pim, relocked.marks.count]
  · rw [State.accept, State.withEntry_get_of_ne _ ne, relocked.pim]

/-! ### A frame in a slot of a cycle that has begun (R28) -/

theorem State.inSlot_timing (s : State) (k : Station) (f : Frame) : Lkc.SameTiming s.lkc (s.inSlot k f).lkc :=
  (s.lkc.reach_timing s.cfg (slotArrival s.cfg k f)).trans {}

/-- A frame taken whole in its slot leaves the timer where it ends (R28). -/
theorem State.inSlot_of_whole {s : State} (begun : s.lkc.preCycle = false) {k : Station} {f : Frame}
    (tail : f.tail = 0x7E#8) (fits : f.start + 15744 ≤ slotEnd s.cfg k) :
    (s.inSlot k f).lkc.timer = f.start + 15744 ∧
      ∀ j : Station, s.lkc.slotsHeard.getLsbD j.val = true → (s.inSlot k f).lkc.slotsHeard.getLsbD j.val = true := by
  obtain ⟨timer, slots⟩ := Lkc.reach_of_begun begun s.cfg (slotArrival s.cfg k f)
  refine ⟨timer.trans (if_pos ⟨tail, fits⟩), fun j heard => (StationSet.has_insert _ j k).mpr (.inl ?_)⟩
  rw [slots]
  exact heard

/-- A good frame with the own number in the own slot, where none was sent, is a duplicate (R29, R30). -/
theorem State.arrivalLocked_of_own {s : State} {f : Frame} {r : BayRecord}
    (quiet : s.lkc.link = .listen ∨ s.lkc.link = .publish ∧ s.lkc.sent = false)
    (slot : slotOf s.cfg f.start = some s.cfg.own) (first : s.lkc.slotsHeard.getLsbD s.cfg.own.val = false)
    (tail : f.tail = 0x7E#8) (fits : f.start + 15744 ≤ slotEnd s.cfg s.cfg.own)
    (record : receivedRecord f.bytes = some r) (own : r.station = s.cfg.own) :
    s.arrivalLocked f = (s.inSlot s.cfg.own f).duplicate := by
  have fresh : ¬StationSet.has s.lkc.slotsHeard s.cfg.own = true := ne_true_of_eq_false first
  have unsent : ¬(s.lkc.link = .publish ∧ s.lkc.sent = true) := by
    rintro ⟨publish, sent⟩
    obtain listen | ⟨-, unsent⟩ := quiet
    · exact (nomatch publish.symm.trans listen)
    · exact (nomatch sent.symm.trans unsent)
  obtain ⟨timed, -⟩ := s.timed_inSlot s.cfg.own f
  have away : (s.inSlot s.cfg.own f).lkc.link ≠ .duplicate := by
    rw [timed.marks.link]
    obtain listen | ⟨publish, -⟩ := quiet
    · rw [listen]; exact (nomatch ·)
    · rw [publish]; exact (nomatch ·)
  have judged : s.arrivalLocked f = (s.inSlot s.cfg.own f).ownSlotFrame (slotRecord s.cfg s.cfg.own f) f.start := by
    rw [State.arrivalLocked, slot]
    exact (if_neg fresh).trans ((if_pos rfl).trans (if_neg unsent))
  rw [judged, slotRecord_of_whole tail fits, record]
  exact (if_neg away).trans (if_pos (by simp [own, timed.cfg]))

/-! ### The timing of a valid record (R38 to R40) -/

theorem aligned_iff (c : Settings) (k : Station) (start : Nat) :
    aligned c k start = true ↔ ((start : Int) - ((slotStart c k : Int) + 960)).natAbs ≤ periodUnits c / 16 := by
  unfold aligned
  rw [decide_eq_true_iff, Int.natCast_add]
  exact Iff.rfl

/-- A record of the reference shifts the timer or relocks it (R39, R40). -/
theorem State.takeTiming_of_reference {s : State} {r : BayRecord} (reference : s.lkc.reference = some r.station) (start : Nat) :
    s.takeTiming r start =
      if ((start : Int) - ((slotStart s.cfg r.station : Int) + 960)).natAbs ≤ periodUnits s.cfg / 16 ∧ r.cycle = s.lkc.number
      then s.withLkc fun l => l.shift s.cfg r.station start
      else s.withLkc fun l => l.relock s.cfg r.station start r.cycle :=
  (if_pos reference).trans (ite_of_iff (by rw [Bool.and_eq_true, aligned_iff, beq_iff_eq]) rfl rfl)

theorem State.takeTiming_of_other {s : State} {r : BayRecord} (other : s.lkc.reference ≠ some r.station) (start : Nat) :
    s.takeTiming r start = s := if_neg other

/-- Both heard lists after a valid record (R38). -/
theorem State.hear_either (s : State) (k j : Station) :
    ((s.hear k).lkc.heardNow ||| (s.hear k).lkc.heardBefore).getLsbD j.val = true ↔
      (s.lkc.heardNow ||| s.lkc.heardBefore).getLsbD j.val = true ∨ (j = k ∧ k < s.cfg.own) := by
  rw [show (s.hear k).lkc.heardBefore = s.lkc.heardBefore by rw [s.hear_kept]]
  simp only [BitVec.getLsbD_or, Bool.or_eq_true, s.hear_heardNow]
  grind

/-- A valid record of a lower station that none of both lists undercuts is the reference's (R38). -/
theorem State.hear_reference {s : State} {k : Station} (lower : k < s.cfg.own)
    (low : ∀ j : Station, (s.lkc.heardNow ||| s.lkc.heardBefore).getLsbD j.val = true → k ≤ j) :
    (s.hear k).lkc.reference = some k := by
  rw [Lkc.reference, StationSet.lowest_eq_some_iff]
  refine ⟨(s.hear_either k k).mpr (.inr ⟨rfl, lower⟩), fun j member => ?_⟩
  obtain held | ⟨rfl, -⟩ := (s.hear_either k j).mp member
  · exact low j held
  · exact Fin.le_refl _

theorem State.hear_reference_of_other {s : State} {k : Station}
    (other : (s.cfg.own < k ∧ (s.lkc.heardNow ||| s.lkc.heardBefore).getLsbD k.val = false) ∨
      ∃ j : Station, j < k ∧ (s.lkc.heardNow ||| s.lkc.heardBefore).getLsbD j.val = true) :
    (s.hear k).lkc.reference ≠ some k := by
  rw [Lkc.reference, Ne, StationSet.lowest_eq_some_iff]
  rintro ⟨member, low⟩
  obtain ⟨higher, absent⟩ | ⟨j, below, held⟩ := other
  · obtain held | ⟨-, lower⟩ := (s.hear_either k k).mp member
    · exact (nomatch held.symm.trans absent)
    · exact absurd lower (Fin.not_lt.mpr (Nat.le_of_lt higher))
  · exact absurd (low j ((s.hear_either k j).mpr (.inl held))) (Fin.not_le.mpr below)

/-- Check 4 leaves of the link what the timing of the record made, LATE and its counter apart (R36). -/
theorem State.validRecord_lkc (s : State) (r : BayRecord) (start : Nat) :
    ∃ late lates, (s.validRecord r start).lkc =
      { ((s.hear r.station).takeTiming r start).lkc with late := late, lates := lates } := by
  unfold State.validRecord
  dsimp only
  split
  · exact ⟨_, _, rfl⟩
  · exact ⟨_, _, rfl⟩

/-- A valid record of the reference (R39, R40). -/
theorem State.validRecord_of_reference {s : State} {r : BayRecord} (lower : r.station < s.cfg.own)
    (low : ∀ j : Station, (s.lkc.heardNow ||| s.lkc.heardBefore).getLsbD j.val = true → r.station ≤ j) (start : Nat) :
    ((s.validRecord r start).lkc.timer = slotStart s.cfg r.station + 960 + 15744 ∧
      (s.validRecord r start).lkc.selfTimed = false ∧
      (s.validRecord r start).lkc.heardNow.getLsbD r.station.val = true) ∧
    (((start : Int) - ((slotStart s.cfg r.station : Int) + 960)).natAbs ≤ periodUnits s.cfg / 16 ∧ r.cycle = s.lkc.number →
      (s.validRecord r start).lkc.relocks = s.lkc.relocks ∧ (s.validRecord r start).lkc.relockCycle = s.lkc.relockCycle ∧
      (s.validRecord r start).lkc.number = s.lkc.number) ∧
    (¬(((start : Int) - ((slotStart s.cfg r.station : Int) + 960)).natAbs ≤ periodUnits s.cfg / 16 ∧
        r.cycle = s.lkc.number) →
      (s.validRecord r start).lkc.relocks = min 255 (s.lkc.relocks + 1) ∧
      (s.validRecord r start).lkc.relockCycle = some s.lkc.count ∧ (s.validRecord r start).lkc.number = r.cycle ∧
      ∀ j : Station, s.lkc.slotsHeard.getLsbD j.val = true → (s.validRecord r start).lkc.slotsHeard.getLsbD j.val = true) := by
  have cfg : (s.hear r.station).cfg = s.cfg := (s.timed_hear r.station).1.cfg
  have kept := s.hear_kept r.station
  have heard := (s.hear_heardNow r.station r.station).mpr (.inr ⟨rfl, lower⟩)
  have timing := State.takeTiming_of_reference (State.hear_reference lower low) start
  obtain ⟨late, lates, made⟩ := s.validRecord_lkc r start
  rw [made, timing, cfg, show (s.hear r.station).lkc.number = s.lkc.number by rw [kept]]
  by_cases shifts : ((start : Int) - ((slotStart s.cfg r.station : Int) + 960)).natAbs ≤ periodUnits s.cfg / 16 ∧
      r.cycle = s.lkc.number
  · rw [if_pos shifts]
    obtain ⟨timer, selfTimed, relocks, relockCycle, number, heardNow⟩ :=
      (s.hear r.station).lkc.shift_spec s.cfg r.station start
    refine ⟨⟨timer, selfTimed, ?_⟩, fun _ => ⟨relocks.trans ?_, relockCycle.trans ?_, number.trans ?_⟩, fun not => absurd shifts not⟩
    · exact (congrArg (BitVec.getLsbD · r.station.val) heardNow).trans heard
    all_goals rw [kept]
  · rw [if_neg shifts]
    obtain ⟨timer, selfTimed, -, relocks, relockCycle, number, heardNow, slots⟩ :=
      (s.hear r.station).lkc.relock_spec s.cfg r.station start r.cycle
    refine ⟨⟨timer, selfTimed, ?_⟩, fun shift => absurd shift shifts, fun _ => ⟨relocks.trans ?_, relockCycle.trans ?_, number,
      fun j member => slots j ?_⟩⟩
    · exact (congrArg (BitVec.getLsbD · r.station.val) heardNow).trans heard
    · rw [kept]
    · rw [kept]
    · rw [kept]
      exact member

/-- A valid record of another station than the reference moves nothing (R38). -/
theorem State.validRecord_of_other {s : State} {r : BayRecord}
    (other : (s.cfg.own < r.station ∧ (s.lkc.heardNow ||| s.lkc.heardBefore).getLsbD r.station.val = false) ∨
      ∃ j : Station, j < r.station ∧ (s.lkc.heardNow ||| s.lkc.heardBefore).getLsbD j.val = true) (start : Nat) :
    (s.validRecord r start).lkc.timer = s.lkc.timer ∧ (s.validRecord r start).lkc.relocks = s.lkc.relocks ∧
      (s.validRecord r start).lkc.number = s.lkc.number ∧ (s.validRecord r start).lkc.selfTimed = s.lkc.selfTimed := by
  obtain ⟨late, lates, made⟩ := s.validRecord_lkc r start
  rw [made, State.takeTiming_of_other (State.hear_reference_of_other other) start, s.hear_kept]
  exact ⟨rfl, rfl, rfl, rfl⟩

/-! ### A frame in another station's slot (R34) -/

theorem State.misplaced_iff (s : State) (r : BayRecord) : s.misplaced r = true ↔
    s.cfg.peerMask.getLsbD r.station.val = true ∧ r.station < s.cfg.own ∧
      ∀ j, s.lkc.reference = some j → r.station ≤ j := by
  unfold State.misplaced
  rw [Bool.and_eq_true, Bool.and_eq_true, decide_eq_true_iff, and_assoc]
  refine and_congr Iff.rfl (and_congr Iff.rfl ?_)
  cases s.lkc.reference <;> simp

/-- Check 2 fails: the timing of the frame is taken where its station is no higher than the reference (R34, R40). -/
theorem State.checkTwoFails_timing (s : State) (r : BayRecord) (start : Nat) :
    (s.checkTwoFails r start).lkc.heardNow = s.lkc.heardNow ∧
    (s.misplaced r = true → (s.checkTwoFails r start).lkc.timer = slotStart s.cfg r.station + 960 + 15744 ∧
      (s.checkTwoFails r start).lkc.relocks = min 255 (s.lkc.relocks + 1) ∧
      (s.checkTwoFails r start).lkc.number = r.cycle ∧ (s.checkTwoFails r start).lkc.relockCycle = some s.lkc.count) ∧
    (s.misplaced r = false → (s.checkTwoFails r start).lkc.timer = s.lkc.timer ∧
      (s.checkTwoFails r start).lkc.relocks = s.lkc.relocks ∧ (s.checkTwoFails r start).lkc.number = s.lkc.number) := by
  unfold State.checkTwoFails
  dsimp only
  cases misplaced : s.misplaced r with
  | true =>
    rw [if_pos rfl]
    obtain ⟨timer, -, -, relocks, relockCycle, number, heardNow, -⟩ :=
      s.slotMismatched.lkc.relock_spec s.cfg r.station start r.cycle
    exact ⟨heardNow, fun _ => ⟨timer, relocks, number, relockCycle⟩, (nomatch ·)⟩
  | false =>
    rw [if_neg (by decide)]
    exact ⟨rfl, (nomatch ·), fun _ => ⟨rfl, rfl, rfl⟩⟩

/-! ### RECORD_ARRIVAL -/

theorem State.crcFailed_none (s : State) :
    s.crcFailed none =
      { s with lkc := (s.crcFailed none).lkc, cfp := { s.cfp with attention := (s.crcFailed none).cfp.attention } } := rfl

/-- Settles O51: a frame while unlocked by its record, in the own slot, in a peer's slot by its station, and the moves. -/
theorem arrivalsUnlockedAndTheirTiming : Obligations.ArrivalsUnlockedAndTheirTiming := by
  refine ⟨?unlocked, ?ownSlot, ?peerSlot, ?moves⟩
  case unlocked =>
    intro f s run on unlocked
    refine ⟨_, exec_recordArrival_unlocked run on unlocked f, ?_⟩
    obtain ⟨timed, timing⟩ := s.timed_atFrameEnd f
    by_cases good : f.tail = 0x7E#8 ∧ ∃ r, receivedRecord f.bytes = some r
    case neg =>
      have failed : f.tail ≠ 0x7E#8 ∨ receivedRecord f.bytes = none := by
        simpa only [Classical.not_and_iff_not_or_not, not_exists, ← Option.eq_none_iff_forall_ne_some] using good
      rw [State.arrivalUnlocked_of_failed failed]
      generalize s.atFrameEnd f = u at timed timing ⊢
      exact ⟨by rw [u.crcFailed_none, timed.rest], timed.marks.count, fun _ => ⟨rfl, u.linkAlarm_pendingBit _, timed.pim,
        timing.unlocked.trans unlocked, timing.number, timing.relocks⟩, fun r tail record => absurd ⟨tail, r, record⟩ good⟩
    case pos =>
      obtain ⟨tail, r, record⟩ := good
      have fine : ¬(f.tail ≠ 0x7E#8 ∨ receivedRecord f.bytes = none) := by simp [tail, record]
      have arrives := State.arrivalUnlocked_of_record (s := s) tail record
      generalize s.atFrameEnd f = u at timed timing arrives
      have stays : s.arrivalUnlocked f = u → (s.arrivalUnlocked f = { s with lkc := (s.arrivalUnlocked f).lkc } ∧
          (s.arrivalUnlocked f).lkc.count = s.lkc.count) := fun same => by
        rw [same]
        exact ⟨timed.rest, timed.marks.count⟩
      by_cases own : r.station = s.cfg.own
      · rw [if_pos own] at arrives
        by_cases already : s.lkc.link = .duplicate
        · rw [if_pos already] at arrives
          obtain ⟨rest, count⟩ := stays arrives
          refine ⟨by rw [rest], count, fun bad => absurd bad fine, fun r' _ found => ?_⟩
          obtain rfl := Option.some.inj (record.symm.trans found)
          exact ⟨fun _ away => absurd already away, fun other => absurd own other, fun other => absurd own other⟩
        · rw [if_neg already] at arrives
          obtain ⟨rest, link, seen, silent, count, pending⟩ := u.duplicate_only
          rw [arrives]
          refine ⟨by rw [rest, timed.rest], count.trans timed.marks.count, fun bad => absurd bad fine, fun r' _ found => ?_⟩
          obtain rfl := Option.some.inj (record.symm.trans found)
          exact ⟨fun _ _ => ⟨link, seen, silent, pending, timed.pim, timing.unlocked.trans unlocked⟩,
            fun other => absurd own other, fun other => absurd own other⟩
      · rw [if_neg own] at arrives
        cases member : s.cfg.peerMask.getLsbD r.station.val with
        | false =>
          rw [if_neg (by rw [member]; decide)] at arrives
          obtain ⟨rest, count⟩ := stays arrives
          refine ⟨by rw [rest], count, fun bad => absurd bad fine, fun r' _ found => ?_⟩
          obtain rfl := Option.some.inj (record.symm.trans found)
          refine ⟨fun same => absurd same own, fun _ _ => ⟨rest, ?_⟩, fun _ within => (nomatch within.symm.trans member)⟩
          rw [arrives]
          exact ⟨timing.unlocked.trans unlocked, timed.marks.link, timed.marks.crcError, timing.relocks, timing.heardNow⟩
        | true =>
          rw [if_pos member] at arrives
          obtain ⟨rest, marks, ⟨free, number, relocks, relockCycle, selfTimed, timer⟩, heard, entry, others⟩ :=
            u.acquired_spec r f.start
          rw [arrives]
          refine ⟨by rw [rest, timed.rest], marks.count.trans timed.marks.count, fun bad => absurd bad fine,
            fun r' _ found => ?_⟩
          obtain rfl := Option.some.inj (record.symm.trans found)
          refine ⟨fun same => absurd same own, fun _ without => (nomatch without.symm.trans member), fun _ _ =>
            ⟨⟨free, number, ?_, ?_, selfTimed, marks.link.trans timed.marks.link, ?_⟩, fun j => ?_, ?_, fun j ne => ?_⟩⟩
          · rw [relocks, timing.relocks]
          · rw [relockCycle, timed.marks.count]
          · rw [timer, timed.cfg]
          · rw [heard, timing.heardNow, timed.cfg]
          · rw [entry, timed.pim, timed.marks.count]
          · rw [others j ne, timed.pim]
  case ownSlot =>
    intro f r s run locked quiet slot first tail fits record own
    have on : s.lkc.link ≠ .off := by
      obtain listen | ⟨publish, -⟩ := quiet
      · rw [listen]; exact (nomatch ·)
      · rw [publish]; exact (nomatch ·)
    refine ⟨_, exec_recordArrival_locked run on locked f, ?_⟩
    rw [State.arrivalLocked_of_own quiet slot first tail fits record own]
    exact ⟨rfl, rfl, rfl, State.linkAlarm_pendingBit .., rfl⟩
  case peerSlot =>
    intro f k r s run on locked begun slot peer first tail fits record
    refine ⟨_, exec_recordArrival_locked run on locked f, ?_⟩
    rw [State.arrivalLocked_of_peer slot peer first, slotRecord_of_whole tail fits, record]
    obtain ⟨timed, -⟩ := s.timed_inSlot k f
    have timing := s.inSlot_timing k f
    obtain ⟨timer, slots⟩ := State.inSlot_of_whole begun tail fits
    generalize s.inSlot k f = u at timed timing timer slots ⊢
    refine ⟨fun same member => ?_, fun other => ?_⟩
    · subst same
      rw [u.checkFrame_of_masked (by rw [timed.cfg]; exact member)]
      refine ⟨fun ⟨lower, low⟩ => ?_, fun other => ?_⟩
      · obtain ⟨⟨moved, selfTimed, heard⟩, shifts, relocks⟩ := State.validRecord_of_reference (s := u) (r := r)
          (by rw [timed.cfg]; exact lower) (by rw [timing.heardNow, timing.heardBefore]; exact low) f.start
        rw [timed.cfg] at moved shifts relocks
        rw [timing.number, timing.relocks] at shifts relocks
        rw [timing.relockCycle] at shifts
        rw [timed.marks.count] at relocks
        refine ⟨moved, selfTimed, heard, shifts, fun apart => ?_⟩
        obtain ⟨count, cycle, number, kept⟩ := relocks apart
        exact ⟨count, cycle, number, fun j member => kept j (slots j member)⟩
      · obtain ⟨moved, relocks, number, selfTimed⟩ := State.validRecord_of_other (s := u) (r := r)
          (by rw [timed.cfg, timing.heardNow, timing.heardBefore]; exact other) f.start
        exact ⟨moved.trans timer, relocks.trans timing.relocks, number.trans timing.number, selfTimed.trans timing.selfTimed⟩
    · rw [u.checkFrame_of_other other]
      obtain ⟨-, -, pim, -, -⟩ := u.checkTwoFails_only k r f.start
      obtain ⟨heard, taken, stands⟩ := u.checkTwoFails_timing r f.start
      have misplaced := u.misplaced_iff r
      rw [timed.cfg, timing.reference] at misplaced
      refine ⟨pim.trans timed.pim, heard.trans timing.heardNow, fun low => ?_, fun high => ?_⟩
      · obtain ⟨moved, relocks, number, relockCycle⟩ := taken (misplaced.mpr low)
        rw [timed.cfg] at moved
        rw [timing.relocks] at relocks
        rw [timed.marks.count] at relockCycle
        exact ⟨moved, relocks, number, relockCycle⟩
      · obtain ⟨moved, relocks, number⟩ := stands ((Bool.not_eq_true _).mp (mt misplaced.mp high))
        exact ⟨moved.trans timer, relocks.trans timing.relocks, number.trans timing.number⟩
  case moves =>
    exact fun l c old new => ⟨l.move_kept c old new, Lkc.move_forward, Lkc.move_back⟩

end Sys2Proof.Machine
end
